-- ==== Sys2Proof/Word.lean ====
section
/-! DEFINITION. Word.lean: the two word types of the part, an octet and a fingerprint, with their plainest arithmetic. -/

namespace Sys2Proof

/-- Eight bits (spec 00, terms). -/
abbrev Octet := BitVec 8

/-- A device's 48-bit identity: maker 12 bits, model 12 bits, serial 24 bits, most significant first (spec 00, conventions). -/
abbrev Fingerprint := BitVec 48

/-- The octet that holds a number below 256. -/
abbrev octet (n : Nat) : Octet := BitVec.ofNat 8 n

end Sys2Proof
end

