-- ==== Sys2Proof/Config.lean ====
section
/-! DEFINITION. Config.lean: the free values, constants without a body that stand for what the manual leaves open.
A claim that holds of the model holds whatever these are. Each is applied to `State.choices`, a counter that advances at
every use, so that two uses are independent. -/

namespace Sys2Proof.Config

/-- Which lane is taken first when one event acts on both and the manual gives no order (R31, R183): true for lane B.
Assumption log 8. -/
opaque laneBFirst : Nat → Bool

/-- Where, among the timers that run out at the same moment, the next one stands (R17, R24, R25: "either order is possible").
Assumption log 9. -/
opaque place : Nat → Nat

/-- Whether a measured current that is no whole number of mA is reported as the next whole mA (R41 gives no rounding).
Assumption log 10. -/
opaque roundsUp : Nat → Bool

/-- Whether the die is below 110 °C at a cooldown check that the part's own clock presents (R33). Assumption log 11. -/
opaque dieBelow110 : Nat → Bool

end Sys2Proof.Config
end

