-- ==== Sys2Proof/Syntax.lean ====
section
/-! DEFINITION. Syntax.lean: the commands of the part, one constructor of `Instr` per row of spec/opcode_table.json, with the
operands that the event itself brings. What a management request carries is in the request queue, so its row has no operand. -/

namespace Sys2Proof

/-- The two contact groups of the plug (spec 00, terms). -/
inductive Lane where
  | a | b
  deriving DecidableEq, Repr

/-- What the STRAP pin shows when it is read (R9). -/
inductive Strap where
  /-- a resistor of one of the eight codes -/
  | resistor (code : Nat)
  | opened
  | shorted
  deriving DecidableEq, Repr

/-- How a frame on a tool bus ends (R5, R6, R7): at its tail bit, with the line bits between the delimiters (inserted bits
included), in a break of eight 1s after some content bits, or abandoned as LONG. -/
inductive FrameEnd where
  | tail (bits : List Bool)
  | brk (contentBits : Nat)
  | long
  deriving DecidableEq, Repr

/-- What takes the idle count of a lane in GUARD back to zero (R47): a 0 on the line, a delimiter that opens a frame of some
device, the end of that frame, or the end of DISCARD after a LONG one (R7). -/
inductive GuardReport where
  | zero
  | delimiter
  | frameEnd (how : FrameEnd)
  | discardEnd
  deriving DecidableEq, Repr

/-- What the tool-bus receiver reports during SLOTS (R7, R8, R55). Moments are bit times from the start of the current slot: of
the first bit of a 0, and of the completion of a delimiter. -/
inductive SlotReport where
  | zero (moment : Nat)
  | delimiter (moment : Nat)
  | frameEnd (how : FrameEnd)
  | discardEnd
  deriving DecidableEq, Repr

/-- The commands: one constructor per row of spec/opcode_table.json, in the table's order. A receiver row without a lane is one of the arm
link; the end of DISCARD on a tool bus is a report in GUARD or SLOTS (assumption log 24). -/
inductive Instr where
  | powerOn (strap : Strap) (dieAbove125 : Bool)
  | pinReset
  | resetRelease (strap : Strap) (dieAbove125 : Bool)
  | armFrameReceived (bits : List Bool)
  | frameLong
  | frameBreak (contentBits : Nat)
  | transmitStart
  | linkTimerExpiry
  | identify
  | readStatus
  | laneControlEnable
  | laneControlDisable
  | laneControlClearLatch
  | laneControlNone
  | laneOptionsWrite
  | laneOptionsRead
  | writeProfile
  | readProfile
  | startCensus
  | stopCensus
  | readRoster
  | find
  | mapWrite
  | mapClear
  | mapRead
  | setProvisionalRange
  | nameDevice
  | release
  | cycleListWrite
  | cycleListClear
  | cycleListRead
  | cycleControlStart
  | cycleControlStop
  | cycleControlNone
  | fetchNotices
  | noticeMasksWrite
  | noticeMasksRead
  | readCounters
  | resetPart (dieAbove125 : Bool)
  | unknownRequest
  | lockAssert (lane : Lane)
  | lockDeassert (lane : Lane)
  | probeCurrentChange (lane : Lane) (microamps : Nat)
  | qualifyTimerExpiry (lane : Lane)
  | rampVoltageReached (lane : Lane)
  | rampTimerExpiry (lane : Lane)
  | laneCurrentChange (lane : Lane) (microamps : Nat)
  | overcurrentMaskExpiry (lane : Lane)
  | backfeedVoltageChange (lane : Lane) (above : Bool)
  | backfeedMaskExpiry (lane : Lane)
  | removalTimerExpiry (lane : Lane)
  | liveStabilityExpiry (lane : Lane)
  | dischargeTimerExpiry (lane : Lane)
  | cooldownExpiry (lane : Lane) (dieBelow110 : Bool)
  | overTemperatureSet
  | overTemperatureClear
  | exchangeGrant (lane : Lane)
  | guardCountReached (lane : Lane)
  | guardLimitReached (lane : Lane)
  | requestTailBit (lane : Lane)
  | replyDelimiterComplete (lane : Lane)
  | replyTimeout (lane : Lane)
  | replyFrameEnd (lane : Lane) (how : FrameEnd)
  | slotsEnd (lane : Lane)
  | silenceCheckDue (slot : Nat)
  | recallEchoDue (slot : Nat)
  | periodTimerExpiry
  | openingDelimiter
  | discardEnd
  | transmitTailBit
  | guardIdleLost (lane : Lane) (report : GuardReport)
  | slotStart (lane : Lane)
  | slotObservation (lane : Lane) (report : SlotReport)
  deriving DecidableEq, Repr

end Sys2Proof
end

