-- ==== Sys2Proof/Machine/State.lean ====
section
/-! DEFINITION. State.lean: every piece of state the manual gives the part, as plain data, and the state after reset. -/

namespace Sys2Proof.Machine

/-- The machine's faults: none. The manual describes no event that stops the part; every error is an effect on the state
(a counter, an outcome, a REFUSAL, a status code, a lane in FAULT). Nothing raises one, so the type is safe. -/
inductive Fault where
  deriving DecidableEq, Repr

/-- Why a command has no meaning. -/
inductive Refusal where
  /-- Raised by an arm of `exec` whose command has no meaning yet; safe, since the machine stops there. No arm raises it. -/
  | notModelled (mnemonic : String)
  deriving DecidableEq, Repr

/-! ## The arm link (spec 01) -/

/-- The state of a line receiver (section 1.2). -/
inductive RxState where
  | hunt | frame | discard
  deriving DecidableEq, Repr

/-- The frame kinds of the arm link (R10). -/
inductive ArmKind where
  | request | data | cycle | response | reply | refusal | report
  deriving DecidableEq, Repr

/-- A frame the part sends; its destination name is 0 (R10). -/
structure ArmFrame where
  source  : Octet
  kind    : ArmKind
  tag     : Octet
  payload : List Octet
  deriving DecidableEq, Repr

/-- A REQUEST in the request queue, kept whole with its tag and payload (R14). -/
structure Request where
  tag     : Octet
  payload : List Octet
  deriving DecidableEq, Repr

/-- The LINK counter group, in the order READ COUNTERS returns it (R192). -/
structure LinkCounters where
  framesGood      : Nat
  corrupt         : Nat
  framingErrors   : Nat
  inboundOverflow : Nat
  misdirected     : Nat
  outboundDrops   : Nat
  deriving DecidableEq, Repr

/-- The Arm Link Port (R19). The transmitter holds the line bits of the frame in transmission, none while idle (R1, R16). A timer holds the
moment at which it runs out, in ms of the part's clock; none while stopped. -/
structure ArmLink where
  rx        : RxState
  tx        : Option (List Bool)
  linkUp    : Bool
  linkTimer : Option Nat
  requests  : List Request
  outbound  : List ArmFrame
  counters  : LinkCounters
  deriving DecidableEq, Repr

/-! ## Lane power (spec 02) -/

/-- The seven power states of a lane (section 2.1). -/
inductive PowerState where
  | off | waiting | ramping | live | discharging | fault | latched
  deriving DecidableEq, Repr

/-- The causes of an entry to FAULT or LATCHED (R20, R40). -/
inductive Trip where
  | ramp | overcurrent | short | backfeed | thermal
  deriving DecidableEq, Repr

/-- What the end of a discharge does (R20). -/
inductive DisablePending where
  | no | disable | reset
  deriving DecidableEq, Repr

/-- The causes of an entry to a power state (R40). -/
inductive LaneCause where
  | enabled | discharged | cooled | cleared | coupled | ramped | unlocked | removed | disabled | reset
  | trip (why : Trip)
  deriving DecidableEq, Repr

/-- The eight timers of an LPC (section 2.1): the moment each runs out, none while it does not run. -/
structure PowerTimers where
  qualify     : Option Nat
  ramp        : Option Nat
  overcurrent : Option Nat
  backfeed    : Option Nat
  removal     : Option Nat
  stability   : Option Nat
  discharge   : Option Nat
  cooldown    : Option Nat
  deriving DecidableEq, Repr

/-- A Lane Power Controller with the inputs it senses (R20, R24, R29, R30). The limit is in 0.1 A steps, currents in µA. -/
structure Power where
  state          : PowerState
  limit          : Nat
  faultCount     : Nat
  lastFault      : Option Trip
  disablePending : DisablePending
  timers         : PowerTimers
  lock           : Bool
  probeCurrent   : Nat
  laneCurrent    : Nat
  overSupply     : Bool
  deriving DecidableEq, Repr

/-! ## Tool-bus exchanges (spec 03) -/

/-- One exchange profile (R42). -/
structure Profile where
  rate    : Nat
  guard   : Nat
  timeout : Nat
  retries : Nat
  deriving DecidableEq, Repr

/-- The request kinds of a tool bus (section 3.2). -/
inductive BusKind where
  | probe | assign | unaddress | echo | data
  deriving DecidableEq, Repr

/-- The entry reference of an exchange: lane, roster slot and the fingerprint held there at the grant (section 3.2). -/
structure EntryRef where
  lane : Lane
  slot : Nat
  fp   : Fingerprint
  deriving DecidableEq, Repr

/-- The source of an exchange, with what that source keeps for the outcome: the cycle its list position (R57), forwarding the
addressed name and the tag (R145). -/
inductive Source where
  | census
  | cycle (position : Nat)
  | forward (name : Nat) (tag : Octet)
  | supervision
  deriving DecidableEq, Repr

/-- The phases of an exchange (section 3.2). -/
inductive Phase where
  | guard | send | wait | receive | slots
  deriving DecidableEq, Repr

/-- The outcomes of an exchange (R50, R51, R53). -/
inductive ExchangeOutcome where
  | ok | noReply | corrupt | abandoned
  deriving DecidableEq, Repr

/-- A frame that belongs to a probe slot: when its opening delimiter completed, and how it ended (R55). -/
structure SlotFrame where
  delimiter : Nat
  finish    : Option FrameEnd
  deriving DecidableEq, Repr

/-- What was observed in one probe slot (R55): the moment of the first 0, and the frames that belong to it, newest last. -/
structure SlotObs where
  firstZero : Option Nat
  frames    : List SlotFrame
  deriving DecidableEq, Repr

/-- The turnaround or a probe slot. -/
inductive SlotPlace where
  | turnaround
  | slot (k : Nat)
  deriving DecidableEq, Repr

/-- The record of a probe in SLOTS: where it stands, where the frame in progress belongs, and the four observations (R55). -/
structure ProbeRecord where
  place   : SlotPlace
  inFrame : Option SlotPlace
  slots   : List SlotObs
  deriving DecidableEq, Repr

/-- The exchange record of a lane (section 3.2). `line` holds the line bits of the request while the LBC sends it (R48), none in the other
phases. -/
structure Exchange where
  source    : Source
  kind      : BusKind
  target    : Nat
  ref       : Option EntryRef
  profile   : Profile
  attempt   : Nat
  token     : Option (BitVec 16)
  phase     : Phase
  payload   : List Octet
  guardIdle : Nat
  probe     : Option ProbeRecord
  line      : List Bool
  deriving DecidableEq, Repr

/-- A forward record (section 7.1). -/
inductive ForwardRecord where
  | entry (slot : Nat) (fp : Fingerprint) (name : Nat) (tag : Octet) (payload : List Octet)
  | broadcast (tag : Octet) (payload : List Octet)
  deriving DecidableEq, Repr

/-- Which of forward and supervision was granted last (R61). -/
inductive Turn where
  | forward | supervision
  deriving DecidableEq, Repr

/-- A LANE counter group, in the order READ COUNTERS returns it (R193). -/
structure LaneCounters where
  started    : Nat
  ok         : Nat
  noReply    : Nat
  corrupt    : Nat
  probesSent : Nat
  collided   : Nat
  duplicates : Nat
  deriving DecidableEq, Repr

/-! ## The census (spec 04) -/

inductive RunState where
  | idle | running | stopping
  deriving DecidableEq, Repr

inductive CensusMode where
  | fresh | additive
  deriving DecidableEq, Repr

/-- The outcomes of a run (R89). -/
inductive CensusOutcome where
  | done | incomplete | full | stopped | laneDown
  deriving DecidableEq, Repr

/-- A prefix record: a depth, and the fingerprint bits before 2·depth with 0 after them (R70). -/
structure Prefix where
  depth : Nat
  bits  : Fingerprint
  deriving DecidableEq, Repr

/-- The probe whose result is being handled (section 4.1), with the finds of its SINGLE slots not yet taken (R75). -/
structure ProbeInHand where
  prefx     : Prefix
  number    : Nat
  openSlots : List Nat
  finds     : List Fingerprint
  deriving DecidableEq, Repr

/-- How an entry came by its name (section 5.1). -/
inductive Provenance where
  | mapExact | mapModel | provisional | request
  deriving DecidableEq, Repr

/-- The name, provenance and map reference that a MOVE carries (R83). -/
structure Carried where
  name   : Nat
  source : Provenance
  mapRef : Option Nat
  deriving DecidableEq, Repr

inductive FindKind where
  | new | rejoin | move
  deriving DecidableEq, Repr

/-- The device being addressed (section 4.1). -/
structure Find where
  fp      : Fingerprint
  kind    : FindKind
  carried : Option Carried
  deriving DecidableEq, Repr

/-- The one request a Census Engine offers the arbiter (R56, R69, R87): the broadcast UNADDRESS, the oldest taken-over item,
the UNADDRESS after a failed ASSIGN, a PROBE, or an ASSIGN. -/
inductive CensusOffer where
  | broadcast
  | taken (address : Nat)
  | drop (address : Nat)
  | probe (p : Prefix)
  | assign (fp : Fingerprint) (address : Nat)
  deriving DecidableEq, Repr

/-- A Census Engine (section 4.1). -/
structure Census where
  run        : RunState
  mode       : Option CensusMode
  work       : List Prefix
  hand       : Option ProbeInHand
  confirming : Nat
  found      : Nat
  dups       : Nat
  find       : Option Find
  taken      : List Nat
  offer      : Option CensusOffer
  last       : Option CensusOutcome
  deriving DecidableEq, Repr

/-! ## The roster and supervision (spec 05) -/

/-- The states of a roster entry (section 5.2). -/
inductive EntryState where
  | assigning | held | proving | live | suspect | lost
  deriving DecidableEq, Repr

/-- Why a HELD entry has no name (R98). -/
inductive HeldReason where
  | nameClash | noName
  deriving DecidableEq, Repr

/-- A roster entry (section 5.1); its slot is its place in the roster. `silenceFrom` and `recallFrom` hold the moment the silence time
and the recall time started, none while they do not run; `checked` says whether the silence period that runs has given its check (R113). -/
structure Entry where
  state    : EntryState
  lane     : Lane
  address  : Nat
  fp       : Fingerprint
  name     : Option Nat
  source   : Option Provenance
  mapRef   : Option Nat
  held     : Option HeldReason
  clean    : Nat
  fail     : Nat
  status   : Option Octet
  lastGood : Option Nat
  echo     : Bool
  silenceFrom : Option Nat
  recallFrom  : Option Nat
  checked     : Bool
  deriving DecidableEq, Repr

/-- The lane options (section 5.3). -/
structure LaneOptions where
  autoCensus      : Bool
  recallCensus    : Bool
  strictProving   : Bool
  passThreshold   : Nat
  failureLimit    : Nat
  silenceInterval : Nat
  defaultProfile  : Nat
  deriving DecidableEq, Repr

/-- All that exists once for each lane: LPC, LBC, Census Engine, lane options, supervision's pending UNADDRESS items and slot last
served (R59), LANE counters and completeness (R136). -/
structure LaneState where
  power      : Power
  rx         : RxState
  exch       : Option Exchange
  forward    : List ForwardRecord
  echoToken  : BitVec 16
  lastTurn   : Turn
  unaddress  : List Nat
  lastServed : Nat
  options    : LaneOptions
  census     : Census
  counters   : LaneCounters
  complete   : Bool
  deriving DecidableEq, Repr

/-! ## Naming (spec 06) -/

inductive MapMatch where
  | exact | model
  deriving DecidableEq, Repr

/-- A name map entry in use (section 6.1). The maker and model codes are held together, 24 bits. A lane restriction of none is
ANY. -/
structure MapEntry where
  kind        : MapMatch
  makerModel  : BitVec 24
  serial      : BitVec 24
  restriction : Option Lane
  base        : Nat
  span        : Nat
  profile     : Nat
  override    : Option Nat
  required    : Bool
  deriving DecidableEq, Repr

/-- The provisional range and its cursor (R129). -/
structure NameRange where
  low    : Nat
  high   : Nat
  cursor : Nat
  deriving DecidableEq, Repr

/-! ## Cyclic exchanges (spec 08) -/

inductive SeqState where
  | stopped | armed | running
  deriving DecidableEq, Repr

inductive Trigger where
  | frame | period
  deriving DecidableEq, Repr

/-- A last-good store: 0 to 4 octets and the fingerprint of the device that gave them (R156). -/
structure Store where
  data : List Octet
  fp   : Fingerprint
  deriving DecidableEq, Repr

/-- A cycle list entry in use (section 8.1). -/
structure CycleEntry where
  name    : Nat
  payload : List Octet
  store   : Option Store
  deriving DecidableEq, Repr

inductive CycleOutcome where
  | unused | fresh | stale | empty | unknown
  deriving DecidableEq, Repr

/-- A list position in a cycle: open and given to a lane, or with its outcome and data (R160, R161). -/
inductive Position where
  | pending (lane : Lane)
  | done (outcome : CycleOutcome) (data : List Octet)
  deriving DecidableEq, Repr

/-- A lane's due entry: its position, its entry reference, and the local address and payload of the request formed (R162). -/
structure Due where
  position : Nat
  ref      : EntryRef
  address  : Nat
  payload  : List Octet
  deriving DecidableEq, Repr

/-- A lane's cursor: the position it stands at, 12 when the lane's part is done, and the due entry not yet granted (R161). -/
structure Cursor where
  at_ : Nat
  due : Option Due
  deriving DecidableEq, Repr

/-- A cycle in progress (section 8.2). -/
structure CycleRun where
  positions : List Position
  cursorA   : Cursor
  cursorB   : Cursor
  deriving DecidableEq, Repr

/-- The Cycle Sequencer (section 8.2). -/
structure Sequencer where
  list        : List (Option CycleEntry)
  state       : SeqState
  source      : Trigger
  period      : Nat
  timer       : Option Nat
  stopPending : Bool
  cycleNumber : BitVec 16
  missed      : Nat
  run         : Option CycleRun
  deriving DecidableEq, Repr

/-! ## Notices (spec 10) -/

/-- The detail of a DEVICE notice: the state entered, or DEPARTED (R118). -/
inductive DeviceDetail where
  | held | proving | live | suspect | lost | departed
  deriving DecidableEq, Repr

/-- The cause of a DEVICE notice (R118, section 12.5). -/
inductive DeviceCause where
  | nameClash | noName
  | new | moved | named | rejoined | recalled | reprove
  | proven | threshold | recovered
  | noReply | corrupt | rejoinFailed
  | laneDown | recensus | assignFailed | released
  deriving DecidableEq, Repr

/-- A notice as its producer forms it: one constructor per kind, with the fields that kind carries (R185). -/
inductive Notice where
  | lane (lane : Lane) (state : PowerState) (cause : LaneCause) (faultCount : Nat)
  | census (lane : Lane) (outcome : CensusOutcome) (dups found : Nat)
  | device (lane : Lane) (name : Option Nat) (fp : Fingerprint) (detail : DeviceDetail) (cause : DeviceCause) (fail : Nat)
  | named (lane : Lane) (name : Nat) (fp : Fingerprint) (source : Provenance) (mapRef : Option Nat)
  | duplicate (lane : Lane) (fp : Fingerprint) (crossLane : Bool) (dups : Nat)
  | assignFail (lane : Lane) (fp : Fingerprint) (corrupt : Bool) (address : Nat)
  | complete (lane : Lane) (rise : Bool) (unsatisfied : Nat)
  | cycleOverrun (source : Trigger) (missed : Nat)
  deriving DecidableEq, Repr

/-- A record of the notice queue (R185, R189). -/
structure NoticeRecord where
  notice      : Notice
  overwritten : Bool
  deriving DecidableEq, Repr

/-- The notice masks, as the four octets of NOTICE MASKS with the bits without meaning at 0 (R180, R186, section 12.3). -/
structure Masks where
  kinds      : Octet
  device     : Octet
  directions : Octet
  alert      : Octet
  deriving DecidableEq, Repr

/-- The Notice Queue (R186, R188). -/
structure NoticeUnit where
  queue : List NoticeRecord
  masks : Masks
  deriving DecidableEq, Repr

/-! ## The whole part -/

/-- The part. `pending` is the queue of commands that wait, `now` the part's clock in ms, `choices` how many free values have been
used; then the reset pin, the strap code, the over-temperature flag and the blocks. -/
structure State where
  pending       : List Instr
  now           : Nat
  choices       : Nat
  resetAsserted : Bool
  strap         : Nat
  overTemp      : Bool
  arm           : ArmLink
  laneA         : LaneState
  laneB         : LaneState
  profiles      : List Profile
  roster        : List (Option Entry)
  nameMap       : List (Option MapEntry)
  range         : NameRange
  seq           : Sequencer
  notices       : NoticeUnit
  deriving DecidableEq, Repr

/-! ## Reset values -/

/-- R194. -/
def LinkCounters.zero : LinkCounters := ⟨0, 0, 0, 0, 0, 0⟩

/-- R194. -/
def LaneCounters.zero : LaneCounters := ⟨0, 0, 0, 0, 0, 0, 0⟩

/-- R19. -/
def ArmLink.initial : ArmLink := ⟨.hunt, none, false, none, [], [], .zero⟩

/-- No timer runs. -/
def PowerTimers.stopped : PowerTimers := ⟨none, none, none, none, none, none, none, none⟩

/-- R21: OFF, fault count 0, last fault NONE, the limit at the ceiling. The sensed inputs are the model's choice (assumption log 13). -/
def Power.initial (ceiling : Nat) : Power :=
  ⟨.off, ceiling, 0, none, .no, .stopped, false, 0, 0, false⟩

/-- R42. -/
def Profile.initial : Profile := ⟨3, 4, 20, 2⟩

/-- R66. -/
def Census.initial : Census := ⟨.idle, none, [], none, 0, 0, 0, none, [], none, none⟩

/-- R103. -/
def LaneOptions.initial : LaneOptions := ⟨true, true, false, 3, 3, 250, 0⟩

/-- R21, R46, R59, R61, R63, R66, R103, R136, R139, R194. -/
def LaneState.initial (ceiling : Nat) : LaneState :=
  ⟨.initial ceiling, .hunt, none, [], 0, .supervision, [], 31, .initial, .initial, .zero, false⟩

/-- R154, R157. -/
def Sequencer.initial : Sequencer := ⟨List.replicate 12 none, .stopped, .frame, 10, none, false, 0, 0, none⟩

/-- R186: every kind, all six details, both directions, alert enabled. -/
def Masks.initial : Masks := ⟨0xFF#8, 0xFC#8, 0xC0#8, 0x80#8⟩

/-- R186, R188. -/
def NoticeUnit.initial : NoticeUnit := ⟨[], .initial⟩

/-- The part right after power-on with an open strap, which reads as code 0 and gives a ceiling of 0.5 A (R9; assumption log 1), with the
die at or below 125 °C. No command waits. -/
def State.reset : State where
  pending := []
  now := 0
  choices := 0
  resetAsserted := false
  strap := 0
  overTemp := false
  arm := .initial
  laneA := .initial 5
  laneB := .initial 5
  profiles := List.replicate 4 .initial
  roster := List.replicate 32 none
  nameMap := List.replicate 64 none
  range := ⟨192, 254, 192⟩
  seq := .initial
  notices := .initial

end Sys2Proof.Machine
end

