-- ==== Sys2Proof/Machine/Codes.lean ====
section
/-! DEFINITION. Codes.lean: the code tables of section 12.5 and the octet forms they go into. -/

namespace Sys2Proof.Machine

/-- Lane A 1, lane B 2. -/
def laneCode : Lane → Nat
  | .a => 1
  | .b => 2

/-- A lane that may be absent, 0 (R197). -/
def laneOptCode : Option Lane → Nat
  | none => 0
  | some l => laneCode l

/-- The lane restriction: also ANY 3. -/
def restrictionCode : Option Lane → Nat
  | none => 3
  | some l => laneCode l

def PowerState.code : PowerState → Nat
  | .off => 0 | .waiting => 1 | .ramping => 2 | .live => 3 | .discharging => 4 | .fault => 5 | .latched => 6

/-- RAMP 1 to THERMAL 5. -/
def Trip.code : Trip → Nat
  | .ramp => 1 | .overcurrent => 2 | .short => 3 | .backfeed => 4 | .thermal => 5

/-- The last fault cause, NONE 0. -/
def lastFaultCode : Option Trip → Nat
  | none => 0
  | some t => t.code

/-- The cause codes of a LANE notice. -/
def LaneCause.code : LaneCause → Nat
  | .enabled => 1 | .discharged => 2 | .cooled => 3 | .cleared => 4 | .coupled => 5 | .ramped => 6 | .unlocked => 7
  | .removed => 8 | .disabled => 9 | .reset => 10 | .trip t => 10 + t.code

def EntryState.code : EntryState → Nat
  | .assigning => 1 | .held => 2 | .proving => 3 | .live => 4 | .suspect => 5 | .lost => 6

def Provenance.code : Provenance → Nat
  | .mapExact => 1 | .mapModel => 2 | .provisional => 3 | .request => 4

/-- The provenance of an entry, absent as 0 (R197). -/
def provenanceCode : Option Provenance → Nat
  | none => 0
  | some p => p.code

def HeldReason.code : HeldReason → Nat
  | .nameClash => 1 | .noName => 2

/-- The held reason of an entry, absent as 0 (R197). -/
def heldCode : Option HeldReason → Nat
  | none => 0
  | some r => r.code

def MapMatch.code : MapMatch → Nat
  | .exact => 1 | .model => 2

def RunState.code : RunState → Nat
  | .idle => 0 | .running => 1 | .stopping => 2

/-- The census mode, none 0. -/
def modeCode : Option CensusMode → Nat
  | none => 0
  | some .fresh => 1
  | some .additive => 2

def CensusOutcome.code : CensusOutcome → Nat
  | .done => 1 | .incomplete => 2 | .full => 3 | .stopped => 4 | .laneDown => 5

/-- The last census outcome, NONE 0. -/
def lastOutcomeCode : Option CensusOutcome → Nat
  | none => 0
  | some o => o.code

def SeqState.code : SeqState → Nat
  | .stopped => 0 | .armed => 1 | .running => 2

def Trigger.code : Trigger → Nat
  | .frame => 1 | .period => 2

def CycleOutcome.code : CycleOutcome → Nat
  | .unused => 0 | .fresh => 1 | .stale => 2 | .empty => 3 | .unknown => 4

def DeviceDetail.code : DeviceDetail → Nat
  | .held => 2 | .proving => 3 | .live => 4 | .suspect => 5 | .lost => 6 | .departed => 7

def DeviceCause.code : DeviceCause → Nat
  | .nameClash => 1 | .noName => 2 | .new => 3 | .moved => 4 | .named => 5 | .rejoined => 6 | .recalled => 7 | .reprove => 8
  | .proven => 9 | .threshold => 10 | .recovered => 11 | .noReply => 12 | .corrupt => 13 | .rejoinFailed => 14
  | .laneDown => 15 | .recensus => 16 | .assignFailed => 17 | .released => 18

/-- The notice kinds. -/
def Notice.kindCode : Notice → Nat
  | .lane .. => 1 | .census .. => 2 | .device .. => 3 | .named .. => 4 | .duplicate .. => 5 | .assignFail .. => 6
  | .complete .. => 7 | .cycleOverrun .. => 8

/-- The frame kinds of the arm link (section 12.1). -/
def ArmKind.code : ArmKind → Nat
  | .request => 0x01 | .data => 0x02 | .cycle => 0x03 | .response => 0x81 | .reply => 0x82 | .refusal => 0x83 | .report => 0x84

/-- The frame kind an octet names, if any. -/
def armKindOf (o : Octet) : Option ArmKind :=
  [ArmKind.request, .data, .cycle, .response, .reply, .refusal, .report].find? (fun k => octet k.code == o)

/-- The request kinds of a tool bus (section 12.1). -/
def BusKind.code : BusKind → Nat
  | .probe => 0x10 | .assign => 0x11 | .echo => 0x12 | .data => 0x13 | .unaddress => 0x14

/-- The reply kinds of a tool bus: PROBE REPLY, ASSIGN ACK, ECHO REPLY, DATA REPLY (section 12.1). -/
def probeReplyCode : Nat := 0x90
def assignAckCode : Nat := 0x91
def echoReplyCode : Nat := 0x92
def dataReplyCode : Nat := 0x93

/-- The reasons of a REFUSAL. -/
inductive Reason where
  | unknownName | notReady | laneBusy | queueFull | departed | noReply | corrupt | badKind
  deriving DecidableEq, Repr

def Reason.code : Reason → Nat
  | .unknownName => 1 | .notReady => 2 | .laneBusy => 3 | .queueFull => 4 | .departed => 5 | .noReply => 6 | .corrupt => 7
  | .badKind => 8

/-- The status codes of a RESPONSE (R169). -/
inductive Status where
  | ok | clamped | busy | badArgument | badLength | noEntry | nameInUse | laneNotLive | unknownRequest
  deriving DecidableEq, Repr

def Status.code : Status → Nat
  | .ok => 0 | .clamped => 1 | .busy => 2 | .badArgument => 3 | .badLength => 4 | .noEntry => 5 | .nameInUse => 6
  | .laneNotLive => 7 | .unknownRequest => 8

/-- 1 for yes, 0 for no. -/
def yesCode (b : Bool) : Nat := if b then 1 else 0

/-- A number in two octets, most significant first (spec 00, order on the line). -/
def octets2 (n : Nat) : List Octet := [octet (n / 256), octet n]

/-- The six octets of a fingerprint, most significant first. -/
def fpOctets (f : Fingerprint) : List Octet :=
  [f.extractLsb' 40 8, f.extractLsb' 32 8, f.extractLsb' 24 8, f.extractLsb' 16 8, f.extractLsb' 8 8, f.extractLsb' 0 8]

/-- The three octets of a maker and model pair, or of a serial. -/
def octets3 (x : BitVec 24) : List Octet := [x.extractLsb' 16 8, x.extractLsb' 8 8, x.extractLsb' 0 8]

/-- The fingerprint six octets spell. -/
def fpOf (a b c d e f : Octet) : Fingerprint := a ++ b ++ c ++ d ++ e ++ f

/-- The 24-bit value three octets spell. -/
def code24 (a b c : Octet) : BitVec 24 := a ++ b ++ c

/-- The maker and model of a fingerprint, 24 bits. -/
def fpMakerModel (f : Fingerprint) : BitVec 24 := f.extractLsb' 24 24

/-- The serial of a fingerprint. -/
def fpSerial (f : Fingerprint) : BitVec 24 := f.extractLsb' 0 24

/-- The octets of an echo token, most significant first. -/
def tokenOctets (t : BitVec 16) : List Octet := [t.extractLsb' 8 8, t.extractLsb' 0 8]

/-- Fits a payload field of a given length: the data, padded with zeros (R165, R179). -/
def padTo (n : Nat) (os : List Octet) : List Octet := os.take n ++ List.replicate (n - os.length) 0

/-- The detail octet of a notice. -/
def Notice.detailCode : Notice → Nat
  | .lane _ st _ _ => st.code
  | .census _ o _ _ => o.code
  | .device _ _ _ d _ _ => d.code
  | .named _ _ _ p _ => p.code
  | .duplicate _ _ cross _ => if cross then 2 else 1
  | .assignFail _ _ corrupt _ => if corrupt then 2 else 1
  | .complete _ rise _ => if rise then 1 else 2
  | .cycleOverrun t _ => t.code

/-- The twelve octets of a notice record (R185, section 12.4). -/
def NoticeRecord.octets (r : NoticeRecord) : List Octet :=
  let first := octet ((if r.overwritten then 128 else 0) + r.notice.kindCode)
  let detail := octet r.notice.detailCode
  let noFp := List.replicate 6 (octet 0)
  match r.notice with
  | .lane l _ cause n => first :: octet (laneCode l) :: 0 :: noFp ++ [detail, octet cause.code, octet n]
  | .census l _ dups found => first :: octet (laneCode l) :: 0 :: noFp ++ [detail, octet dups, octet found]
  | .device l name fp _ cause n =>
    first :: octet (laneCode l) :: octet (name.getD 0) :: fpOctets fp ++ [detail, octet cause.code, octet n]
  | .named l name fp _ ref => first :: octet (laneCode l) :: octet name :: fpOctets fp ++ [detail, 0, octet (ref.getD 255)]
  | .duplicate l fp _ n => first :: octet (laneCode l) :: 0 :: fpOctets fp ++ [detail, 0, octet n]
  | .assignFail l fp _ address => first :: octet (laneCode l) :: 0 :: fpOctets fp ++ [detail, 0, octet address]
  | .complete l _ n => first :: octet (laneCode l) :: 0 :: noFp ++ [detail, 0, octet n]
  | .cycleOverrun _ n => first :: 0 :: 0 :: noFp ++ [detail, 0, octet n]

end Sys2Proof.Machine
end

