-- ==== Sys2Proof/Machine/Timing.lean ====
section
/-! DEFINITION. Timing.lean: the lengths the manual gives its timers and gaps. -/

namespace Sys2Proof.Machine

/-! Timers of the arm link and of lane power, in ms. -/

/-- R17. -/
def linkMs : Nat := 100
/-- R24. -/
def qualifyMs : Nat := 30
/-- R25. -/
def rampMs : Nat := 20
/-- R29. -/
def overcurrentMs : Nat := 2
/-- R30. -/
def backfeedMs : Nat := 1
/-- R27. -/
def removalMs : Nat := 100
/-- R34. -/
def stabilityMs : Nat := 1000
/-- R26. -/
def dischargeMs : Nat := 50
/-- R32. -/
def cooldownMs : Nat := 500
/-- R33, after a check that failed. -/
def recheckMs : Nat := 100

/-- A ms timer has run out: the moment it holds has come (assumption log 3). One that is stopped, or was started again since, has not. -/
def ranOut (now : Nat) (timer : Option Nat) : Bool :=
  match timer with
  | some moment => decide (moment ≤ now)
  | none => false

/-- The bit time of a profile in periods of the 32 MHz reference (R44): 16 × 2^(5 − code). -/
def Profile.bitPeriods (p : Profile) : Nat := 16 * 2 ^ (5 - p.rate)

/-- The reply timeout in periods of the reference: units of 10 µs, 320 periods each (R44, R49). -/
def Profile.timeoutPeriods (p : Profile) : Nat := 320 * p.timeout

/-- The guard limit in bit times (R47): the longest tool-bus frame and one guard. -/
def Profile.guardLimit (p : Profile) : Nat := 651 + p.guard

/-- The slot width S in bit times (R55, R71). -/
def Profile.slotWidth (p : Profile) : Nat := 110 + p.guard

/-- When slot k begins, in bit times after a probe's tail bit (R71). -/
def Profile.slotStart (p : Profile) (k : Nat) : Nat := p.guard + k * p.slotWidth

/-- When SLOTS ends, in bit times after a probe's tail bit (R55). -/
def Profile.slotsEnd (p : Profile) : Nat := p.guard + 4 * p.slotWidth

/-- The arm-link rate of a strap code in Mbit/s (R9). -/
def armRate (code : Nat) : Nat := if code < 4 then 5 else 10

/-- The current ceiling of a strap code in 0.1 A steps (R9). -/
def ceilingOf (code : Nat) : Nat := 5 * (code % 4 + 1)

end Sys2Proof.Machine
end

