-- ==== Sys2Proof/Machine/Ops.lean ====
section
/-! DEFINITION. Ops.lean: the named operations over lanes, counters, the notice queue, the outbound queue and the tables. -/

namespace Sys2Proof.Machine

/-! ## Lanes -/

/-- The other lane. -/
def otherLane : Lane → Lane
  | .a => .b
  | .b => .a

def State.lane (s : State) : Lane → LaneState
  | .a => s.laneA
  | .b => s.laneB

def State.setLane (s : State) (l : Lane) (x : LaneState) : State :=
  match l with
  | .a => { s with laneA := x }
  | .b => { s with laneB := x }

/-- Changes one lane's state. -/
def modLane (l : Lane) (f : LaneState → LaneState) (s : State) : State := s.setLane l (f (s.lane l))

/-- Changes one lane's power state and timers. -/
def modPower (l : Lane) (f : Power → Power) (s : State) : State :=
  modLane l (fun x => { x with power := f x.power }) s

/-- Changes one lane's Census Engine. -/
def modCensus (l : Lane) (f : Census → Census) (s : State) : State :=
  modLane l (fun x => { x with census := f x.census }) s

/-- Changes the arm link. -/
def modArm (f : ArmLink → ArmLink) (s : State) : State := { s with arm := f s.arm }

/-- Changes the sequencer. -/
def modSeq (f : Sequencer → Sequencer) (s : State) : State := { s with seq := f s.seq }

/-- Applies an operation to lane A and then to lane B. -/
def bothLanes (f : Lane → State → State) (s : State) : State := f .b (f .a s)

/-- The lane's power state is LIVE. -/
def State.laneLive (s : State) (l : Lane) : Bool := (s.lane l).power.state == .live

/-- A census is running on the lane: RUNNING or STOPPING (R66). -/
def State.censusRunning (s : State) (l : Lane) : Bool := (s.lane l).census.run != .idle

/-! ## Counters -/

/-- An increment that saturates at 65535 (R194). -/
def addSat (n : Nat) : Nat := min 65535 (n + 1)

/-- Changes the LINK group. -/
def modLink (f : LinkCounters → LinkCounters) (s : State) : State :=
  modArm (fun a => { a with counters := f a.counters }) s

/-- Changes a LANE group. -/
def modCounters (l : Lane) (f : LaneCounters → LaneCounters) (s : State) : State :=
  modLane l (fun x => { x with counters := f x.counters }) s

def countFrameGood (s : State) : State := modLink (fun c => { c with framesGood := addSat c.framesGood }) s
def countCorruptFrame (s : State) : State := modLink (fun c => { c with corrupt := addSat c.corrupt }) s
def countFramingError (s : State) : State := modLink (fun c => { c with framingErrors := addSat c.framingErrors }) s
def countInboundOverflow (s : State) : State := modLink (fun c => { c with inboundOverflow := addSat c.inboundOverflow }) s
def countMisdirected (s : State) : State := modLink (fun c => { c with misdirected := addSat c.misdirected }) s
def countOutboundDrop (s : State) : State := modLink (fun c => { c with outboundDrops := addSat c.outboundDrops }) s

def countStarted (l : Lane) (s : State) : State := modCounters l (fun c => { c with started := addSat c.started }) s
def countProbeSent (l : Lane) (s : State) : State := modCounters l (fun c => { c with probesSent := addSat c.probesSent }) s
def countCollided (l : Lane) (s : State) : State := modCounters l (fun c => { c with collided := addSat c.collided }) s
def countDuplicate (l : Lane) (s : State) : State := modCounters l (fun c => { c with duplicates := addSat c.duplicates }) s

/-- The outcome counters of a lane (R54, R193): ABANDONED increments none. -/
def countOutcome (l : Lane) (o : ExchangeOutcome) (s : State) : State :=
  match o with
  | .ok => modCounters l (fun c => { c with ok := addSat c.ok }) s
  | .noReply => modCounters l (fun c => { c with noReply := addSat c.noReply }) s
  | .corrupt => modCounters l (fun c => { c with corrupt := addSat c.corrupt }) s
  | .abandoned => s

/-! ## Notices (R187 to R189) -/

/-- The bit of the kind enables for a notice: LANE is bit 7, CYCLE_OVERRUN bit 0 (section 12.3). -/
def Notice.kindBit (n : Notice) : Nat := 8 - n.kindCode

/-- The bit of the DEVICE set for a detail (section 12.3). -/
def DeviceDetail.bit : DeviceDetail → Nat
  | .proving => 7 | .live => 6 | .suspect => 5 | .lost => 4 | .held => 3 | .departed => 2

/-- The mask test of R187. -/
def Masks.passes (m : Masks) (n : Notice) : Bool :=
  m.kinds.getLsbD n.kindBit &&
  match n with
  | .device _ _ _ d _ _ => m.device.getLsbD d.bit
  | .complete _ rise _ => m.directions.getLsbD (if rise then 7 else 6)
  | _ => true

/-- The capacity of the notice queue (R188). -/
def noticeCapacity : Nat := 16

/-- Adds a record that passed the masks: at the back, or in place of the newest with its mark set (R188, R189). -/
def pushNotice (n : Notice) (q : List NoticeRecord) : List NoticeRecord :=
  if q.length < noticeCapacity then q ++ [⟨n, false⟩] else q.dropLast ++ [⟨n, true⟩]

/-- A block produces a notice (R187). -/
def notify (n : Notice) (s : State) : State :=
  if s.notices.masks.passes n then { s with notices := { s.notices with queue := pushNotice n s.notices.queue } } else s

/-! ## The outbound queue (R15) -/

/-- The capacity of the outbound queue. -/
def outboundCapacity : Nat := 24

/-- A frame is offered: placed, or dropped and counted when the queue is full or the link DOWN (R15). -/
def offer (f : ArmFrame) (s : State) : State :=
  if s.arm.linkUp && decide (s.arm.outbound.length < outboundCapacity) then
    modArm (fun a => { a with outbound := a.outbound ++ [f] }) s
  else countOutboundDrop s

/-- A REFUSAL from a name, with the tag of the frame it answers (R10, R152). -/
def refusal (name : Nat) (tag : Octet) (why : Reason) : ArmFrame := ⟨octet name, .refusal, tag, [octet why.code]⟩

/-- A REPLY from a device's name (R10, R152). -/
def reply (name : Nat) (tag : Octet) (payload : List Octet) : ArmFrame := ⟨octet name, .reply, tag, payload⟩

/-! ## Tables -/

/-- The first entry of a table that satisfies a test, with its index counted from `i`. -/
def firstFrom {α : Type} (p : α → Bool) : Nat → List (Option α) → Option (Nat × α)
  | _, [] => none
  | i, none :: rest => firstFrom p (i + 1) rest
  | i, some e :: rest => if p e then some (i, e) else firstFrom p (i + 1) rest

/-- The entries of a table with their indices counted from `i`, lowest first. -/
def entriesFrom {α : Type} : Nat → List (Option α) → List (Nat × α)
  | _, [] => []
  | i, none :: rest => entriesFrom (i + 1) rest
  | i, some e :: rest => (i, e) :: entriesFrom (i + 1) rest

/-- The entry in a roster slot. -/
def State.entry (s : State) (slot : Nat) : Option Entry := s.roster.getD slot none

/-- Writes a roster slot. -/
def setEntry (slot : Nat) (e : Option Entry) (s : State) : State := { s with roster := s.roster.set slot e }

/-- Changes the entry in a roster slot, if there is one. -/
def modEntry (slot : Nat) (f : Entry → Entry) (s : State) : State :=
  match s.entry slot with
  | some e => setEntry slot (some (f e)) s
  | none => s

/-- The lowest slot whose entry satisfies a test. -/
def State.findEntry (s : State) (p : Entry → Bool) : Option (Nat × Entry) := firstFrom p 0 s.roster

/-- The roster entry that holds a name (R95, R140). -/
def State.entryNamed (s : State) (n : Nat) : Option (Nat × Entry) := s.findEntry (fun e => e.name == some n)

/-- The roster entry that holds a fingerprint (R81). -/
def State.entryWithFp (s : State) (f : Fingerprint) : Option (Nat × Entry) := s.findEntry (fun e => e.fp == f)

/-- The roster entries of a lane that satisfy a test. -/
def State.countEntries (s : State) (l : Lane) (p : Entry → Bool) : Nat :=
  (entriesFrom 0 s.roster).countP (fun x => x.2.lane == l && p x.2)

/-- The number of roster slots (R94). -/
def rosterSlots : Nat := 32

/-- The lowest free roster slot (R85). -/
def State.freeSlot (s : State) : Option Nat := (List.range rosterSlots).find? (fun i => (s.entry i).isNone)

/-- The lowest local address of 1..30 that no entry of the lane holds (R85). -/
def State.freeAddress (s : State) (l : Lane) : Option Nat :=
  (List.range' 1 30).find? (fun a => (s.findEntry (fun e => e.lane == l && e.address == a)).isNone)

/-- The name map entry in use at an index. -/
def State.mapEntry (s : State) (i : Nat) : Option MapEntry := s.nameMap.getD i none

/-- The map entry an entry's map reference points at (R95). -/
def State.mapOf (s : State) (e : Entry) : Option MapEntry := e.mapRef.bind s.mapEntry

/-- The threshold in use of an entry (R95). -/
def State.thresholdInUse (s : State) (e : Entry) : Nat :=
  ((s.mapOf e).bind MapEntry.override).getD (s.lane e.lane).options.passThreshold

/-- The profile in use of an entry (R95). -/
def State.profileInUse (s : State) (e : Entry) : Nat :=
  match s.mapOf e with
  | some m => m.profile
  | none => (s.lane e.lane).options.defaultProfile

/-- The four values of a profile. -/
def State.profile (s : State) (i : Nat) : Profile := s.profiles.getD i .initial

/-- A state in which forwarded and cyclic DATA may begin to an entry (R60). -/
def EntryState.carriesData : EntryState → Bool
  | .live | .suspect => true
  | _ => false

/-- The entry of a reference's lane that still holds its fingerprint in its slot (R60, R105, R146). -/
def State.referenced (s : State) (r : EntryRef) : Option Entry :=
  match s.entry r.slot with
  | some e => if e.fp = r.fp ∧ e.lane = r.lane then some e else none
  | none => none

end Sys2Proof.Machine
end

