-- ==== Sys2Proof/Machine/Naming.lean ====
section
/-! DEFINITION. Naming.lean: names held and covered, resolution (R124 to R130) and lane completeness (R136 to R138). -/

namespace Sys2Proof.Machine

/-- The carried name of a MOVE in hand on a lane (R83). -/
def State.carriedName (s : State) (l : Lane) : Option Nat := ((s.lane l).census.find.bind Find.carried).map Carried.name

/-- A name is a carried name of a MOVE in hand on either lane. -/
def State.nameCarried (s : State) (n : Nat) : Bool := s.carriedName .a == some n || s.carriedName .b == some n

/-- A name is held: by a roster entry, or as a carried name (R124). -/
def State.nameHeld (s : State) (n : Nat) : Bool := (s.entryNamed n).isSome || s.nameCarried n

/-- The map entries in use, lowest index first. -/
def State.mapEntries (s : State) : List (Nat × MapEntry) := entriesFrom 0 s.nameMap

/-- A name is covered by some map entry in use (R124). -/
def State.nameCovered (s : State) (n : Nat) : Bool :=
  s.mapEntries.any (fun x => decide (x.2.base ≤ n) && decide (n < x.2.base + x.2.span))

/-- A name is an exact base (R124). -/
def State.exactBase (s : State) (n : Nat) : Bool := s.mapEntries.any (fun x => x.2.kind == .exact && x.2.base == n)

/-- A map entry matches a fingerprint (R125). -/
def MapEntry.fits (m : MapEntry) (f : Fingerprint) : Bool :=
  m.makerModel == fpMakerModel f &&
  match m.kind with
  | .exact => m.serial == fpSerial f
  | .model => true

/-- A map entry allows a lane (R125). -/
def MapEntry.allows (m : MapEntry) (l : Lane) : Bool := m.restriction == none || m.restriction == some l

/-- The map entries of a kind that resolution considers, lowest index first (R125). -/
def State.considered (s : State) (k : MapMatch) (l : Lane) (f : Fingerprint) : List (Nat × MapEntry) :=
  s.mapEntries.filter (fun x => x.2.kind == k && x.2.fits f && x.2.allows l)

/-- What a resolution decides: a name with its provenance, map reference and the cursor afterwards, or a held reason. -/
inductive Resolution where
  | named (name : Nat) (source : Provenance) (mapRef : Option Nat) (cursor : Nat)
  | held (why : HeldReason)
  deriving DecidableEq, Repr

/-- The first name of a MODEL block that is neither held nor an exact base (R128). -/
def State.freeInBlock (s : State) (m : MapEntry) : Option Nat :=
  (List.range' m.base m.span).find? (fun n => !s.nameHeld n && !s.exactBase n)

/-- Step 2: the first considered MODEL entry whose block has a free name (R128). -/
def State.modelName (s : State) : List (Nat × MapEntry) → Option (Nat × Nat)
  | [] => none
  | (i, m) :: rest =>
    match s.freeInBlock m with
    | some n => some (n, i)
    | none => s.modelName rest

/-- The order in which step 3 visits the provisional range: cursor to high, then low to cursor − 1 (R129). -/
def NameRange.order (r : NameRange) : List Nat :=
  List.range' r.cursor (r.high + 1 - r.cursor) ++ List.range' r.low (r.cursor - r.low)

/-- Step 3: the first name of the range neither held nor covered (R129). -/
def State.provisionalName (s : State) : Option Nat :=
  s.range.order.find? (fun n => !s.nameHeld n && !s.nameCovered n)

/-- The cursor after a name was taken by step 3 (R129). -/
def NameRange.cursorAfter (r : NameRange) (n : Nat) : Nat := if n = r.high then r.low else n + 1

/-- Steps 2 to 4 of a resolution (R128 to R130). -/
def State.resolveUnpinned (s : State) (l : Lane) (f : Fingerprint) : Resolution :=
  match s.modelName (s.considered .model l f) with
  | some (n, i) => .named n .mapModel (some i) s.range.cursor
  | none =>
    match s.provisionalName with
    | some n => .named n .provisional none (s.range.cursorAfter n)
    | none => .held .noName

/-- The resolution of a name for a device on a lane (R127 to R130). -/
def State.resolve (s : State) (l : Lane) (f : Fingerprint) : Resolution :=
  match s.considered .exact l f with
  | (i, m) :: _ => if s.nameHeld m.base then .held .nameClash else .named m.base .mapExact (some i) s.range.cursor
  | [] => s.resolveUnpinned l f

/-! ## Completeness -/

/-- A required map entry at an index is satisfied on a lane (R136). -/
def State.satisfied (s : State) (l : Lane) (i : Nat) (m : MapEntry) : Bool :=
  match m.kind with
  | .exact => decide (0 < s.countEntries l
      (fun e => e.state.carriesData && fpMakerModel e.fp == m.makerModel && fpSerial e.fp == m.serial))
  | .model => s.countEntries l (fun e => e.state.carriesData && e.mapRef == some i) == m.span

/-- The number of required map entries of a lane not satisfied (R136, R138). -/
def State.unsatisfied (s : State) (l : Lane) : Nat :=
  s.mapEntries.countP (fun x => x.2.required && x.2.restriction == some l && !s.satisfied l x.1 x.2)

/-- The condition of R136. -/
def State.completeNow (s : State) (l : Lane) : Bool := s.laneLive l && !s.censusRunning l && s.unsatisfied l == 0

/-- Re-evaluates a lane's completeness: a change is kept and gives a COMPLETE notice (R137, R138). -/
def evalComplete (l : Lane) (s : State) : State :=
  if s.completeNow l = (s.lane l).complete then s
  else notify (.complete l (s.completeNow l) (s.unsatisfied l)) (modLane l (fun x => { x with complete := s.completeNow l }) s)

end Sys2Proof.Machine
end

