-- ==== Sys2Proof/Machine/Roster.lean ====
section
/-! DEFINITION. Roster.lean: the entries of a roster entry to its states, the naming of an entry, re-resolution and removal
(R97 to R102, R111, R115, R126, R130, R132). -/

namespace Sys2Proof.Machine

/-- The DEVICE notice of an entry as it stands after a change (R118). -/
def deviceNotice (e : Entry) (detail : DeviceDetail) (cause : DeviceCause) : Notice :=
  .device e.lane e.name e.fp detail cause e.fail

/-- Moves the entry in a slot to a state: the change, then its DEVICE notice (R118). -/
def moveEntry (slot : Nat) (f : Entry → Entry) (detail : DeviceDetail) (cause : DeviceCause) (s : State) : State :=
  match s.entry slot with
  | some e => notify (deviceNotice (f e) detail cause) (setEntry slot (some (f e)) s)
  | none => s

/-- An entry in LIVE whose silence time starts now (R100). -/
def Entry.toLive (now : Nat) (e : Entry) : Entry :=
  { e with state := .live, fail := 0, echo := false, silenceFrom := some now, recallFrom := none, checked := false }

/-- The entry to LIVE (R100). -/
def enterLive (slot : Nat) (cause : DeviceCause) (s : State) : State := moveEntry slot (Entry.toLive s.now) .live cause s

/-- An entry in PROVING with the values its cause gives, before its clean count is compared (R99). -/
def Entry.toProving (cause : DeviceCause) (e : Entry) : Entry :=
  { e with state := .proving, clean := if cause = .recalled then 1 else 0, fail := 0, held := none, echo := false,
           silenceFrom := none, recallFrom := none, checked := false }

/-- Compares a PROVING entry's clean count with its threshold in use: LIVE with the cause, or an echo item pending (R99, R106). -/
def proveOrEcho (slot : Nat) (cause : DeviceCause) (s : State) : State :=
  match s.entry slot with
  | some e =>
    if s.thresholdInUse e ≤ e.clean then enterLive slot cause s else setEntry slot (some { e with echo := true }) s
  | none => s

/-- The entry to PROVING (R99). -/
def enterProving (slot : Nat) (cause : DeviceCause) (s : State) : State :=
  proveOrEcho slot .proven (moveEntry slot (Entry.toProving cause) .proving cause s)

/-- The cause of a HELD notice (R118). -/
def HeldReason.cause : HeldReason → DeviceCause
  | .nameClash => .nameClash
  | .noName => .noName

/-- The result of a resolution without a name: an entry already HELD takes the reason silently, another enters HELD (R130). -/
def holdEntry (slot : Nat) (why : HeldReason) (s : State) : State :=
  match s.entry slot with
  | some e =>
    if e.state = .held then setEntry slot (some { e with held := some why }) s
    else moveEntry slot (fun e => { e with state := .held, held := some why }) .held why.cause s
  | none => s

/-- Sets an entry's name, provenance source and map reference together (R130). -/
def giveName (slot : Nat) (c : Carried) (s : State) : State :=
  modEntry slot (fun e => { e with name := some c.name, source := some c.source, mapRef := c.mapRef, held := none }) s

/-- The NAMED notice of a naming (R130). -/
def notifyNamed (slot : Nat) (c : Carried) (s : State) : State :=
  match s.entry slot with
  | some e => notify (.named e.lane c.name e.fp c.source c.mapRef) s
  | none => s

/-- A nameless entry takes a name: PROVING with the cause, its DEVICE notices, its NAMED notice, completeness (R119, R130). -/
def nameAndProve (slot : Nat) (l : Lane) (c : Carried) (cause : DeviceCause) (s : State) : State :=
  evalComplete l (notifyNamed slot c (enterProving slot cause (giveName slot c s)))

/-- Resolves the nameless entry in a slot and changes it as the result says; a naming enters PROVING with the cause (R126). -/
def resolveEntry (slot : Nat) (cause : DeviceCause) (s : State) : State :=
  match s.entry slot with
  | some e =>
    match s.resolve e.lane e.fp with
    | .named n src ref cursor => nameAndProve slot e.lane ⟨n, src, ref⟩ cause { s with range := { s.range with cursor := cursor } }
    | .held why => evalComplete e.lane (holdEntry slot why s)
  | none => s

/-- The entry in a slot is HELD. -/
def State.slotHeld (s : State) (slot : Nat) : Bool :=
  match s.entry slot with
  | some e => e.state == .held
  | none => false

/-- Re-resolves one slot, if it holds a HELD entry. -/
def reresolveSlot (s : State) (slot : Nat) : State := if s.slotHeld slot then resolveEntry slot .named s else s

/-- Re-resolves every HELD entry in slot order (R132). -/
def reresolveHeld (s : State) : State := (List.range rosterSlots).foldl reresolveSlot s

/-- Removes the entry in a slot as one event (R115): the slot, address and name are free, the DEPARTED notice, the re-resolution of the
HELD entries, then the completeness of its lane and of the other (assumption log 20). -/
def removeEntry (slot : Nat) (cause : DeviceCause) (s : State) : State :=
  match s.entry slot with
  | some e =>
    evalComplete (otherLane e.lane) (evalComplete e.lane
      (reresolveHeld (notify (deviceNotice e .departed cause) (setEntry slot none s))))
  | none => s

/-- Removes the entry in a slot if it belongs to a lane. -/
def removeIfOn (l : Lane) (cause : DeviceCause) (s : State) (slot : Nat) : State :=
  match s.entry slot with
  | some e => if e.lane = l then removeEntry slot cause s else s
  | none => s

/-- Removes every entry of a lane, in slot order, each removal whole before the next (R38, R68, R116). -/
def removeLane (l : Lane) (cause : DeviceCause) (s : State) : State :=
  (List.range rosterSlots).foldl (removeIfOn l cause) s

end Sys2Proof.Machine
end

