-- ==== Sys2Proof/Machine/Cycle.lean ====
section
/-! DEFINITION. Cycle.lean: the course of a cycle: triggers, cursors, outcomes and the REPORT (R156 to R165). -/

namespace Sys2Proof.Machine

/-- The number of list positions (R154). -/
def cyclePositions : Nat := 12

/-- The cycle list entry in use at an index. -/
def Sequencer.entry (q : Sequencer) (i : Nat) : Option CycleEntry := q.list.getD i none

def CycleRun.cursor (r : CycleRun) : Lane → Cursor
  | .a => r.cursorA
  | .b => r.cursorB

def CycleRun.setCursor (r : CycleRun) (l : Lane) (c : Cursor) : CycleRun :=
  match l with
  | .a => { r with cursorA := c }
  | .b => { r with cursorB := c }

/-- The lane's due entry, not yet granted (R57, R161). -/
def State.due (s : State) (l : Lane) : Option Due := s.seq.run.bind (fun r => (r.cursor l).due)

/-- Changes the cycle in progress, if there is one. -/
def modRun (f : CycleRun → CycleRun) (s : State) : State := modSeq (fun q => { q with run := q.run.map f }) s

/-- Changes a cycle list entry, if it is in use. -/
def modCycleEntry (i : Nat) (f : CycleEntry → CycleEntry) (s : State) : State :=
  modSeq (fun q => { q with list := q.list.set i ((q.entry i).map f) }) s

/-- Gives a position its outcome and data. -/
def settle (i : Nat) (o : CycleOutcome) (data : List Octet) (s : State) : State :=
  modRun (fun r => { r with positions := r.positions.set i (.done o data) }) s

/-- A FRESH outcome: the first 4 octets, which with the fingerprint replace the store (R163). -/
def settleFresh (i : Nat) (payload : List Octet) (fp : Fingerprint) (s : State) : State :=
  settle i .fresh (payload.take 4) (modCycleEntry i (fun e => { e with store := some ⟨payload.take 4, fp⟩ }) s)

/-- The store test with a fingerprint: STALE with the store's data, or EMPTY, which removes the store (R156). -/
def storeTest (i : Nat) (fp : Fingerprint) (s : State) : State :=
  match (s.seq.entry i).bind CycleEntry.store with
  | some st =>
    if st.fp = fp then settle i .stale st.data s
    else settle i .empty [] (modCycleEntry i (fun e => { e with store := none }) s)
  | none => settle i .empty [] s

/-- A device named at a position's turn can be asked on the lane (R161). -/
def State.canAsk (s : State) (l : Lane) (e : Entry) : Bool :=
  e.lane == l && e.state.carriesData && s.laneLive e.lane && !s.censusRunning e.lane

/-- Sets a lane's cursor. -/
def setCursor (l : Lane) (c : Cursor) (s : State) : State := modRun (fun r => r.setCursor l c) s

/-- A position is open and given to the lane. -/
def State.openOn (s : State) (l : Lane) (i : Nat) : Bool :=
  match s.seq.run with
  | some r => r.positions[i]? == some (.pending l)
  | none => false

/-- The due entry a position forms from the roster entry that holds its name (R162). -/
def dueFor (i slot : Nat) (e : Entry) (payload : List Octet) : Due := ⟨i, ⟨e.lane, slot, e.fp⟩, e.address, payload⟩

/-- The walk of a lane's cursor over the positions still before it (R161). -/
def walkFrom (l : Lane) : List Nat → State → State
  | [], s => setCursor l ⟨cyclePositions, none⟩ s
  | i :: rest, s =>
    if s.openOn l i then
      match s.seq.entry i with
      | none => walkFrom l rest (settle i .unused [] s)
      | some c =>
        match s.entryNamed c.name with
        | none => walkFrom l rest (settle i .unknown [] s)
        | some (slot, e) =>
          if s.canAsk l e then setCursor l ⟨i, some (dueFor i slot e c.payload)⟩ s
          else walkFrom l rest (storeTest i e.fp s)
    else walkFrom l rest s

/-- A position has its outcome. -/
def Position.isDone : Position → Bool
  | .done _ _ => true
  | .pending _ => false

/-- The five octets of a list position in a REPORT (section 12.2). -/
def Position.octets : Position → List Octet
  | .done o data => octet (16 * o.code + (data.take 4).length) :: padTo 4 data
  | .pending _ => padTo 5 []

/-- The REPORT of a cycle (R165): cycle number, missed-trigger count, then the 12 positions. -/
def reportOf (q : Sequencer) (r : CycleRun) : ArmFrame :=
  ⟨0, .report, 0, octets2 q.cycleNumber.toNat ++ octet q.missed :: r.positions.flatMap Position.octets⟩

/-- The sequencer after a cycle's end (R165): the missed count 0, ARMED or STOPPED, no cycle. -/
def Sequencer.ended (q : Sequencer) : Sequencer :=
  { q with missed := 0, run := none, state := if q.stopPending then .stopped else .armed,
           timer := if q.stopPending then none else q.timer, stopPending := false }

/-- Ends the cycle when every position has its outcome (R165). -/
def finishCycle (s : State) : State :=
  match s.seq.run with
  | some r => if r.positions.all Position.isDone then offer (reportOf s.seq r) (modSeq Sequencer.ended s) else s
  | none => s

/-- The lane's cursor walks on from a position, and the cycle ends if that was the last (R161, R165). -/
def walkOn (l : Lane) (i : Nat) (s : State) : State :=
  finishCycle (walkFrom l (List.range' i (cyclePositions - i)) s)

/-- Takes a due entry that has not been granted back from the arbiter; the cursor resolves it as R161 says and walks on (R164). Where the lane leaves LIVE the
manual does not say how the due entry itself is resolved; the model resolves it in the same way (assumption log 38). -/
def takeBackDue (l : Lane) (s : State) : State :=
  match s.due l with
  | some d => walkOn l d.position s
  | none => s

/-- A cycle grant given back: the store test with the fingerprint of the reference, and the cursor walks on (R162). -/
def giveBackDue (l : Lane) (d : Due) (s : State) : State :=
  walkOn l (d.position + 1) (storeTest d.position d.ref.fp s)

/-- The outcome of a cycle exchange (R163): FRESH for OK, else the store test with the fingerprint of the reference, and the cursor walks on. It is the same for a device
removed meanwhile: R117 hands its outcome to the sequencer, "which handles it as its chapter states" (assumption log 34). -/
def cycleOutcome (l : Lane) (i : Nat) (fp : Fingerprint) (o : ExchangeOutcome) (payload : List Octet) (s : State) : State :=
  walkOn l (i + 1) (match o with
    | .ok => settleFresh i payload fp s
    | _ => storeTest i fp s)

/-- The position of a list entry at the start of a cycle (R160): UNUSED, UNKNOWN, or given to the lane of the entry named. -/
def State.startPosition (s : State) (i : Nat) : Position :=
  match s.seq.entry i with
  | none => .done .unused []
  | some c =>
    match s.entryNamed c.name with
    | none => .done .unknown []
    | some (_, e) => .pending e.lane

/-- A trigger in ARMED starts a cycle (R160). -/
def startCycle (s : State) : State :=
  let run : CycleRun := ⟨(List.range cyclePositions).map s.startPosition, ⟨0, none⟩, ⟨0, none⟩⟩
  let s1 := modSeq (fun q => { q with state := .running, cycleNumber := q.cycleNumber + 1, run := some run }) s
  finishCycle (walkFrom .b (List.range cyclePositions) (walkFrom .a (List.range cyclePositions) s1))

/-- A trigger in RUNNING is missed (R159). -/
def missTrigger (t : Trigger) (s : State) : State :=
  notify (.cycleOverrun t (min 255 (s.seq.missed + 1))) (modSeq (fun q => { q with missed := min 255 (q.missed + 1) }) s)

/-- A trigger (R159). -/
def trigger (t : Trigger) (s : State) : State :=
  match s.seq.state with
  | .stopped => s
  | .armed => startCycle s
  | .running => missTrigger t s

/-- A STOP, from CYCLE CONTROL or from link loss (R157, R18). -/
def stopSequencer (s : State) : State :=
  match s.seq.state with
  | .stopped => s
  | .armed => modSeq (fun q => { q with state := .stopped, timer := none }) s
  | .running => modSeq (fun q => { q with stopPending := true }) s

end Sys2Proof.Machine
end

