-- ==== Sys2Proof/Machine/CensusRun.lean ====
section
/-! DEFINITION. CensusRun.lean: the start and the end of a census run (R67 to R69, R89), and the refusal of queued forward records. -/

namespace Sys2Proof.Machine

/-- The REFUSAL of a forward record, from its addressed name (R143, R152). -/
def ForwardRecord.refusal (why : Reason) : ForwardRecord → ArmFrame
  | .entry _ _ name tag _ => Sys2Proof.Machine.refusal name tag why
  | .broadcast tag _ => Sys2Proof.Machine.refusal 255 tag why

/-- Offers frames in order. -/
def offerAll (fs : List ArmFrame) (s : State) : State := fs.foldl (fun s f => offer f s) s

/-- Refuses every record of a lane's forward queue, oldest first, and empties it (R38, R68). -/
def refuseForward (l : Lane) (why : Reason) (s : State) : State :=
  offerAll ((s.lane l).forward.map (ForwardRecord.refusal why)) (modLane l (fun x => { x with forward := [] }) s)

/-- The root prefix (R70). -/
def Prefix.root : Prefix := ⟨0, 0⟩

/-- Sets what the Census Engine offers (R56). -/
def setOffer (l : Lane) (o : Option CensusOffer) (s : State) : State := modCensus l (fun c => { c with offer := o }) s

/-- Takes a prefix in hand and offers its probe (R75, R78). -/
def offerProbe (l : Lane) (p : Prefix) (number : Nat) (openSlots : List Nat) (s : State) : State :=
  modCensus l (fun c => { c with hand := some ⟨p, number, openSlots, []⟩, offer := some (.probe p) }) s

/-- The next opening request (R69): the oldest taken-over UNADDRESS item, else the root probe. -/
def offerOpening (l : Lane) (s : State) : State :=
  match (s.lane l).census.taken with
  | a :: _ => setOffer l (some (.taken a)) s
  | [] => offerProbe l .root 1 [] s

/-- Step 1 of a start (R68). -/
def Census.started (mode : CensusMode) (c : Census) : Census :=
  { c with run := .running, mode := some mode, work := [], hand := none, confirming := 0, found := 0, dups := 0,
           find := none, offer := none }

/-- Starts a run on a lane (R68, R69, R62), a due cycle entry being taken back first (R164, assumption log 17), so that the REPORT of a cycle that ends thereby
comes before the REFUSALs of the queued records (assumption log 40). -/
def startCensus (l : Lane) (mode : CensusMode) (s : State) : State :=
  let s1 := takeBackDue l (modCensus l (Census.started mode) s)
  match mode with
  | .fresh =>
    let s2 := refuseForward l .laneBusy (removeLane l .recensus s1)
    setOffer l (some .broadcast) (evalComplete l (modLane l (fun x => { x with unaddress := [] }) s2))
  | .additive =>
    let s2 := modLane l (fun x => { x with census := { x.census with taken := x.unaddress }, unaddress := [] })
      (refuseForward l .laneBusy s1)
    offerOpening l (evalComplete l s2)

/-- The Census Engine after a run's end (R89). -/
def Census.ended (o : CensusOutcome) (c : Census) : Census :=
  { c with run := .idle, mode := none, work := [], hand := none, find := none, taken := [], offer := none, last := some o }

/-- Ends the run of a lane (R89): its work is cleared, items not sent go back to supervision, the CENSUS notice, completeness. -/
def endCensus (l : Lane) (o : CensusOutcome) (s : State) : State :=
  let c := (s.lane l).census
  evalComplete l (notify (.census l o c.dups c.found)
    (modLane l (fun x => { x with census := x.census.ended o, unaddress := x.census.taken ++ x.unaddress }) s))

end Sys2Proof.Machine
end

