-- ==== Sys2Proof/Machine/Supervision.lean ====
section
/-! DEFINITION. Supervision.lean: how an exchange outcome reaches a roster entry (R101, R102, R105 to R110), the recall census (R92),
and the timers of entries (R112 to R114). -/

namespace Sys2Proof.Machine

/-- The cause a failed outcome gives a DEVICE notice (R118). -/
def ExchangeOutcome.cause : ExchangeOutcome → DeviceCause
  | .noReply => .noReply
  | _ => .corrupt

/-- An entry that became LOST starts an ADDITIVE run, when recall census is on and no run is going (R92). A run starts on a LIVE lane
only (assumption log 27). -/
def recallCensus (l : Lane) (s : State) : State :=
  if (s.lane l).options.recallCensus && !s.censusRunning l && s.laneLive l then startCensus l .additive s else s

/-- An entry in LOST whose recall time starts now; name and address stay (R102). -/
def Entry.toLost (now : Nat) (e : Entry) : Entry :=
  { e with state := .lost, echo := false, silenceFrom := none, recallFrom := some now, checked := false }

/-- The entry to LOST (R102): its notice, completeness, then perhaps a recall census. -/
def enterLost (slot : Nat) (l : Lane) (cause : DeviceCause) (s : State) : State :=
  recallCensus l (evalComplete l (moveEntry slot (Entry.toLost s.now) .lost cause s))

/-- The entry to SUSPECT from LIVE (R101). -/
def enterSuspect (slot : Nat) (l : Lane) (cause : DeviceCause) (s : State) : State :=
  evalComplete l (moveEntry slot (fun e => { e with state := .suspect, fail := 1, silenceFrom := none, echo := true, checked := false })
    .suspect cause s)

/-- An OK outcome by the state of the entry (R106 to R109). -/
def applyOk (slot : Nat) (e : Entry) (s : State) : State :=
  match e.state with
  | .proving =>
    evalComplete e.lane (proveOrEcho slot .proven (setEntry slot (some { e with clean := min 15 (e.clean + 1), fail := 0 }) s))
  | .live => setEntry slot (some { e with silenceFrom := some s.now, echo := false, checked := false }) s
  | .suspect => evalComplete e.lane (enterLive slot .recovered s)
  | .lost => evalComplete e.lane (enterProving slot .recalled s)
  | .assigning => s
  | .held => s

/-- A failure counted against an entry in PROVING or SUSPECT: LOST at the failure limit, else an echo item (R106, R108). -/
def lostOrEcho (slot : Nat) (e : Entry) (cause : DeviceCause) (s : State) : State :=
  if (s.lane e.lane).options.failureLimit ≤ e.fail then enterLost slot e.lane cause (setEntry slot (some e) s)
  else setEntry slot (some { e with echo := true }) s

/-- A CORRUPT outcome under strict proving (R110). -/
def reproves (s : State) (e : Entry) (o : ExchangeOutcome) : Bool :=
  (s.lane e.lane).options.strictProving && o == .corrupt

/-- A NO_REPLY or CORRUPT outcome by the state of the entry (R106 to R110). -/
def applyFailure (slot : Nat) (e : Entry) (o : ExchangeOutcome) (s : State) : State :=
  match e.state with
  | .proving => lostOrEcho slot { e with clean := 0, fail := min 7 (e.fail + 1) } o.cause s
  | .live =>
    if reproves s e o then evalComplete e.lane (enterProving slot .reprove s)
    else if (s.lane e.lane).options.failureLimit ≤ 1 then
      enterLost slot e.lane o.cause (setEntry slot (some { e with fail := 1 }) s)
    else enterSuspect slot e.lane o.cause s
  | .suspect =>
    if reproves s e o then evalComplete e.lane (enterProving slot .reprove s)
    else lostOrEcho slot { e with fail := min 7 (e.fail + 1) } o.cause s
  | .lost => s
  | .assigning => s
  | .held => s

/-- What an OK outcome sets in every state: the last-good time, and the status octet of an ECHO REPLY (R105). -/
def Entry.refreshed (now : Nat) (status : Option Octet) (e : Entry) : Entry :=
  { e with lastGood := some now, status := match status with
      | some o => some o
      | none => e.status }

/-- Supervision takes an outcome with its entry reference (R105). -/
def applyOutcome (r : EntryRef) (o : ExchangeOutcome) (status : Option Octet) (s : State) : State :=
  match s.referenced r with
  | none => s
  | some e =>
    if e.state = .assigning then s
    else match o with
      | .abandoned => s
      | .ok => applyOk r.slot (e.refreshed s.now status) (setEntry r.slot (some (e.refreshed s.now status)) s)
      | .noReply => applyFailure r.slot e .noReply s
      | .corrupt => applyFailure r.slot e .corrupt s

/-- A ms timer has reached a silence interval other than 0 (R113, R114). -/
def reached (now interval : Nat) (start : Option Nat) : Bool :=
  match start with
  | some t => decide (0 < interval) && decide (interval ≤ now - t)
  | none => false

/-- A LIVE entry's silence period gives its check: its silence time has reached the interval, and it has given none yet (R113). -/
def State.givesCheck (s : State) (e : Entry) : Bool :=
  e.state == .live && !e.checked && reached s.now (s.lane e.lane).options.silenceInterval e.silenceFrom

/-- A LIVE entry's silence check becomes pending, once in a silence period (R113). -/
def silenceDue (slot : Nat) (s : State) : State :=
  match s.entry slot with
  | some e => if s.givesCheck e then setEntry slot (some { e with echo := true, checked := true }) s else s
  | none => s

/-- A LOST entry's recall echo becomes pending and its recall time restarts, when it has reached the interval (R114). -/
def recallDue (slot : Nat) (s : State) : State :=
  match s.entry slot with
  | some e =>
    if e.state = .lost ∧ reached s.now (s.lane e.lane).options.silenceInterval e.recallFrom = true then
      setEntry slot (some { e with echo := true, recallFrom := some s.now }) s
    else s
  | none => s

end Sys2Proof.Machine
end

