-- ==== Sys2Proof/Machine/Clock.lean ====
section
/-! DEFINITION. Clock.lean: what a step does on an empty queue: one ms of the part's clock passes, and the commands of the timers that run out at
that moment come to wait, in any order (assumption logs 2, 9, 11). -/

namespace Sys2Proof.Machine

/-- A timer that runs out at a moment gives its command. -/
def dueAt (now : Nat) (t : Option Nat) (i : Instr) : List Instr := if t = some now then [i] else []

/-- The timers of a lane that run out at a moment (R24 to R30, R33, R34). -/
def laneDue (now : Nat) (below110 : Bool) (l : Lane) (t : PowerTimers) : List Instr :=
  dueAt now t.qualify (.qualifyTimerExpiry l) ++ dueAt now t.ramp (.rampTimerExpiry l) ++
    dueAt now t.overcurrent (.overcurrentMaskExpiry l) ++ dueAt now t.backfeed (.backfeedMaskExpiry l) ++
    dueAt now t.removal (.removalTimerExpiry l) ++ dueAt now t.stability (.liveStabilityExpiry l) ++
    dueAt now t.discharge (.dischargeTimerExpiry l) ++ dueAt now t.cooldown (.cooldownExpiry l below110)

/-- A time that reaches an interval other than 0 at a moment (R113, R114). -/
def reachesAt (now interval : Nat) (start : Option Nat) : Bool :=
  match start with
  | some t => interval != 0 && t + interval == now
  | none => false

/-- The silence check or recall echo of an entry that becomes due at a moment (R113, R114). -/
def entryDue (now interval slot : Nat) (e : Entry) : List Instr :=
  match e.state with
  | .live => if reachesAt now interval e.silenceFrom then [.silenceCheckDue slot] else []
  | .lost => if reachesAt now interval e.recallFrom then [.recallEchoDue slot] else []
  | .assigning | .held | .proving | .suspect => []

/-- The commands of all timers that run out at the state's moment. -/
def State.dueNow (s : State) : List Instr :=
  dueAt s.now s.arm.linkTimer .linkTimerExpiry ++
    laneDue s.now (Config.dieBelow110 s.choices) .a s.laneA.power.timers ++
    laneDue s.now (Config.dieBelow110 (s.choices + 1)) .b s.laneB.power.timers ++
    dueAt s.now s.seq.timer .periodTimerExpiry ++
    (entriesFrom 0 s.roster).flatMap (fun x => entryDue s.now (s.lane x.2.lane).options.silenceInterval x.1 x.2)

/-- Arranges commands in an order that the free values choose: each is put at a free place among those after it. -/
def arrange (choice : Nat) : List Instr → List Instr
  | [] => []
  | [c] => [c]
  | c :: rest => (arrange (choice + 1) rest).insertIdx (Config.place choice % (rest.length + 1)) c

/-- The commands that have come due wait in the queue. -/
def presentDue (s : State) : State :=
  if s.dueNow = [] then s
  else { s with pending := s.pending ++ arrange (s.choices + 2) s.dueNow, choices := s.choices + 2 + s.dueNow.length }

/-- One ms of the part's clock passes. -/
def tick (s : State) : State := presentDue { s with now := s.now + 1 }

end Sys2Proof.Machine
end

