-- ==== Sys2Proof/Machine/Framing.lean ====
section
/-! DEFINITION. Framing.lean: the framing all three lines share (R1 to R3, R5, R6): bit insertion, CRC, the line bits of a frame and
the end checks of a received one. -/

namespace Sys2Proof.Machine

/-- The bits of an octet in the order they are sent, most significant first (R1). -/
def octetBits (o : Octet) : List Bool :=
  [o.getLsbD 7, o.getLsbD 6, o.getLsbD 5, o.getLsbD 4, o.getLsbD 3, o.getLsbD 2, o.getLsbD 1, o.getLsbD 0]

/-- The bits of a content in the order they are sent (R1). -/
def contentBits (os : List Octet) : List Bool := os.flatMap octetBits

/-- One bit as a number. -/
def bitNat (b : Bool) : Nat := if b then 1 else 0

/-- The octets a bit sequence spells; a rest of fewer than eight bits is left out. -/
def octetsOf : List Bool → List Octet
  | b7 :: b6 :: b5 :: b4 :: b3 :: b2 :: b1 :: b0 :: rest =>
    octet (128 * bitNat b7 + 64 * bitNat b6 + 32 * bitNat b5 + 16 * bitNat b4
      + 8 * bitNat b3 + 4 * bitNat b2 + 2 * bitNat b1 + bitNat b0) :: octetsOf rest
  | _ => []

/-- Bit insertion (R2) after `run` consecutive content 1s: a 0 after every run of six. -/
def insertFrom : Nat → List Bool → List Bool
  | _, [] => []
  | _, false :: bs => false :: insertFrom 0 bs
  | run, true :: bs => if run = 5 then true :: false :: insertFrom 0 bs else true :: insertFrom (run + 1) bs

/-- Bit insertion over a whole content (R2): the run is counted from the first content bit. -/
def insertBits (bs : List Bool) : List Bool := insertFrom 0 bs

/-- The receiver's removal of inserted 0s (R2) after `run` consecutive content 1s. -/
def removeFrom : Nat → List Bool → List Bool
  | _, [] => []
  | run, true :: bs => true :: removeFrom (run + 1) bs
  | run, false :: bs => if run = 6 then removeFrom 0 bs else false :: removeFrom 0 bs

/-- The content bits of what the line carried between the delimiters (R2, R5). -/
def removeBits (bs : List Bool) : List Bool := removeFrom 0 bs

/-- One step of the CRC register (R3): polynomial 0x8BB7. -/
def crcBit (r : BitVec 16) (b : Bool) : BitVec 16 :=
  if r.msb ^^ b then (r <<< 1) ^^^ 0x8BB7#16 else r <<< 1

/-- The CRC of a content without its CRC (R3): preset 0xFFFF, no final inversion. -/
def crc (os : List Octet) : BitVec 16 := (contentBits os).foldl crcBit 0xFFFF#16

/-- The two CRC octets, most significant first (R3). -/
def crcOctets (os : List Octet) : List Octet := [(crc os).extractLsb' 8 8, (crc os).extractLsb' 0 8]

/-- The delimiter: one 0 and seven 1s (R1). -/
def delimiter : List Bool := [false, true, true, true, true, true, true, true]

/-- What the line carries between the delimiters of the frame with this content (R1, R2): the content and its CRC, with inserted bits. -/
def stuffedContent (os : List Octet) : List Bool := insertBits (contentBits (os ++ crcOctets os))

/-- The line bits of a frame (R1): opening delimiter, content, closing delimiter, tail bit. -/
def frameBits (os : List Octet) : List Bool := delimiter ++ (stuffedContent os ++ (delimiter ++ [false]))

/-- A received frame after its end (R5 to R7): valid with its content less the CRC, its error class, or dropped without one. -/
inductive FrameClass where
  | valid (body : List Octet)
  | broken | misaligned | short | long | corrupt
  | dropped
  deriving DecidableEq, Repr

/-- The content octets of each line, without and with a payload of 64 (R1). -/
def armMin : Nat := 6
def armMax : Nat := 70
def busMin : Nat := 4
def busMax : Nat := 68

/-- The end checks in their order (R6): alignment, length, CRC. A content with a complete octet beyond the maximum is LONG (R7). -/
def checkContent (minOctets maxOctets : Nat) (line : List Bool) : FrameClass :=
  let bits := removeBits line
  let os := octetsOf bits
  if maxOctets < os.length then .long
  else if bits.length % 8 ≠ 0 then .misaligned
  else if os.length < minOctets then .short
  else if crcOctets (os.take (os.length - 2)) = os.drop (os.length - 2) then .valid (os.take (os.length - 2))
  else .corrupt

/-- The class of a frame that a break ended (R5): BROKEN after eight or more content bits, else none. -/
def breakClass (contentBits : Nat) : FrameClass := if 8 ≤ contentBits then .broken else .dropped

/-- The class of a tool-bus frame by the way it ended (R5, R6, R7, R8). -/
def classifyEnd : FrameEnd → FrameClass
  | .tail bits => checkContent busMin busMax bits
  | .brk n => breakClass n
  | .long => .long

end Sys2Proof.Machine
end

