-- ==== Sys2Proof/Machine/Census.lean ====
section
/-! DEFINITION. Census.lean: probe slots and their classes (R70 to R73), finds (R81 to R88), the walk (R75 to R80), and how a run takes
the outcomes of its exchanges (R74, R86, R87, R90). -/

namespace Sys2Proof.Machine

/-! ## Prefixes and slots -/

/-- The deepest probe (R70). -/
def maxDepth : Nat := 23

/-- Fingerprint bits 2d and 2d+1 as a two-bit number, bit 2d high (R70). -/
def slotOf (d : Nat) (f : Fingerprint) : Nat := (f >>> (46 - 2 * d)).toNat % 4

/-- A fingerprint begins with a prefix (R72). -/
def Prefix.covers (p : Prefix) (f : Fingerprint) : Bool := f >>> (48 - 2 * p.depth) == p.bits >>> (48 - 2 * p.depth)

/-- The child of a record for slot k (R70). -/
def Prefix.child (p : Prefix) (k : Nat) : Prefix :=
  ⟨p.depth + 1, p.bits ||| (BitVec.ofNat 48 (k % 4) <<< (46 - 2 * p.depth))⟩

/-- The full fingerprint of a slot of a depth-23 probe (R79). -/
def Prefix.fingerprint (p : Prefix) (k : Nat) : Fingerprint := (p.child k).bits

/-- The payload of a PROBE: the depth and the prefix octets (R70). -/
def Prefix.payload (p : Prefix) : List Octet := octet p.depth :: fpOctets p.bits

/-- The class of a probe slot (R72). -/
inductive SlotClass where
  | empty
  | single (fp : Fingerprint)
  | collided
  deriving DecidableEq, Repr

/-- The fingerprint of a valid PROBE REPLY from address 0 (R72, R196). -/
def probeReply (how : FrameEnd) : Option Fingerprint :=
  match classifyEnd how with
  | .valid [address, kind, a, b, c, d, e, f] => if address = 0 ∧ kind = octet probeReplyCode then some (fpOf a b c d e f) else none
  | _ => none

/-- The find of a slot that meets every SINGLE condition (R72). A delimiter is eight bits, so its first bit stands eight bit times before
its completion (assumption log 23). -/
def singleIn (p : Prefix) (guard k : Nat) (o : SlotObs) : Option Fingerprint :=
  match o.frames with
  | [⟨completed, some how⟩] =>
    match probeReply how with
    | some f =>
      if completed ≤ 8 + guard ∧ o.firstZero.map (· + 8) = some completed ∧ p.covers f = true ∧ slotOf p.depth f = k then some f
      else none
    | none => none
  | _ => none

/-- Classifies a slot (R72). -/
def classifySlot (p : Prefix) (guard k : Nat) (o : SlotObs) : SlotClass :=
  if o.firstZero.isNone then .empty
  else match singleIn p guard k o with
    | some f => .single f
    | none => .collided

/-! ## The walk -/

/-- Takes the next record from the top of the work list, or sends a confirming root probe (R75 step 3, R80). -/
def nextRecord (l : Lane) (s : State) : State :=
  match (s.lane l).census.work with
  | p :: rest => offerProbe l p 1 [] (modCensus l (fun c => { c with work := rest }) s)
  | [] =>
    if (s.lane l).census.confirming < 3 then
      offerProbe l .root 1 [] (modCensus l (fun c => { c with confirming := c.confirming + 1 }) s)
    else endCensus l .incomplete s

/-- A duplicate is declared: its count, its counter and its notice (R79, R84, R88). -/
def declareDuplicate (l : Lane) (fp : Fingerprint) (crossLane : Bool) (s : State) : State :=
  let s1 := countDuplicate l (modCensus l (fun c => { c with dups := min 255 (c.dups + 1) }) s)
  notify (.duplicate l fp crossLane (s1.lane l).census.dups) s1

/-- The capacity of the work list (R76). -/
def workCapacity : Nat := 16

/-- Pushes the children of the COLLIDED slots, the lowest slot's on top, or ends the run at a seventeenth record (R75 step 2, R77). -/
def pushChildren (l : Lane) (p : Prefix) (slots : List Nat) (s : State) : State :=
  if (s.lane l).census.work.length + slots.length ≤ workCapacity then
    nextRecord l (modCensus l (fun c => { c with work := slots.map p.child ++ c.work }) s)
  else endCensus l .incomplete s

/-- A third probe at depth 23: the slots it leaves open were COLLIDED in all three (R78, R79). -/
def ProbeInHand.isThird (h : ProbeInHand) : Bool := decide (maxDepth ≤ h.prefx.depth) && decide (3 ≤ h.number)

/-- The slots a probe in hand leaves open are declared duplicates on the lane, in slot order (R79). -/
def declareOpen (l : Lane) (h : ProbeInHand) (s : State) : State :=
  h.openSlots.foldl (fun s k => declareDuplicate l (h.prefx.fingerprint k) false s) s

/-- What follows when the finds of the probe in hand have all been taken (R75, R78 to R80). -/
def afterFinds (l : Lane) (s : State) : State :=
  match (s.lane l).census.hand with
  | none => nextRecord l s
  | some h =>
    if h.prefx.depth = 0 ∧ 3 ≤ (s.lane l).census.confirming then endCensus l .incomplete s
    else if h.prefx.depth < maxDepth then pushChildren l h.prefx h.openSlots s
    else if h.openSlots = [] then nextRecord l s
    else if h.isThird then nextRecord l (declareOpen l h s)
    else offerProbe l h.prefx (h.number + 1) h.openSlots s

/-! ## Finds -/

/-- The decision of R81 about a find. -/
inductive FindDecision where
  | rejoin (address : Nat)
  | move (slot : Nat) (e : Entry)
  | crossLane
  | new
  deriving DecidableEq, Repr

/-- The other lane's census has the rejoin of a fingerprint in hand (R81). -/
def State.rejoining (s : State) (l : Lane) (f : Fingerprint) : Bool :=
  match (s.lane l).census.find with
  | some x => x.fp == f && x.kind == .rejoin
  | none => false

/-- Decides the kind of a find (R81). -/
def State.decideFind (s : State) (l : Lane) (f : Fingerprint) : FindDecision :=
  match s.entryWithFp f with
  | none => .new
  | some (slot, e) =>
    if e.lane = l then .rejoin e.address
    else if e.state = .lost ∧ s.rejoining (otherLane l) f = false then .move slot e
    else .crossLane

/-- A new entry in ASSIGNING (R85, R94). -/
def Entry.assigned (l : Lane) (address : Nat) (f : Fingerprint) : Entry :=
  ⟨.assigning, l, address, f, none, none, none, none, 0, 0, none, none, false, none, none, false⟩

/-- Takes a find in hand, with the finds that remain of its probe. -/
def takeInHand (l : Lane) (x : Find) (rest : List Fingerprint) (s : State) : State :=
  modCensus l (fun c => { c with find := some x, hand := c.hand.map (fun h => { h with finds := rest }) }) s

/-- Creates the entry of a find in hand and offers its ASSIGN, or ends the run FULL (R85, R86). -/
def createEntry (l : Lane) (f : Fingerprint) (s : State) : State :=
  match s.freeSlot, s.freeAddress l with
  | some slot, some address =>
    setOffer l (some (.assign f address)) (evalComplete l (setEntry slot (some (.assigned l address f)) s))
  | _, _ => endCensus l .full s

/-- What a MOVE carries from the LOST entry (R83). -/
def Entry.carried (e : Entry) : Option Carried :=
  match e.name, e.source with
  | some n, some p => some ⟨n, p, e.mapRef⟩
  | _, _ => none

/-- Takes the SINGLE slots of a probe as finds, one after another; a duplicate across lanes leads to the next (R75, R81 to R85). -/
def takeFinds (l : Lane) : List Fingerprint → State → State
  | [], s => afterFinds l s
  | f :: rest, s =>
    match s.decideFind l f with
    | .rejoin address => setOffer l (some (.assign f address)) (takeInHand l ⟨f, .rejoin, none⟩ rest s)
    | .move slot e =>
      match s.freeAddress l with
      | none => endCensus l .full s
      | some _ => createEntry l f (removeEntry slot .moved (takeInHand l ⟨f, .move, e.carried⟩ rest s))
    | .crossLane => takeFinds l rest (declareDuplicate l f true s)
    | .new => createEntry l f (takeInHand l ⟨f, .new, none⟩ rest s)

/-! ## Outcomes of the run's exchanges -/

/-- The run goes on with the finds of its probe that remain, or ends STOPPED (R86, R90). -/
def continueRun (l : Lane) (s : State) : State :=
  match (s.lane l).census.run with
  | .stopping => endCensus l .stopped s
  | _ =>
    match (s.lane l).census.hand with
    | some h => takeFinds l h.finds s
    | none => offerOpening l s

/-- The find in hand ends. -/
def clearFind (l : Lane) (s : State) : State := modCensus l (fun c => { c with find := none }) s

/-- The found count rises, stopping at 32 (R88). -/
def countFound (l : Lane) (s : State) : State := modCensus l (fun c => { c with found := min 32 (c.found + 1) }) s

/-- The last-good time is set when an ASSIGN ends OK (R97, R98). -/
def markAssigned (slot : Nat) (s : State) : State := modEntry slot (fun e => { e with lastGood := some s.now }) s

/-- A rejoin ASSIGN ended OK (R82, R98). -/
def rejoinOk (l : Lane) (slot : Nat) (e : Entry) (s : State) : State :=
  if e.state = .held then resolveEntry slot .rejoined s else evalComplete l (enterProving slot .rejoined s)

/-- A rejoin ASSIGN failed (R82). -/
def rejoinFailed (l : Lane) (slot : Nat) (e : Entry) (s : State) : State :=
  match e.state with
  | .proving | .live | .suspect => enterLost slot l .rejoinFailed s
  | .lost | .held | .assigning => s

/-- The ASSIGN of a new entry ended OK: a MOVE takes its carried name, a NEW find is resolved (R83, R86). -/
def assignOk (l : Lane) (slot : Nat) (x : Find) (s : State) : State :=
  match x.carried with
  | some c => nameAndProve slot l c .moved s
  | none => resolveEntry slot (if x.kind = .move then .moved else .new) s

/-- The ASSIGN of a new entry failed: the entry goes, the ASSIGN_FAIL notice, then an UNADDRESS to its address (R87). -/
def assignFailed (l : Lane) (slot : Nat) (e : Entry) (o : ExchangeOutcome) (s : State) : State :=
  setOffer l (some (.drop e.address)) (notify (.assignFail l e.fp (o == .corrupt) e.address)
    (removeEntry slot .assignFailed (clearFind l s)))

/-- The outcome of a census ASSIGN (R82, R83, R86, R87). -/
def assignOutcome (l : Lane) (o : ExchangeOutcome) (s : State) : State :=
  match (s.lane l).census.find with
  | none => continueRun l s
  | some x =>
    match s.entryWithFp x.fp with
    | none => continueRun l (clearFind l s)
    | some (slot, e) =>
      if x.kind = .rejoin then
        continueRun l (clearFind l (if o = .ok then rejoinOk l slot e (countFound l (markAssigned slot s))
          else rejoinFailed l slot e s))
      else if o = .ok then continueRun l (clearFind l (assignOk l slot x (countFound l (markAssigned slot s))))
      else assignFailed l slot e o s

/-- A census PROBE or UNADDRESS ended CORRUPT at its guard limit (R74, R90). A taken-over item it carried does not come back (assumption log 37). -/
def guardFailed (l : Lane) (s : State) : State :=
  endCensus l (if (s.lane l).census.run = .stopping then .stopped else .incomplete) s

/-- The slots of a probe that are classified: all four, or at a depth-23 repeat the open ones (R78). -/
def ProbeInHand.looksAt (h : ProbeInHand) : List Nat := if h.number = 1 then [0, 1, 2, 3] else h.openSlots

/-- The find a slot gives, if it is SINGLE. -/
def SlotClass.find : SlotClass → Option Fingerprint
  | .single f => some f
  | _ => none

/-- Counts collided slots (R88). -/
def countCollisions (l : Lane) (n : Nat) (s : State) : State := n.repeat (countCollided l) s

/-- What STOPPING still applies of a probe's result besides its counts: the duplicates of a third probe at depth 23 (R79, R90). -/
def lastDuplicates (l : Lane) (h : ProbeInHand) (s : State) : State := if h.isThird then declareOpen l h s else s

/-- The result of a probe that was sent (R72, R75, R78, R80, R90). -/
def probeResult (l : Lane) (guard : Nat) (slots : List SlotObs) (s : State) : State :=
  match (s.lane l).census.hand with
  | none => continueRun l s
  | some h =>
    let cls := h.looksAt.map (fun k => (k, classifySlot h.prefx guard k (slots.getD k ⟨none, []⟩)))
    let collided := (cls.filter (fun x => x.2 == .collided)).map Prod.fst
    let finds := cls.filterMap (fun x => x.2.find)
    let s1 := countCollisions l collided.length s
    if (s.lane l).census.run = .stopping then endCensus l .stopped (lastDuplicates l { h with openSlots := collided } s1)
    else if h.prefx.depth = 0 ∧ 0 < (s.lane l).census.confirming ∧ collided = [] ∧ finds = [] then endCensus l .done s1
    else takeFinds l finds (modCensus l (fun c => { c with hand := some { h with openSlots := collided, finds := finds } }) s1)

/-- The outcome of a census exchange (R56). The outcome ABANDONED goes to no one (R38). -/
def censusOutcome (l : Lane) (kind : BusKind) (guard : Nat) (slots : List SlotObs) (o : ExchangeOutcome) (s : State) : State :=
  if (s.lane l).census.run = .idle then s
  else match o with
    | .abandoned => s
    | _ =>
      match kind with
      | .assign => assignOutcome l o s
      | .probe => if o = .ok then probeResult l guard slots s else guardFailed l s
      | _ => if o = .ok then continueRun l s else guardFailed l s

end Sys2Proof.Machine
end

