-- ==== Sys2Proof/Machine/Sending.lean ====
section
/-! DEFINITION. Sending.lean: the content and the line bits of the frames that the part sends, on the arm link and on the tool buses (R1, R10, R48,
R196). -/

namespace Sys2Proof.Machine

/-- The content of a frame to the controller, less its CRC (R10): destination name 0, source name, kind, tag, payload. -/
def ArmFrame.body (f : ArmFrame) : List Octet := 0 :: f.source :: octet f.kind.code :: f.tag :: f.payload

/-- The line bits of a frame to the controller (R1). -/
def ArmFrame.lineBits (f : ArmFrame) : List Bool := frameBits f.body

/-- The content of a tool-bus request, less its CRC (R196): target address, kind, payload. -/
def Exchange.body (x : Exchange) : List Octet := octet x.target :: octet x.kind.code :: x.payload

/-- The line bits of a tool-bus request (R1, R48). -/
def Exchange.lineBits (x : Exchange) : List Bool := frameBits x.body

end Sys2Proof.Machine
end

