-- ==== Sys2Proof/Machine/Exchange.lean ====
section
/-! DEFINITION. Exchange.lean: the course of an exchange from its grant to its outcome (R45 to R55, R58 to R63, R144 to R146, R196). -/

namespace Sys2Proof.Machine

/-! ## The end of an exchange -/

/-- The Forwarding Unit's answer to a forwarded exchange with an entry reference (R146). -/
def forwardAnswer (name : Nat) (tag : Octet) (r : EntryRef) (o : ExchangeOutcome) (payload : List Octet) (s : State) : State :=
  match s.referenced r, o with
  | none, _ => offer (refusal name tag .departed) s
  | some _, .abandoned => offer (refusal name tag .departed) s
  | some e, .ok => offer (reply (e.name.getD name) tag payload) s
  | some _, .noReply => offer (refusal name tag .noReply) s
  | some _, .corrupt => offer (refusal name tag .corrupt) s

/-- The outcome goes to the source of the exchange (R54); supervision's UNADDRESS and a broadcast give nothing (R143, R151). -/
def toSource (l : Lane) (x : Exchange) (o : ExchangeOutcome) (payload : List Octet) (slots : List SlotObs) (s : State) : State :=
  match x.source, x.ref with
  | .census, _ => censusOutcome l x.kind x.profile.guard slots o s
  | .cycle i, some r => cycleOutcome l i r.fp o payload s
  | .cycle _, none => s
  | .forward name tag, some r => forwardAnswer name tag r o payload s
  | .forward _ _, none => s
  | .supervision, _ => s

/-- The status octet of an ECHO REPLY, the third of its payload (R50, R105). -/
def statusOctet (x : Exchange) (payload : List Octet) : Option Octet :=
  if x.kind = .echo then payload[2]? else none

/-- The outcome then goes to supervision, when the exchange carries an entry reference (R54). -/
def toSupervision (x : Exchange) (o : ExchangeOutcome) (payload : List Octet) (s : State) : State :=
  match x.ref with
  | some r => applyOutcome r o (statusOctet x payload) s
  | none => s

/-- The lane has no exchange in flight, and its receiver is held in HUNT (R8). -/
def clearExchange (l : Lane) (s : State) : State := modLane l (fun y => { y with exch := none, rx := .hunt }) s

/-- Ends an exchange with an outcome (R54): the counters, the source, then supervision; the lane is idle. -/
def endExchange (l : Lane) (x : Exchange) (o : ExchangeOutcome) (payload : List Octet) (slots : List SlotObs) (s : State) : State :=
  toSupervision x o payload (toSource l x o payload slots (countOutcome l o (clearExchange l s)))

/-! ## Attempts -/

/-- A request that expects a reply and so may be retried (R48, R51, R52): ASSIGN, ECHO, or DATA to one device. -/
def Exchange.expectsReply (x : Exchange) : Bool :=
  match x.kind with
  | .assign | .echo => true
  | .data => x.target != 31
  | .probe | .unaddress => false

/-- Sets the exchange record of a lane. -/
def setExchange (l : Lane) (x : Exchange) (s : State) : State := modLane l (fun y => { y with exch := some x }) s

/-- Sets the tool-bus receiver of a lane. -/
def setRx (l : Lane) (r : RxState) (s : State) : State := modLane l (fun y => { y with rx := r }) s

/-- Enters GUARD for an attempt (R46, R47, R51); an ECHO takes the lane's token, incremented (R63). -/
def enterGuard (l : Lane) (x : Exchange) (s : State) : State :=
  let g : Exchange := { x with phase := .guard, guardIdle := 0, probe := none, line := [] }
  if x.kind = .echo then
    let t := (s.lane l).echoToken + 1
    modLane l (fun y => { y with echoToken := t, exch := some { g with token := some t, payload := tokenOctets t } }) s
  else setExchange l g s

/-- An attempt fails: the next attempt, or the end of the exchange (R51). -/
def failAttempt (l : Lane) (x : Exchange) (o : ExchangeOutcome) (s : State) : State :=
  if x.expectsReply && decide (x.attempt < x.profile.retries + 1) then enterGuard l { x with attempt := x.attempt + 1 } s
  else endExchange l x o [] [] s

/-- The checks of a reply against the request (R50, R196): the kept payload, or none when a check fails. -/
def checkReply (x : Exchange) (body : List Octet) : Option (List Octet) :=
  match body with
  | address :: kind :: payload =>
    match x.kind with
    | .assign =>
      if kind = octet assignAckCode ∧ address = x.payload.getD 6 0 ∧ payload = x.payload.take 6 then some payload else none
    | .echo =>
      if kind = octet echoReplyCode ∧ address = octet x.target ∧ payload.length = 3 ∧ payload.take 2 = x.payload then some payload
      else none
    | .data => if kind = octet dataReplyCode ∧ address = octet x.target then some payload else none
    | .probe | .unaddress => none
  | _ => none

/-- The reply kept from a frame that ended, or none (R50). -/
def acceptReply (x : Exchange) (how : FrameEnd) : Option (List Octet) :=
  match classifyEnd how with
  | .valid body => checkReply x body
  | _ => none

/-! ## Grants -/

/-- Begins an exchange at its grant (R46, R54). -/
def beginExchange (l : Lane) (x : Exchange) (s : State) : State := setRx l .hunt (enterGuard l x (countStarted l s))

/-- A request of a source, attempt 1 (R46). -/
def Exchange.request (src : Source) (kind : BusKind) (target : Nat) (ref : Option EntryRef) (p : Profile) (payload : List Octet) :
    Exchange :=
  ⟨src, kind, target, ref, p, 1, none, .guard, payload, 0, none, []⟩

/-- The lane's default profile (R45). -/
def State.defaultProfile (s : State) (l : Lane) : Profile := s.profile (s.lane l).options.defaultProfile

/-- The request a census offer hands over (R45, R69, R70, R86, R87). -/
def CensusOffer.request (p : Profile) : CensusOffer → Exchange
  | .broadcast => .request .census .unaddress 31 none p []
  | .taken a => .request .census .unaddress a none p []
  | .drop a => .request .census .unaddress a none p []
  | .probe q => .request .census .probe 0 none p q.payload
  | .assign f a => .request .census .assign 0 none p (fpOctets f ++ [octet a])

/-- The Census Engine after its offer was granted: a taken-over item leaves its list (R69; assumption log 15). If its UNADDRESS then ends CORRUPT at its guard
limit, not sent, the item is gone (assumption log 37). -/
def Census.granted (c : Census) : Census :=
  { c with offer := none, taken := match c.offer with
      | some (.taken _) => c.taken.tail
      | _ => c.taken }

/-- Grants the census source, if it offers a request (R61). -/
def grantCensus (l : Lane) (s : State) : State :=
  match (s.lane l).census.offer with
  | some o => beginExchange l (o.request (s.defaultProfile l)) (modCensus l Census.granted s)
  | none => s

/-- The entry of a reference to which DATA may begin (R60). -/
def State.ready (s : State) (r : EntryRef) : Option Entry :=
  match s.referenced r with
  | some e => if e.state.carriesData then some e else none
  | none => none

/-- Grants the cycle source's due entry: a DATA exchange, or the grant is given back (R57, R60, R162). -/
def grantCycle (l : Lane) (d : Due) (s : State) : State :=
  match s.ready d.ref with
  | some e =>
    beginExchange l (.request (.cycle d.position) .data d.address (some d.ref) (s.profile (s.profileInUse e)) d.payload)
      (setCursor l ⟨d.position, none⟩ s)
  | none => giveBackDue l d s

/-- Takes the front record out of a lane's forward queue; the arbiter records the turn (R61, R144). -/
def takeForward (l : Lane) (rest : List ForwardRecord) (s : State) : State :=
  modLane l (fun y => { y with forward := rest, lastTurn := .forward }) s

/-- Grants the forward source its front record: an exchange, or a REFUSAL DEPARTED or NOT_READY (R143, R144, R145). -/
def grantForward (l : Lane) (r : ForwardRecord) (rest : List ForwardRecord) (s : State) : State :=
  match r with
  | .broadcast tag payload =>
    beginExchange l (.request (.forward 255 tag) .data 31 none (s.defaultProfile l) payload) (takeForward l rest s)
  | .entry slot fp name tag payload =>
    match s.referenced ⟨l, slot, fp⟩ with
    | none => offer (refusal name tag .departed) (takeForward l rest s)
    | some e =>
      if e.state.carriesData then
        beginExchange l (.request (.forward name tag) .data e.address (some ⟨l, slot, fp⟩) (s.profile (s.profileInUse e)) payload)
          (takeForward l rest s)
      else offer (refusal name tag .notReady) (takeForward l rest s)

/-- An entry of the lane whose echo item is pending. -/
def State.echoPending (s : State) (l : Lane) (slot : Nat) : Bool :=
  match s.entry slot with
  | some e => e.lane == l && e.echo
  | none => false

/-- The slots in the order supervision looks at them: above the slot last served, upward, wrapping from 31 to 0 (R59). -/
def echoOrder (last : Nat) : List Nat := (List.range rosterSlots).map (fun i => (last + 1 + i) % rosterSlots)

/-- The slot whose ECHO item is served next (R59). -/
def State.nextEcho (s : State) (l : Lane) : Option Nat := (echoOrder (s.lane l).lastServed).find? (s.echoPending l)

/-- The arbiter records a grant to supervision (R61). -/
def turnSupervision (l : Lane) (s : State) : State := modLane l (fun y => { y with lastTurn := .supervision }) s

/-- Grants an ECHO item, which leaves the pending items (R59, R112). -/
def grantEcho (l : Lane) (slot : Nat) (e : Entry) (s : State) : State :=
  beginExchange l (.request .supervision .echo e.address (some ⟨l, slot, e.fp⟩) (s.profile (s.profileInUse e)) [])
    (modLane l (fun y => { y with lastServed := slot })
      (setEntry slot (some { e with echo := false }) (turnSupervision l s)))

/-- Supervision offers work on the lane (R59). -/
def State.supervisionOffers (s : State) (l : Lane) : Bool := !(s.lane l).unaddress.isEmpty || (s.nextEcho l).isSome

/-- Grants the supervision source: the oldest UNADDRESS item, else the next ECHO item (R59, R151; assumption log 18). -/
def grantSupervision (l : Lane) (s : State) : State :=
  match (s.lane l).unaddress with
  | a :: rest =>
    beginExchange l (.request .supervision .unaddress a none (s.defaultProfile l) [])
      (modLane l (fun y => { y with unaddress := rest }) (turnSupervision l s))
  | [] =>
    match s.nextEcho l with
    | some slot =>
      match s.entry slot with
      | some e => grantEcho l slot e s
      | none => s
    | none => s

/-- The choice of R61 once no census runs and no cycle entry is due: forward and supervision in turn. -/
def grantInTurn (l : Lane) (s : State) : State :=
  match (s.lane l).forward with
  | r :: rest =>
    if (s.lane l).lastTurn = .forward ∧ s.supervisionOffers l = true then grantSupervision l s else grantForward l r rest s
  | [] => if s.supervisionOffers l then grantSupervision l s else s

/-- One choice of the arbiter (R61). -/
def grantOnce (l : Lane) (s : State) : State :=
  if s.censusRunning l then grantCensus l s
  else match s.due l with
    | some d => grantCycle l d s
    | none => grantInTurn l s

/-- The arbiter chooses until an exchange begins; a grant given back lets it choose again (R61). -/
def grantLoop (l : Lane) : Nat → State → State
  | 0, s => s
  | n + 1, s => if (s.lane l).exch.isSome then s else grantLoop l n (grantOnce l s)

/-- Enough choices for every forward record and every list position to be given back and one exchange to begin. -/
def State.grantChoices (s : State) (l : Lane) : Nat := (s.lane l).forward.length + cyclePositions + 2

/-! ## Probe slots -/

/-- The record of a probe at the start of SLOTS (R55). -/
def ProbeRecord.start : ProbeRecord := ⟨.turnaround, none, List.replicate 4 ⟨none, []⟩⟩

/-- The next slot begins (R55). -/
def SlotPlace.next : SlotPlace → SlotPlace
  | .turnaround => .slot 0
  | .slot k => .slot (k + 1)

/-- Changes the observation of a slot. -/
def ProbeRecord.modSlot (p : ProbeRecord) (k : Nat) (f : SlotObs → SlotObs) : ProbeRecord := { p with slots := p.slots.modify k f }

/-- Records the end of the newest frame that has none. -/
def endNewest (how : FrameEnd) : List SlotFrame → List SlotFrame
  | [] => []
  | f :: rest => if rest = [] ∧ f.finish = none then [{ f with finish := some how }] else f :: endNewest how rest

/-- What the receiver reports goes into the observation of the current slot; a frame belongs to the slot in which its delimiter
completed, even if it ends in the next (R55, R73). -/
def ProbeRecord.observe (p : ProbeRecord) : SlotReport → ProbeRecord
  | .zero t =>
    match p.place with
    | .slot k => p.modSlot k (fun o => { o with firstZero := match o.firstZero with
        | some u => some u
        | none => some t })
    | .turnaround => p
  | .delimiter t =>
    match p.place with
    | .slot k => { p.modSlot k (fun o => { o with frames := o.frames ++ [⟨t, none⟩] }) with inFrame := some (.slot k) }
    | .turnaround => { p with inFrame := some .turnaround }
  | .frameEnd how =>
    match p.inFrame with
    | some (.slot k) => { p.modSlot k (fun o => { o with frames := endNewest how o.frames }) with inFrame := none }
    | _ => { p with inFrame := none }
  | .discardEnd => p

/-- The receiver after a frame ended: DISCARD after a LONG frame, else HUNT (R4, R7). -/
def rxAfter : FrameEnd → RxState
  | .long => .discard
  | _ => .hunt

/-- A report of the receiver that its state allows (R4, R5, R7): a delimiter opens a frame in HUNT, a frame ends in FRAME, DISCARD
ends in DISCARD. -/
def slotReportFits (now : RxState) : SlotReport → Bool
  | .zero _ => true
  | .delimiter _ => now == .hunt
  | .frameEnd _ => now == .frame
  | .discardEnd => now == .discard

/-- The receiver after a report. -/
def rxOn (now : RxState) : SlotReport → RxState
  | .zero _ => now
  | .delimiter _ => .frame
  | .frameEnd how => rxAfter how
  | .discardEnd => .hunt

/-- A report in GUARD that the receiver's state allows (R4, R5, R7, R47). -/
def guardReportFits (now : RxState) : GuardReport → Bool
  | .zero => true
  | .delimiter => now == .hunt
  | .frameEnd _ => now == .frame
  | .discardEnd => now == .discard

/-- The receiver after a report in GUARD; the frame is dropped whatever its content (R47). -/
def rxInGuard (now : RxState) : GuardReport → RxState
  | .zero => now
  | .delimiter => .frame
  | .frameEnd how => rxAfter how
  | .discardEnd => .hunt

end Sys2Proof.Machine
end

