-- ==== Sys2Proof/Machine/Flags.lean ====
section
/-! DEFINITION. Flags.lean: what the part's lines and status values show, computed from its state. -/

namespace Sys2Proof.Machine

/-- ALERT# is asserted while the queue holds a record and the alert enable is on (R191). -/
def State.alertAsserted (s : State) : Bool := !s.notices.queue.isEmpty && s.notices.masks.alert.getLsbD 7

/-- The weak probe supply of a lane (R20, R21). -/
def State.probeSupplyOn (s : State) (l : Lane) : Bool :=
  !s.resetAsserted && (s.lane l).power.state == .waiting

/-- The main switch of a power state: closing in RAMPING, closed in LIVE (section 2.1). -/
def PowerState.switched : PowerState → Bool
  | .ramping | .live => true
  | _ => false

/-- The main switch of a lane (R20, R21). -/
def State.mainSwitchClosed (s : State) (l : Lane) : Bool := !s.resetAsserted && (s.lane l).power.state.switched

/-- The discharge path of a lane: on in DISCHARGING and while RESET# is asserted (R20, R21). -/
def State.dischargeOn (s : State) (l : Lane) : Bool := s.resetAsserted || (s.lane l).power.state == .discharging

/-- The tool-bus transceiver of a lane: on in LIVE alone (R20). -/
def State.transceiverOn (s : State) (l : Lane) : Bool := !s.resetAsserted && (s.lane l).power.state == .live

/-- The arm-link line while nothing is sent, and under RESET#: held at 1 (R1, R16). -/
def State.armLineIdle (s : State) : Bool := s.resetAsserted || s.arm.tx.isNone

/-- A current in µA as whole mA: exact where it is whole, else one of its two neighbours (R41; a free value, assumption log 10). -/
def milliamps (choice microamps : Nat) : Nat :=
  if microamps % 1000 = 0 then microamps / 1000
  else if Config.roundsUp choice then microamps / 1000 + 1 else microamps / 1000

/-- The measured current of a lane in mA (R41): the probe supply's in WAITING, the main switch's in RAMPING and LIVE, else 0;
65535 stands for that value or more (R171). -/
def Power.measured (choice : Nat) (p : Power) : Nat :=
  match p.state with
  | .waiting => min 65535 (milliamps choice p.probeCurrent)
  | .ramping | .live => min 65535 (milliamps choice p.laneCurrent)
  | _ => 0

/-- The ms since an entry's last-good time, 65535 standing for that time or longer (R96). -/
def State.sinceGood (s : State) (e : Entry) : Option Nat := e.lastGood.map (fun t => min 65535 (s.now - t))

/-- The number of notices waiting (R188). -/
def State.waiting (s : State) : Nat := s.notices.queue.length

end Sys2Proof.Machine
end

