-- ==== Sys2Proof/Machine/Lpc.lean ====
section
/-! DEFINITION. Lpc.lean: the Lane Power Controller: power states, timers, faults, the applied limit, thermal events and the teardown of a
lane that leaves LIVE (R20 to R40). -/

namespace Sys2Proof.Machine

/-- Changes one lane's timers. -/
def modTimers (l : Lane) (f : PowerTimers → PowerTimers) (s : State) : State :=
  modPower l (fun p => { p with timers := f p.timers }) s

/-- A timer that starts from zero unless it runs already. -/
def startTimer (now ms : Nat) (t : Option Nat) : Option Nat :=
  match t with
  | some x => some x
  | none => some (now + ms)

/-- A timer watched by a condition: it starts when the condition holds and is forgotten when it does not (R24, R27, R29, R30). -/
def watchTimer (holds : Bool) (now ms : Nat) (t : Option Nat) : Option Nat := if holds then startTimer now ms t else none

/-- Above 5 mA from the probe supply (R24). -/
def Power.probeDraws (p : Power) : Bool := decide (5000 < p.probeCurrent)

/-- Both conditions of the coupling (R24). -/
def Power.coupled (p : Power) : Bool := p.lock && p.probeDraws

/-- The applied limit in µA. -/
def Power.limitMicroamps (p : Power) : Nat := p.limit * 100000

/-- At or above the applied limit (R29). -/
def Power.overLimit (p : Power) : Bool := decide (p.limitMicroamps ≤ p.laneCurrent)

/-- At or above twice the applied limit (R29). -/
def Power.shorted (p : Power) : Bool := decide (2 * p.limitMicroamps ≤ p.laneCurrent)

/-- Below 2 mA (R27). -/
def Power.underCurrent (p : Power) : Bool := decide (p.laneCurrent < 2000)

/-- The power states in which back-feed is watched (R30). -/
def PowerState.watchesBackfeed : PowerState → Bool
  | .waiting | .ramping | .live => true
  | _ => false

/-- The timers after an entry to a state: those not listed for it are stopped and forgotten (R20), those whose rule starts them at the
entry start, and the watched ones follow their conditions (assumption log 14). -/
def timersOnEntry (st : PowerState) (now : Nat) (p : Power) : PowerTimers where
  qualify := if st = .waiting then watchTimer p.coupled now qualifyMs none else none
  ramp := if st = .ramping then some (now + rampMs) else none
  overcurrent := if st.switched then p.timers.overcurrent else none
  backfeed := if st.watchesBackfeed then watchTimer p.overSupply now backfeedMs p.timers.backfeed else none
  removal := if st = .live then watchTimer p.underCurrent now removalMs none else none
  stability := if st = .live then some (now + stabilityMs) else none
  discharge := if st = .discharging then some (now + dischargeMs) else none
  cooldown := if st = .fault then some (now + cooldownMs) else none

/-- An LPC that has entered a power state. The main switch carries no current while it is open (R41). -/
def Power.entered (st : PowerState) (dp : DisablePending) (now : Nat) (p : Power) : Power :=
  { p with state := st, disablePending := dp, laneCurrent := if st.switched then p.laneCurrent else 0,
           timers := timersOnEntry st now p }

/-- Steps 1 to 4 of the teardown (R38): the exchange ABANDONED and a due cycle entry taken back, the census LANE_DOWN, the forward records
refused and supervision's work discarded, the entries removed. -/
def abandonExchange (l : Lane) (s : State) : State :=
  match (s.lane l).exch with
  | some x => endExchange l x .abandoned [] [] s
  | none => s

/-- Ends a run that is going with LANE_DOWN (R91). -/
def censusDown (l : Lane) (s : State) : State := if s.censusRunning l then endCensus l .laneDown s else s

/-- The lane's pending UNADDRESS and ECHO items are discarded (R38, R59). -/
def discardSupervision (l : Lane) (s : State) : State :=
  modLane l (fun x => { x with unaddress := [] })
    { s with roster := s.roster.map (Option.map (fun e => if e.lane = l then { e with echo := false } else e)) }

/-- The teardown of R38. The REFUSAL of an abandoned forward exchange comes before the REPORT of a cycle that ends with the due entry taken back
(assumption log 39). -/
def teardown (l : Lane) (s : State) : State :=
  removeLane l .laneDown (discardSupervision l (refuseForward l .departed (censusDown l (takeBackDue l (abandonExchange l s)))))

/-- What an entry to a state brings besides its notice: leaving LIVE evaluates completeness and tears the lane down (R38, R137). -/
def leaveLive (l : Lane) (was : PowerState) (s : State) : State := if was = .live then teardown l (evalComplete l s) else s

/-- The LANE notice of the state a lane is in (R40). -/
def laneNotice (l : Lane) (cause : LaneCause) (s : State) : Notice :=
  .lane l (s.lane l).power.state cause (s.lane l).power.faultCount

/-- Enters a power state other than LIVE, queues its LANE notice, and tears the lane down if it was LIVE (R20, R38, R40). -/
def enterPower (l : Lane) (st : PowerState) (cause : LaneCause) (dp : DisablePending) (s : State) : State :=
  let s1 := modPower l (Power.entered st dp s.now) s
  leaveLive l (s.lane l).power.state (notify (laneNotice l cause s1) s1)

/-- The state a fault leads to by the fault count after its increment (R32). -/
def faultState (count : Nat) : PowerState := if count < 3 then .fault else .latched

/-- Every entry to FAULT (R32): the count, the last cause, FAULT or at the third LATCHED. -/
def enterFault (l : Lane) (why : Trip) (s : State) : State :=
  let n := min 3 ((s.lane l).power.faultCount + 1)
  enterPower l (faultState n) (.trip why) .no (modPower l (fun p => { p with faultCount := n, lastFault := some why }) s)

/-- The entry to WAITING, or to FAULT THERMAL while the over-temperature flag is set (R22, R31, R35). -/
def enterWaiting (l : Lane) (cause : LaneCause) (s : State) : State :=
  if s.overTemp then enterFault l .thermal s else enterPower l .waiting cause .no s

/-- The entry to LIVE (R25, R39, R137): its notice, the auto census, then completeness. -/
def enterLaneLive (l : Lane) (s : State) : State :=
  let s1 := modPower l (Power.entered .live .no s.now) s
  let s2 := notify (laneNotice l .ramped s1) s1
  evalComplete l (if (s2.lane l).options.autoCensus then startCensus l .fresh s2 else s2)

/-- LANE CONTROL ENABLE (R22). -/
def enableLane (l : Lane) (s : State) : State :=
  match (s.lane l).power.state with
  | .off => enterWaiting l .enabled s
  | _ => s

/-- LANE CONTROL DISABLE (R23). -/
def disableLane (l : Lane) (s : State) : State :=
  match (s.lane l).power.state with
  | .off => s
  | .waiting | .fault | .latched => enterPower l .off .disabled .no s
  | .ramping | .live => enterPower l .discharging .disabled .disable s
  | .discharging =>
    modPower l (fun p => { p with disablePending := if p.disablePending = .reset then .reset else .disable }) s

/-- LANE CONTROL CLEAR_LATCH (R35). -/
def clearLatch (l : Lane) (s : State) : State :=
  match (s.lane l).power.state with
  | .latched => enterWaiting l .cleared (modPower l (fun p => { p with faultCount := 0 }) s)
  | _ => s

/-- The comparisons of the current with the applied limit (R29, R37): a short faults at once, the overcurrent mask follows the limit. -/
def compareCurrent (l : Lane) (s : State) : State :=
  if (s.lane l).power.state.switched then
    if (s.lane l).power.shorted then enterFault l .short s
    else modPower l (fun p => { p with timers := { p.timers with
      overcurrent := watchTimer p.overLimit s.now overcurrentMs p.timers.overcurrent } }) s
  else s

/-- The removal timer follows the current in LIVE (R27). -/
def watchRemoval (l : Lane) (s : State) : State :=
  if s.laneLive l then
    modPower l (fun p => { p with timers := { p.timers with removal := watchTimer p.underCurrent s.now removalMs p.timers.removal } }) s
  else s

/-- Clamps a requested limit (R36). -/
def clampLimit (ceiling steps : Nat) : Nat := min ceiling (max 1 steps)

/-- Applies a requested limit (R36, R37). -/
def applyLimit (l : Lane) (steps : Nat) (s : State) : State :=
  compareCurrent l (modPower l (fun p => { p with limit := clampLimit (ceilingOf s.strap) steps }) s)

/-- The qualify timer follows the coupling in WAITING (R24). -/
def watchCoupling (l : Lane) (s : State) : State :=
  if (s.lane l).power.state = .waiting then
    modPower l (fun p => { p with timers := { p.timers with qualify := watchTimer p.coupled s.now qualifyMs p.timers.qualify } }) s
  else s

/-- The back-feed mask follows the lane voltage (R30). -/
def watchBackfeed (l : Lane) (s : State) : State :=
  if (s.lane l).power.state.watchesBackfeed then
    modPower l (fun p => { p with timers := { p.timers with backfeed := watchTimer p.overSupply s.now backfeedMs p.timers.backfeed } }) s
  else s

/-- Where a discharge ends (R28, R31). -/
def endDischarge (l : Lane) (s : State) : State :=
  match (s.lane l).power.disablePending with
  | .no => enterPower l .waiting .discharged .no s
  | .disable => enterPower l .off .disabled .no s
  | .reset => enterPower l .off .reset .no s

/-- The states the over-temperature flag acts on (R31). -/
def PowerState.thermalActs : PowerState → Bool
  | .waiting | .ramping | .live | .discharging => true
  | _ => false

/-- The over-temperature flag acts on a lane (R31): FAULT THERMAL, and OFF at once where a disable or a reset was pending. -/
def thermalLane (l : Lane) (s : State) : State :=
  if (s.lane l).power.state.thermalActs then
    match (s.lane l).power.state, (s.lane l).power.disablePending with
    | .discharging, .disable => enterPower l .off .disabled .no (enterFault l .thermal s)
    | .discharging, .reset => enterPower l .off .reset .no (enterFault l .thermal s)
    | _, _ => enterFault l .thermal s
  else s

/-- The flag is set and acts on both lanes (R31); where it acts on both, a free value says which is taken first (assumption log 8). -/
def setOverTemperature (s : State) : State :=
  let s1 := { s with overTemp := true }
  if s.laneA.power.state.thermalActs && s.laneB.power.state.thermalActs then
    let s2 := { s1 with choices := s1.choices + 1 }
    if Config.laneBFirst s1.choices then thermalLane .a (thermalLane .b s2) else thermalLane .b (thermalLane .a s2)
  else thermalLane .b (thermalLane .a s1)

end Sys2Proof.Machine
end

