-- ==== Sys2Proof/Machine/Link.lean ====
section
/-! DEFINITION. Link.lean: the Arm Link Port and the arrival of DATA frames: receiver, dispatch, link state, transmitter (R4 to R18, R140, R142);
the meanings of the arm-link rows. -/

namespace Sys2Proof.Machine

/-- A step of the part, which does not take place while RESET# is asserted (R16, R19, R21; assumption log 25). -/
def whenRunning (f : State → State) (s : State) : State := if s.resetAsserted then s else f s

def setArmRx (r : RxState) (s : State) : State := modArm (fun a => { a with rx := r }) s

/-! ## Arrival of DATA -/

/-- The capacity of a forward queue (R139). -/
def forwardCapacity : Nat := 6

/-- A lane's forward queue has room. -/
def State.forwardRoom (s : State) (l : Lane) : Bool := decide ((s.lane l).forward.length < forwardCapacity)

/-- Queues a forward record (R139). -/
def queueForward (l : Lane) (r : ForwardRecord) (s : State) : State := modLane l (fun x => { x with forward := x.forward ++ [r] }) s

/-- A DATA frame to a name of 1..254 (R140). -/
def dataToName (n : Nat) (tag : Octet) (payload : List Octet) (s : State) : State :=
  match s.entryNamed n with
  | none => offer (refusal n tag .unknownName) s
  | some (slot, e) =>
    if e.state = .proving ∨ e.state = .lost then offer (refusal n tag .notReady) s
    else if s.censusRunning e.lane then offer (refusal n tag .laneBusy) s
    else if s.forwardRoom e.lane then queueForward e.lane (.entry slot e.fp n tag payload) s
    else offer (refusal n tag .queueFull) s

/-- A lane qualifies for a broadcast (R142). -/
def State.qualifies (s : State) (l : Lane) : Bool :=
  s.laneLive l && !s.censusRunning l && (s.findEntry (fun e => e.lane == l && e.state.carriesData)).isSome

/-- A qualifying lane with room queues a BROADCAST record (R142). -/
def broadcastOn (tag : Octet) (payload : List Octet) (l : Lane) (s : State) : State :=
  if s.qualifies l && s.forwardRoom l then queueForward l (.broadcast tag payload) s else s

/-- A DATA frame to name 255 (R142). -/
def dataToAll (tag : Octet) (payload : List Octet) (s : State) : State :=
  if s.qualifies .a || s.qualifies .b then bothLanes (broadcastOn tag payload) s else offer (refusal 255 tag .notReady) s

/-! ## Dispatch -/

/-- The capacity of the request queue (R14). -/
def requestCapacity : Nat := 4

/-- A REQUEST to name 0 (R12, R14). -/
def queueRequest (tag : Octet) (payload : List Octet) (s : State) : State :=
  if s.arm.requests.length < requestCapacity then modArm (fun a => { a with requests := a.requests ++ [⟨tag, payload⟩] }) s
  else countInboundOverflow s

/-- A CYCLE frame gives one trigger when the source is FRAME (R158). -/
def cycleFrame (s : State) : State := if s.seq.source = .frame then trigger .frame s else s

/-- Dispatch by destination name and kind (R12, R13). -/
def dispatchFrame (dest : Nat) (kind : Option ArmKind) (tag : Octet) (payload : List Octet) (s : State) : State :=
  match kind with
  | some .request => if dest = 0 then queueRequest tag payload s else offer (refusal dest tag .badKind) s
  | some .cycle => if dest = 0 then cycleFrame s else offer (refusal dest tag .badKind) s
  | some .data =>
    if dest = 0 then countMisdirected s else if dest = 255 then dataToAll tag payload s else dataToName dest tag payload s
  | _ => countMisdirected s

/-- A valid frame's tail bit sets the link UP and restarts the link timer (R17). -/
def linkUpNow (s : State) : State := modArm (fun a => { a with linkUp := true, linkTimer := some (s.now + linkMs) }) s

/-- A valid frame (R11, R12, R17): counted, the link state updated, dispatched. -/
def validFrame (body : List Octet) (s : State) : State :=
  match body with
  | dest :: _ :: kind :: tag :: payload => dispatchFrame dest.toNat (armKindOf kind) tag payload (linkUpNow (countFrameGood s))
  | _ => s

/-- A received arm-link frame by its class (R11). -/
def receiveFrame (c : FrameClass) (s : State) : State :=
  match c with
  | .valid body => validFrame body s
  | .corrupt => countCorruptFrame s
  | .misaligned | .short | .broken | .long => countFramingError s
  | .dropped => s

/-! ## Link state -/

/-- The link goes DOWN (R17, R18): the outbound queue and both forward queues are emptied, the sequencer is told to stop. -/
def linkDown (s : State) : State :=
  stopSequencer (bothLanes (fun l => modLane l (fun x => { x with forward := [] }))
    (modArm (fun a => { a with linkUp := false, linkTimer := none, outbound := [] }) s))

/-! ## The rows -/

/-- OPENING_DELIMITER (R4). -/
def execOpeningDelimiter (s : State) : Host.Outcome State Fault Refusal :=
  .next (whenRunning (fun s => if s.arm.rx = .hunt then setArmRx .frame s else s) s)

/-- ARM_FRAME_RECEIVED (R4, R6, R11, R12): a frame in progress ends at its tail bit. -/
def execArmFrameReceived (bits : List Bool) (s : State) : Host.Outcome State Fault Refusal :=
  .next (whenRunning (fun s =>
    if s.arm.rx = .frame then receiveFrame (checkContent armMin armMax bits) (setArmRx .hunt s) else s) s)

/-- FRAME_LONG (R7, R11). -/
def execFrameLong (s : State) : Host.Outcome State Fault Refusal :=
  .next (whenRunning (fun s => if s.arm.rx = .frame then receiveFrame .long (setArmRx .discard s) else s) s)

/-- FRAME_BREAK (R5, R11): BROKEN after eight or more content bits, else dropped without a class. -/
def execFrameBreak (bits : Nat) (s : State) : Host.Outcome State Fault Refusal :=
  .next (whenRunning (fun s =>
    if s.arm.rx = .frame then receiveFrame (breakClass bits) (setArmRx .hunt s) else s) s)

/-- DISCARD_END (R7). -/
def execDiscardEnd (s : State) : Host.Outcome State Fault Refusal :=
  .next (whenRunning (fun s => if s.arm.rx = .discard then setArmRx .hunt s else s) s)

/-- The idle transmitter takes the oldest frame, which frees its place, and sends its line bits (R1, R16). -/
def transmit (s : State) : State :=
  match s.arm.tx, s.arm.outbound with
  | none, f :: rest => modArm (fun a => { a with tx := some f.lineBits, outbound := rest }) s
  | _, _ => s

/-- TRANSMIT_START (R16). -/
def execTransmitStart (s : State) : Host.Outcome State Fault Refusal := .next (whenRunning transmit s)

/-- TRANSMIT_TAIL_BIT (R1, R16): the transmitter is idle. -/
def execTransmitTailBit (s : State) : Host.Outcome State Fault Refusal :=
  .next (whenRunning (modArm (fun a => { a with tx := none })) s)

/-- LINK_TIMER_EXPIRY (R17): the timer runs only while the link is UP, and a valid frame taken first has restarted it. -/
def execLinkTimerExpiry (s : State) : Host.Outcome State Fault Refusal :=
  .next (whenRunning (fun s => if s.arm.linkUp && ranOut s.now s.arm.linkTimer then linkDown s else s) s)

end Sys2Proof.Machine
end

