-- ==== Sys2Proof/Machine/BusRows.lean ====
section
/-! DEFINITION. BusRows.lean: the meanings of the tool-bus rows and of the timers of roster entries and cycles (R47 to R55, R61, R113, R114,
R158). -/

namespace Sys2Proof.Machine

/-- A step of the exchange in flight on a lane, in one phase (section 3.2). -/
def inPhase (l : Lane) (ph : Phase) (f : Exchange → State → State) (s : State) : State :=
  whenRunning (fun s =>
    match (s.lane l).exch with
    | some x => if x.phase = ph then f x s else s
    | none => s) s

/-- Grants an idle LIVE lane (R61). -/
def grantLane (l : Lane) (s : State) : State := if s.laneLive l then grantLoop l (s.grantChoices l) s else s

/-- EXCHANGE_GRANT (R61). -/
def execExchangeGrant (l : Lane) (s : State) : Host.Outcome State Fault Refusal := .next (whenRunning (grantLane l) s)

/-- The idle count has reached the guard: SEND with the request's line bits, the receiver held in HUNT (R8, R47, R48). While the receiver is in
FRAME or DISCARD the count stays at zero, so it does not reach the guard then (R47). -/
def startSending (l : Lane) (x : Exchange) (s : State) : State :=
  if (s.lane l).rx = .hunt then setExchange l { x with phase := .send, guardIdle := x.profile.guard, line := x.lineBits } s else s

/-- GUARD_COUNT_REACHED (R47). -/
def execGuardCountReached (l : Lane) (s : State) : Host.Outcome State Fault Refusal :=
  .next (inPhase l .guard (startSending l) s)

/-- The idle count in GUARD is zero again, and the receiver is where the report leaves it (R4, R5, R7, R47; assumption log 24). -/
def loseIdle (l : Lane) (r : GuardReport) (x : Exchange) (s : State) : State :=
  if guardReportFits (s.lane l).rx r then setRx l (rxInGuard (s.lane l).rx r) (setExchange l { x with guardIdle := 0 } s) else s

/-- GUARD_IDLE_LOST (R47). -/
def execGuardIdleLost (l : Lane) (r : GuardReport) (s : State) : Host.Outcome State Fault Refusal :=
  .next (inPhase l .guard (loseIdle l r) s)

/-- GUARD_LIMIT_REACHED (R47, R51): the attempt fails CORRUPT and no request is sent. -/
def execGuardLimitReached (l : Lane) (s : State) : Host.Outcome State Fault Refusal :=
  .next (inPhase l .guard (fun x s => failAttempt l x .corrupt s) s)

/-- What follows a request's tail bit (R48, R52, R55, R88). -/
def afterTail (l : Lane) (x : Exchange) (s : State) : State :=
  if x.kind = .probe then countProbeSent l (setExchange l { x with phase := .slots, probe := some .start, line := [] } s)
  else if x.expectsReply then setExchange l { x with phase := .wait, line := [] } s
  else endExchange l x .ok [] [] s

/-- REQUEST_TAIL_BIT (R48). -/
def execRequestTailBit (l : Lane) (s : State) : Host.Outcome State Fault Refusal := .next (inPhase l .send (afterTail l) s)

/-- REPLY_DELIMITER_COMPLETE (R49). -/
def execReplyDelimiterComplete (l : Lane) (s : State) : Host.Outcome State Fault Refusal :=
  .next (inPhase l .wait (fun x s => setRx l .frame (setExchange l { x with phase := .receive } s)) s)

/-- REPLY_TIMEOUT (R49, R51). -/
def execReplyTimeout (l : Lane) (s : State) : Host.Outcome State Fault Refusal :=
  .next (inPhase l .wait (fun x s => failAttempt l x .noReply s) s)

/-- The end of the reply frame and its check (R50, R51). -/
def replyEnded (l : Lane) (how : FrameEnd) (x : Exchange) (s : State) : State :=
  match acceptReply x how with
  | some payload => endExchange l x .ok payload [] s
  | none => failAttempt l x .corrupt (setRx l (rxAfter how) s)

/-- REPLY_FRAME_END (R50). -/
def execReplyFrameEnd (l : Lane) (how : FrameEnd) (s : State) : Host.Outcome State Fault Refusal :=
  .next (inPhase l .receive (replyEnded l how) s)

/-- A step on the probe record of an exchange in SLOTS. -/
def onProbe (f : ProbeRecord → Exchange → State → State) (x : Exchange) (s : State) : State :=
  match x.probe with
  | some p => f p x s
  | none => s

/-- The next probe slot begins (R55); the last one is followed by SLOTS_END. -/
def nextSlot (l : Lane) (p : ProbeRecord) (x : Exchange) (s : State) : State :=
  if p.place = .slot 3 then s else setExchange l { x with probe := some { p with place := p.place.next } } s

/-- SLOT_START (R55). -/
def execSlotStart (l : Lane) (s : State) : Host.Outcome State Fault Refusal := .next (inPhase l .slots (onProbe (nextSlot l)) s)

/-- A report of the receiver is recorded (R5, R8, R55). -/
def recordReport (l : Lane) (r : SlotReport) (p : ProbeRecord) (x : Exchange) (s : State) : State :=
  if slotReportFits (s.lane l).rx r then
    modLane l (fun y => { y with rx := rxOn y.rx r, exch := some { x with probe := some (p.observe r) } }) s
  else s

/-- SLOT_OBSERVATION (R55). -/
def execSlotObservation (l : Lane) (r : SlotReport) (s : State) : Host.Outcome State Fault Refusal :=
  .next (inPhase l .slots (onProbe (recordReport l r)) s)

/-- The end of slot 3 ends the PROBE OK with the four observations (R55); a frame in progress has no end in them. -/
def endSlots (l : Lane) (p : ProbeRecord) (x : Exchange) (s : State) : State :=
  if p.place = .slot 3 then endExchange l x .ok [] p.slots s else s

/-- SLOTS_END (R55). -/
def execSlotsEnd (l : Lane) (s : State) : Host.Outcome State Fault Refusal := .next (inPhase l .slots (onProbe (endSlots l)) s)

/-- SILENCE_CHECK_DUE (R113). -/
def execSilenceCheckDue (slot : Nat) (s : State) : Host.Outcome State Fault Refusal := .next (whenRunning (silenceDue slot) s)

/-- RECALL_ECHO_DUE (R114). -/
def execRecallEchoDue (slot : Nat) (s : State) : Host.Outcome State Fault Refusal := .next (whenRunning (recallDue slot) s)

/-- The period timer runs out: it starts again from zero and gives one trigger (R158). -/
def periodElapsed (s : State) : State :=
  if ranOut s.now s.seq.timer then trigger .period (modSeq (fun q => { q with timer := some (s.now + q.period) }) s) else s

/-- PERIOD_TIMER_EXPIRY (R158, R159). -/
def execPeriodTimerExpiry (s : State) : Host.Outcome State Fault Refusal := .next (whenRunning periodElapsed s)

end Sys2Proof.Machine
end

