-- ==== Sys2Proof/Machine/Operands.lean ====
section
/-! DEFINITION. Operands.lean: the octets of a management request: which row of the table it belongs to, and the values of its arguments
(R169, R198, section 12.3). -/

namespace Sys2Proof.Machine

/-- The management rows of the opcode table. -/
inductive RequestRow where
  | identify | readStatus | laneControlEnable | laneControlDisable | laneControlClearLatch | laneControlNone
  | laneOptionsWrite | laneOptionsRead | writeProfile | readProfile | startCensus | stopCensus | readRoster | find
  | mapWrite | mapClear | mapRead | setProvisionalRange | nameDevice | release
  | cycleListWrite | cycleListClear | cycleListRead | cycleControlStart | cycleControlStop | cycleControlNone
  | fetchNotices | noticeMasksWrite | noticeMasksRead | readCounters | resetPart | unknownRequest
  deriving DecidableEq, Repr

/-- LANE CONTROL by its action (R172); a request refused for its length or action belongs to the row without an action. -/
def laneControlRow (args : List Octet) : RequestRow :=
  if args.length = 2 ∨ args.length = 3 then
    match (args.getD 1 0).toNat with
    | 1 => .laneControlEnable
    | 2 => .laneControlDisable
    | 3 => .laneControlClearLatch
    | _ => .laneControlNone
  else .laneControlNone

/-- CYCLE CONTROL by its action (R179). -/
def cycleControlRow (args : List Octet) : RequestRow :=
  if args.length = 1 ∨ args.length = 4 then
    match (args.getD 0 0).toNat with
    | 1 => .cycleControlStart
    | 2 => .cycleControlStop
    | _ => .cycleControlNone
  else .cycleControlNone

/-- The row a request belongs to, by its request code and, where one code has several rows, by its form (section 12.3). -/
def rowOf (payload : List Octet) : RequestRow :=
  match payload with
  | [] => .unknownRequest
  | code :: args =>
    match code.toNat with
    | 0x01 => .identify
    | 0x02 => .readStatus
    | 0x03 => laneControlRow args
    | 0x04 => if args.length = 1 then .laneOptionsRead else .laneOptionsWrite
    | 0x05 => .writeProfile
    | 0x06 => .readProfile
    | 0x07 => .startCensus
    | 0x08 => .stopCensus
    | 0x09 => .readRoster
    | 0x0A => .find
    | 0x0B => .mapWrite
    | 0x0C => .mapClear
    | 0x0D => .mapRead
    | 0x0E => .setProvisionalRange
    | 0x0F => .nameDevice
    | 0x10 => .release
    | 0x11 => .cycleListWrite
    | 0x12 => .cycleListClear
    | 0x13 => .cycleListRead
    | 0x14 => cycleControlRow args
    | 0x15 => .fetchNotices
    | 0x16 => if args = [] then .noticeMasksRead else .noticeMasksWrite
    | 0x17 => .readCounters
    | 0x18 => .resetPart
    | _ => .unknownRequest

/-- The lane a code octet names (section 12.5). -/
def laneOf (o : Octet) : Option Lane :=
  match o.toNat with
  | 1 => some .a
  | 2 => some .b
  | _ => none

/-- The lane restriction a code octet names; the outer none is no code, the inner none is ANY. -/
def restrictionOf (o : Octet) : Option (Option Lane) :=
  match o.toNat with
  | 1 => some (some .a)
  | 2 => some (some .b)
  | 3 => some none
  | _ => none

def censusModeOf (o : Octet) : Option CensusMode :=
  match o.toNat with
  | 1 => some .fresh
  | 2 => some .additive
  | _ => none

def matchOf (o : Octet) : Option MapMatch :=
  match o.toNat with
  | 1 => some .exact
  | 2 => some .model
  | _ => none

def triggerOf (o : Octet) : Option Trigger :=
  match o.toNat with
  | 1 => some .frame
  | 2 => some .period
  | _ => none

/-- A name that may be given or addressed: not 0 and not 255 (R121, R134, R155). -/
def deviceName (o : Octet) : Option Nat := if o.toNat = 0 ∨ o.toNat = 255 then none else some o.toNat

/-- A value clamped into a range (R169). -/
def clamp (low high n : Nat) : Nat := min high (max low n)

/-- The stored values of a WRITE PROFILE (R43). -/
def clampProfile (rate guard timeout retries : Octet) : Profile :=
  ⟨clamp 0 5 rate.toNat, clamp 2 31 guard.toNat, clamp 1 255 timeout.toNat, clamp 0 3 retries.toNat⟩

/-- The four octets of a profile (section 12.3). -/
def Profile.octets (p : Profile) : List Octet := [octet p.rate, octet p.guard, octet p.timeout, octet p.retries]

/-- The stored span of a MAP WRITE (R121). -/
def storedSpan (k : MapMatch) (base span : Nat) : Nat :=
  match k with
  | .exact => 1
  | .model => min (clamp 1 16 span) (255 - base)

/-- The switches octet of LANE OPTIONS (section 12.3). -/
def LaneOptions.switches (o : LaneOptions) : Octet :=
  octet (128 * yesCode o.autoCensus + 64 * yesCode o.recallCensus + 32 * yesCode o.strictProving)

/-- The six octets of the stored lane options after the lane (R173, section 12.3). -/
def LaneOptions.octets (o : LaneOptions) : List Octet :=
  o.switches :: octet o.passThreshold :: octet o.failureLimit :: octets2 o.silenceInterval ++ [octet o.defaultProfile]

/-- The lane options a write stores (R103). -/
def writtenOptions (switches threshold limit hi lo profile : Octet) : LaneOptions where
  autoCensus := switches.getLsbD 7
  recallCensus := switches.getLsbD 6
  strictProving := switches.getLsbD 5
  passThreshold := clamp 0 15 threshold.toNat
  failureLimit := clamp 1 7 limit.toNat
  silenceInterval := 256 * hi.toNat + lo.toNat
  defaultProfile := profile.toNat

/-- The fourteen octets of a map record (section 12.4). -/
def MapEntry.octets (m : MapEntry) : List Octet :=
  octet 1 :: octet m.kind.code :: octets3 m.makerModel ++ octets3 m.serial ++
    [octet (restrictionCode m.restriction), octet m.base, octet m.span, octet m.profile, octet (yesCode m.required),
     octet (m.override.getD 255)]

/-- The map record of an index; an entry not in use reads as twelve zeros and 0xFF (section 12.4). -/
def mapRecord (m : Option MapEntry) : List Octet :=
  match m with
  | some m => m.octets
  | none => List.replicate 13 (octet 0) ++ [octet 255]

/-- The mask octets a write stores: positions without meaning read back as 0 (R180). -/
def writtenMasks (kinds device directions alert : Octet) : Masks :=
  ⟨kinds, device &&& 0xFC#8, directions &&& 0xC0#8, alert &&& 0x80#8⟩

/-- The four mask octets (section 12.3). -/
def Masks.octets (m : Masks) : List Octet := [m.kinds, m.device, m.directions, m.alert]

end Sys2Proof.Machine
end

