-- ==== Sys2Proof/Machine/Requests.lean ====
section
/-! DEFINITION. Requests.lean: how a management request is taken and answered (R168, R169), and the requests about the part, lanes, profiles, the
census and the roster (R170 to R176). -/

namespace Sys2Proof.Machine

/-! ## Taking a request -/

/-- A status with its result data (R168). -/
structure Answer where
  status : Status
  data   : List Octet

/-- What an action gives: its answer and the state after it. -/
abbrev Done := Answer × State

/-- A request answered OK. -/
def done (data : List Octet) (s : State) : Done := (⟨.ok, data⟩, s)

/-- A request that took effect: CLAMPED when a value was changed by clamping, else OK (R169). -/
def doneClamped (clamped : Bool) (data : List Octet) (s : State) : Done := (⟨if clamped then .clamped else .ok, data⟩, s)

/-- A refused request changes nothing and carries the header alone (R169). -/
def refuse (st : Status) (s : State) : Done := (⟨st, []⟩, s)

/-- The request code of a payload; an empty payload has code 0 (R169). -/
def requestCode (payload : List Octet) : Octet := payload.headD 0

/-- The RESPONSE to a request (R168): the header of code, status and notices waiting, then the result data. -/
def responseTo (r : Request) (a : Answer) (waiting : Nat) : ArmFrame :=
  ⟨0, .response, r.tag, requestCode r.payload :: octet a.status.code :: octet waiting :: a.data⟩

/-- The checks that every request passes first (R169), then its own checks and its action. -/
def actOn (act : List Octet → State → Done) (payload : List Octet) (s : State) : Done :=
  match payload with
  | [] => refuse .badLength s
  | _ :: args => act args s

/-- The request that the Responder takes next: the oldest one, while the outbound queue has a free place (R14). -/
def State.nextRequest (s : State) : Option Request :=
  if s.resetAsserted = false ∧ s.arm.outbound.length < outboundCapacity then s.arm.requests.head? else none

/-- The oldest request leaves the request queue (R14). -/
def popRequest (s : State) : State := modArm (fun a => { a with requests := a.requests.tail }) s

/-- Puts a frame at the back of the outbound queue. -/
def appendFrame (f : ArmFrame) (s : State) : State := modArm (fun a => { a with outbound := a.outbound ++ [f] }) s

/-- Puts a frame in a place of the outbound queue that is held for it. -/
def placeFrame (i : Nat) (f : ArmFrame) (s : State) : State := modArm (fun a => { a with outbound := a.outbound.set i f }) s

/-- Takes a request as one event (R168): a place is reserved while the link is UP, the action is carried out, and the RESPONSE takes that place,
so it stands before every frame the action offers; while the link is DOWN the RESPONSE is offered, and so dropped and counted. -/
def answerRequest (act : List Octet → State → Done) (r : Request) (s : State) : State :=
  if s.arm.linkUp then
    let d := actOn act r.payload (appendFrame (responseTo r ⟨.ok, []⟩ 0) (popRequest s))
    placeFrame s.arm.outbound.length (responseTo r d.1 d.2.waiting) d.2
  else
    let d := actOn act r.payload (popRequest s)
    offer (responseTo r d.1 d.2.waiting) d.2

/-- A management row: the Responder takes the oldest request, if the request belongs to the row (assumption log 6). -/
def takeRequest (row : RequestRow) (act : List Octet → State → Done) (s : State) : State :=
  match s.nextRequest with
  | some r => if rowOf r.payload = row then answerRequest act r s else s
  | none => s

/-! ## Identity and status -/

/-- The result data of IDENTIFY (R170). -/
def State.identity (s : State) : List Octet :=
  [octet 42, octet 1, octet s.strap, octet (armRate s.strap), octet (ceilingOf s.strap)]

/-- The checks and action of IDENTIFY (R170). -/
def actIdentify (args : List Octet) (s : State) : Done := if args = [] then done s.identity s else refuse .badLength s

/-- IDENTIFY (R170). -/
def execIdentify (s : State) : Host.Outcome State Fault Refusal := .next (takeRequest .identify actIdentify s)

/-- The number of free roster slots. -/
def State.freeSlots (s : State) : Nat := rosterSlots - (entriesFrom 0 s.roster).length

/-- The ten octets of a lane in READ STATUS (R171, section 12.3). -/
def State.laneBlock (s : State) (choice : Nat) (l : Lane) : List Octet :=
  let x := s.lane l
  [octet x.power.state.code, octet (lastFaultCode x.power.lastFault), octet x.power.faultCount] ++
    octets2 (x.power.measured choice) ++
    [octet x.census.run.code, octet (modeCode x.census.mode), octet (lastOutcomeCode x.census.last), octet (yesCode x.complete),
     octet (s.countEntries l (fun _ => true))]

/-- The thirteen octets of the part in READ STATUS (R171, section 12.3). -/
def State.partBlock (s : State) : List Octet :=
  [octet s.freeSlots, octet (yesCode s.arm.linkUp), octet s.range.low, octet s.range.high, octet s.range.cursor,
   octet s.seq.state.code, octet s.seq.source.code] ++
    octets2 s.seq.period ++ octets2 s.seq.cycleNumber.toNat ++ [octet s.seq.missed, octet (yesCode s.seq.stopPending)]

/-- The result data of READ STATUS (R171); a current that is no whole mA takes the free value of its lane (assumption log 10). -/
def State.statusReport (s : State) : List Octet := s.laneBlock s.choices .a ++ s.laneBlock (s.choices + 1) .b ++ s.partBlock

/-- The checks and action of READ STATUS (R171). -/
def actReadStatus (args : List Octet) (s : State) : Done :=
  if args = [] then done s.statusReport { s with choices := s.choices + 2 } else refuse .badLength s

/-- READ STATUS (R171). -/
def execReadStatus (s : State) : Host.Outcome State Fault Refusal := .next (takeRequest .readStatus actReadStatus s)

/-! ## Lanes and profiles -/

/-- The result data of LANE CONTROL (R172). -/
def State.laneReport (s : State) (l : Lane) : List Octet :=
  let p := (s.lane l).power
  [octet (laneCode l), octet p.state.code, octet (lastFaultCode p.lastFault), octet p.faultCount, octet p.limit]

/-- A limit carried by LANE CONTROL was changed by clamping (R36, R172). -/
def State.limitClamped (s : State) (steps : Nat) : Bool := clampLimit (ceilingOf s.strap) steps != steps

/-- LANE CONTROL with one of its actions (R172): the limit first, then the action. An action code above 3 names none of the four. -/
def laneControl (action : Lane → State → State) (args : List Octet) (s : State) : Done :=
  match args with
  | [lane, a] =>
    match laneOf lane with
    | some l => if 3 < a.toNat then refuse .badArgument s else done ((action l s).laneReport l) (action l s)
    | none => refuse .badArgument s
  | [lane, a, limit] =>
    match laneOf lane with
    | some l =>
      if 3 < a.toNat then refuse .badArgument s
      else
        let t := action l (applyLimit l limit.toNat s)
        doneClamped (s.limitClamped limit.toNat) (t.laneReport l) t
    | none => refuse .badArgument s
  | _ => refuse .badLength s

/-- LANE_CONTROL_ENABLE (R22, R172). -/
def execLaneControlEnable (s : State) : Host.Outcome State Fault Refusal :=
  .next (takeRequest .laneControlEnable (laneControl enableLane) s)

/-- LANE_CONTROL_DISABLE (R23, R172). -/
def execLaneControlDisable (s : State) : Host.Outcome State Fault Refusal :=
  .next (takeRequest .laneControlDisable (laneControl disableLane) s)

/-- LANE_CONTROL_CLEAR_LATCH (R35, R172). -/
def execLaneControlClearLatch (s : State) : Host.Outcome State Fault Refusal :=
  .next (takeRequest .laneControlClearLatch (laneControl clearLatch) s)

/-- LANE_CONTROL_NONE (R172): no action is carried out. -/
def execLaneControlNone (s : State) : Host.Outcome State Fault Refusal :=
  .next (takeRequest .laneControlNone (laneControl (fun _ s => s)) s)

/-- A PROVING entry at or above its threshold in use enters LIVE with cause THRESHOLD (R111). -/
def crossThreshold (slot : Nat) (s : State) : State :=
  match s.entry slot with
  | some e => if e.state = .proving ∧ s.thresholdInUse e ≤ e.clean then enterLive slot .threshold s else s
  | none => s

/-- Applies an operation to the slots, lowest first, whose entry belongs to a lane. -/
def onLaneSlots (l : Lane) (f : Nat → Entry → State → State) (s : State) : State :=
  (List.range rosterSlots).foldl (fun s i => match s.entry i with
    | some e => if e.lane = l then f i e s else s
    | none => s) s

/-- A LIVE or LOST entry's time is judged against the interval in force, as R113 and R114 state (R104). -/
def judgeSilence (slot : Nat) (e : Entry) (s : State) : State :=
  match e.state with
  | .live => silenceDue slot s
  | .lost => recallDue slot s
  | .assigning | .held | .proving | .suspect => s

/-- The effects of an options write on the lane's entries (R104): the pass threshold, then the silence interval (assumption log 21). -/
def applyOptions (l : Lane) (s : State) : State :=
  onLaneSlots l judgeSilence (onLaneSlots l (fun i _ s => evalComplete l (crossThreshold i s)) s)

/-- The result data of LANE OPTIONS (R173). -/
def State.optionsReport (s : State) (l : Lane) : List Octet := octet (laneCode l) :: (s.lane l).options.octets

/-- Stores a lane's options (R103). -/
def setOptions (l : Lane) (o : LaneOptions) (s : State) : State := modLane l (fun x => { x with options := o }) s

/-- The checks and action of the write form of LANE OPTIONS (R103, R104). -/
def actLaneOptionsWrite (args : List Octet) (s : State) : Done :=
  match args with
  | [lane, switches, threshold, limit, hi, lo, profile] =>
    match laneOf lane with
    | some l =>
      if 3 < profile.toNat then refuse .badArgument s
      else
        let o := writtenOptions switches threshold limit hi lo profile
        let t := applyOptions l (setOptions l o s)
        doneClamped (o.passThreshold != threshold.toNat || o.failureLimit != limit.toNat) (t.optionsReport l) t
    | none => refuse .badArgument s
  | _ => refuse .badLength s

/-- LANE_OPTIONS_WRITE (R103, R104, R173). -/
def execLaneOptionsWrite (s : State) : Host.Outcome State Fault Refusal := .next (takeRequest .laneOptionsWrite actLaneOptionsWrite s)

/-- The checks and answer of the read form of LANE OPTIONS (R173). -/
def actLaneOptionsRead (args : List Octet) (s : State) : Done :=
  match args with
  | [lane] =>
    match laneOf lane with
    | some l => done (s.optionsReport l) s
    | none => refuse .badArgument s
  | _ => refuse .badLength s

/-- LANE_OPTIONS_READ (R173). -/
def execLaneOptionsRead (s : State) : Host.Outcome State Fault Refusal := .next (takeRequest .laneOptionsRead actLaneOptionsRead s)

/-- The checks and action of WRITE PROFILE (R43, R174). -/
def actWriteProfile (args : List Octet) (s : State) : Done :=
  match args with
  | [i, rate, guard, timeout, retries] =>
    if 3 < i.toNat then refuse .badArgument s
    else
      let p := clampProfile rate guard timeout retries
      doneClamped (p.octets != [rate, guard, timeout, retries]) (i :: p.octets) { s with profiles := s.profiles.set i.toNat p }
  | _ => refuse .badLength s

/-- WRITE_PROFILE (R43, R174). -/
def execWriteProfile (s : State) : Host.Outcome State Fault Refusal := .next (takeRequest .writeProfile actWriteProfile s)

/-- The checks and answer of READ PROFILE (R174). -/
def actReadProfile (args : List Octet) (s : State) : Done :=
  match args with
  | [i] => if 3 < i.toNat then refuse .badArgument s else done (i :: (s.profile i.toNat).octets) s
  | _ => refuse .badLength s

/-- READ_PROFILE (R174). -/
def execReadProfile (s : State) : Host.Outcome State Fault Refusal := .next (takeRequest .readProfile actReadProfile s)

/-! ## Census and roster -/

/-- The checks and action of START CENSUS (R67, R175). -/
def actStartCensus (args : List Octet) (s : State) : Done :=
  match args with
  | [lane, mode] =>
    match laneOf lane, censusModeOf mode with
    | some l, some m =>
      if s.laneLive l = false then refuse .laneNotLive s
      else if s.censusRunning l then refuse .busy s
      else
        let t := startCensus l m s
        done [octet (laneCode l), octet (t.lane l).census.run.code, octet (modeCode (some m))] t
    | _, _ => refuse .badArgument s
  | _ => refuse .badLength s

/-- START_CENSUS (R67, R68, R175). -/
def execStartCensus (s : State) : Host.Outcome State Fault Refusal := .next (takeRequest .startCensus actStartCensus s)

/-- A census exchange is in flight on the lane, or stands at the arbiter of an idle lane (R90; assumption log 16). -/
def State.censusInFlight (s : State) (l : Lane) : Bool :=
  match (s.lane l).exch with
  | some x => x.source == .census
  | none => (s.lane l).census.offer.isSome

/-- STOP CENSUS on a lane (R90). -/
def stopCensus (l : Lane) (s : State) : State :=
  match (s.lane l).census.run with
  | .running => if s.censusInFlight l then modCensus l (fun c => { c with run := .stopping }) s else endCensus l .stopped s
  | .idle | .stopping => s

/-- The checks and action of STOP CENSUS (R90, R175). -/
def actStopCensus (args : List Octet) (s : State) : Done :=
  match args with
  | [lane] =>
    match laneOf lane with
    | some l =>
      let t := stopCensus l s
      done [octet (laneCode l), octet (t.lane l).census.run.code, octet (lastOutcomeCode (t.lane l).census.last)] t
    | none => refuse .badArgument s
  | _ => refuse .badLength s

/-- STOP_CENSUS (R90, R175). -/
def execStopCensus (s : State) : Host.Outcome State Fault Refusal := .next (takeRequest .stopCensus actStopCensus s)

/-- The twenty-two octets of a roster record (R96, section 12.4). -/
def State.rosterRecord (s : State) (slot : Nat) (e : Entry) : List Octet :=
  [octet slot, octet e.state.code, octet (laneCode e.lane), octet e.address] ++ fpOctets e.fp ++
    [octet (e.name.getD 0), octet (provenanceCode e.source), octet (e.mapRef.getD 255), octet (heldCode e.held), octet e.clean,
     octet e.fail, octet (128 * yesCode e.status.isSome + 64 * yesCode e.lastGood.isSome), e.status.getD 0,
     octet (s.thresholdInUse e), octet (s.profileInUse e)] ++
    octets2 ((s.sinceGood e).getD 0)

/-- An entry found, with its report, or NO_ENTRY (R96, R176). -/
def reportEntry (x : Option (Nat × Entry)) (s : State) : Done :=
  match x with
  | some (slot, e) => done (s.rosterRecord slot e) s
  | none => refuse .noEntry s

/-- The entry READ ROSTER names (R96): of the slot alone, or the lowest at or above it. -/
def State.readSlot (s : State) (slot : Nat) (next : Bool) : Option (Nat × Entry) :=
  if next then firstFrom (fun _ => true) slot (s.roster.drop slot) else (s.entry slot).map (fun e => (slot, e))

/-- The checks and answer of READ ROSTER (R96). -/
def actReadRoster (args : List Octet) (s : State) : Done :=
  match args with
  | [slot, flags] => if 31 < slot.toNat then refuse .badArgument s else reportEntry (s.readSlot slot.toNat (flags.getLsbD 7)) s
  | _ => refuse .badLength s

/-- READ_ROSTER (R96). -/
def execReadRoster (s : State) : Host.Outcome State Fault Refusal := .next (takeRequest .readRoster actReadRoster s)

/-- The checks and answer of FIND (R176): each selector accepts its own length. -/
def actFind (args : List Octet) (s : State) : Done :=
  match args with
  | [sel, n] =>
    if sel.toNat = 1 then
      match deviceName n with
      | some n => reportEntry (s.entryNamed n) s
      | none => refuse .badArgument s
    else if sel.toNat = 2 then refuse .badLength s
    else refuse .badArgument s
  | [sel, a, b, c, d, e, f] =>
    if sel.toNat = 2 then reportEntry (s.entryWithFp (fpOf a b c d e f)) s
    else if sel.toNat = 1 then refuse .badLength s
    else refuse .badArgument s
  | _ => refuse .badLength s

/-- FIND (R176). -/
def execFind (s : State) : Host.Outcome State Fault Refusal := .next (takeRequest .find actFind s)

/-! ## No request -/

/-- UNKNOWN_REQUEST (R169): an empty payload, or a code that names no request. -/
def execUnknownRequest (s : State) : Host.Outcome State Fault Refusal :=
  .next (takeRequest .unknownRequest (fun _ s => refuse .unknownRequest s) s)

end Sys2Proof.Machine
end

