-- ==== Sys2Proof/Machine/CycleRequests.lean ====
section
/-! DEFINITION. CycleRequests.lean: the requests of the Cycle Sequencer, the Notice Queue and the Counter Bank (R155, R157, R158, R179 to R181, R190,
R195). -/

namespace Sys2Proof.Machine

/-! ## The cycle list -/

/-- Writes a place of the cycle list. -/
def setCycleEntry (i : Nat) (c : Option CycleEntry) (s : State) : State := modSeq (fun q => { q with list := q.list.set i c }) s

/-- The checks and action of CYCLE LIST WRITE (R155, R179): a length other than 2 to 10, the index and the name, then the sequencer's state. -/
def actCycleListWrite (args : List Octet) (s : State) : Done :=
  match args with
  | i :: name :: payload =>
    if 8 < payload.length then refuse .badLength s
    else
      match deviceName name with
      | none => refuse .badArgument s
      | some n =>
        if 11 < i.toNat then refuse .badArgument s
        else if s.seq.state ≠ .stopped then refuse .busy s
        else done [i, name, octet payload.length] (setCycleEntry i.toNat (some ⟨n, payload, none⟩) s)
  | _ => refuse .badLength s

/-- CYCLE_LIST_WRITE (R155, R179). -/
def execCycleListWrite (s : State) : Host.Outcome State Fault Refusal := .next (takeRequest .cycleListWrite actCycleListWrite s)

/-- The checks and action of CYCLE LIST CLEAR (R155, R179): 0xFF stands for ALL. -/
def actCycleListClear (args : List Octet) (s : State) : Done :=
  match args with
  | [i] =>
    if 11 < i.toNat ∧ i.toNat ≠ 255 then refuse .badArgument s
    else if s.seq.state ≠ .stopped then refuse .busy s
    else if i.toNat = 255 then done [i] (modSeq (fun q => { q with list := q.list.map (fun _ => none) }) s)
    else done [i] (setCycleEntry i.toNat none s)
  | _ => refuse .badLength s

/-- CYCLE_LIST_CLEAR (R155, R179). -/
def execCycleListClear (s : State) : Host.Outcome State Fault Refusal := .next (takeRequest .cycleListClear actCycleListClear s)

/-- The twelve octets of a store in CYCLE LIST READ: present, length, data, fingerprint (section 12.3). The manual gives no value for the length octet of an
absent store; the model sends 0 (assumption log 35). -/
def storeOctets (st : Option Store) : List Octet :=
  match st with
  | some x => octet 1 :: octet x.data.length :: padTo 4 x.data ++ fpOctets x.fp
  | none => padTo 12 []

/-- The twenty-three octets of an entry in CYCLE LIST READ after its index (section 12.3). The manual gives no value for the payload length octet of an
entry not in use; the model sends 0 (assumption log 35). -/
def cycleRecord (c : Option CycleEntry) : List Octet :=
  match c with
  | some c => octet 1 :: octet c.name :: octet c.payload.length :: padTo 8 c.payload ++ storeOctets c.store
  | none => padTo 23 []

/-- The checks and answer of CYCLE LIST READ (R155, R179). -/
def actCycleListRead (args : List Octet) (s : State) : Done :=
  match args with
  | [i] => if 11 < i.toNat then refuse .badArgument s else done (i :: cycleRecord (s.seq.entry i.toNat)) s
  | _ => refuse .badLength s

/-- CYCLE_LIST_READ (R155, R167, R179). -/
def execCycleListRead (s : State) : Host.Outcome State Fault Refusal := .next (takeRequest .cycleListRead actCycleListRead s)

/-! ## CYCLE CONTROL -/

/-- The period timer as it starts from zero: it runs while the source is PERIOD and the state is ARMED or RUNNING (R158). -/
def Sequencer.freshTimer (q : Sequencer) (now : Nat) : Option Nat :=
  if q.source = .period ∧ q.state ≠ .stopped then some (now + q.period) else none

/-- Applies a trigger source and a period (R158). -/
def setTrigger (t : Trigger) (period : Nat) (s : State) : State :=
  modSeq (fun q =>
    let r := { q with source := t, period := clamp 1 1000 period }
    { r with timer := r.freshTimer s.now }) s

/-- CYCLE CONTROL START (R157). -/
def startSequencer (s : State) : State :=
  match s.seq.state with
  | .stopped => modSeq (fun q =>
      let r := { q with state := SeqState.armed }
      { r with timer := r.freshTimer s.now }) s
  | .armed | .running => s

/-- The result data of CYCLE CONTROL (R179). -/
def State.cycleReport (s : State) : List Octet := octet s.seq.state.code :: octet s.seq.source.code :: octets2 s.seq.period

/-- CYCLE CONTROL with one of its actions (R157, R158, R179): the source and period first, then the action. -/
def cycleControl (action : State → State) (args : List Octet) (s : State) : Done :=
  match args with
  | [a] => if 2 < a.toNat then refuse .badArgument s else done (action s).cycleReport (action s)
  | [a, source, hi, lo] =>
    match triggerOf source with
    | none => refuse .badArgument s
    | some t =>
      if 2 < a.toNat then refuse .badArgument s
      else
        let period := 256 * hi.toNat + lo.toNat
        let u := action (setTrigger t period s)
        doneClamped (clamp 1 1000 period != period) u.cycleReport u
  | _ => refuse .badLength s

/-- CYCLE_CONTROL_START (R157, R179). -/
def execCycleControlStart (s : State) : Host.Outcome State Fault Refusal :=
  .next (takeRequest .cycleControlStart (cycleControl startSequencer) s)

/-- CYCLE_CONTROL_STOP (R157, R179). -/
def execCycleControlStop (s : State) : Host.Outcome State Fault Refusal :=
  .next (takeRequest .cycleControlStop (cycleControl stopSequencer) s)

/-- CYCLE_CONTROL_NONE (R157, R179): no action is carried out. -/
def execCycleControlNone (s : State) : Host.Outcome State Fault Refusal :=
  .next (takeRequest .cycleControlNone (cycleControl (fun s => s)) s)

/-! ## Notices -/

/-- Removes the oldest records of the notice queue (R190). -/
def dropNotices (n : Nat) (s : State) : State := { s with notices := { s.notices with queue := s.notices.queue.drop n } }

/-- The checks and action of FETCH NOTICES (R180, R190). -/
def actFetchNotices (args : List Octet) (s : State) : Done :=
  match args with
  | [m] =>
    let n := clamp 1 5 m.toNat
    let records := s.notices.queue.take n
    doneClamped (n != m.toNat) (octet records.length :: records.flatMap NoticeRecord.octets) (dropNotices n s)
  | _ => refuse .badLength s

/-- FETCH_NOTICES (R180, R190). -/
def execFetchNotices (s : State) : Host.Outcome State Fault Refusal := .next (takeRequest .fetchNotices actFetchNotices s)

/-- The checks and action of the write form of NOTICE MASKS (R180, R186): all masks are replaced. -/
def actNoticeMasksWrite (args : List Octet) (s : State) : Done :=
  match args with
  | [kinds, device, directions, alert] =>
    let m := writtenMasks kinds device directions alert
    done m.octets { s with notices := { s.notices with masks := m } }
  | _ => refuse .badLength s

/-- NOTICE_MASKS_WRITE (R180, R186, R191). -/
def execNoticeMasksWrite (s : State) : Host.Outcome State Fault Refusal := .next (takeRequest .noticeMasksWrite actNoticeMasksWrite s)

/-- The answer of the read form of NOTICE MASKS (R180). -/
def actNoticeMasksRead (args : List Octet) (s : State) : Done := if args = [] then done s.notices.masks.octets s else refuse .badLength s

/-- NOTICE_MASKS_READ (R180). -/
def execNoticeMasksRead (s : State) : Host.Outcome State Fault Refusal := .next (takeRequest .noticeMasksRead actNoticeMasksRead s)

/-! ## Counters -/

/-- The counters of the LINK group, two octets each (R192). -/
def LinkCounters.octets (c : LinkCounters) : List Octet :=
  [c.framesGood, c.corrupt, c.framingErrors, c.inboundOverflow, c.misdirected, c.outboundDrops].flatMap octets2

/-- The counters of a LANE group, two octets each (R193). -/
def LaneCounters.octets (c : LaneCounters) : List Octet :=
  [c.started, c.ok, c.noReply, c.corrupt, c.probesSent, c.collided, c.duplicates].flatMap octets2

/-- Sets a LANE group, when cleared, to 0 (R195). -/
def clearLaneGroup (clear : Bool) (l : Lane) (s : State) : State := if clear then modCounters l (fun _ => .zero) s else s

/-- Sets the LINK group, when cleared, to 0 (R195). -/
def clearLinkGroup (clear : Bool) (s : State) : State := if clear then modLink (fun _ => .zero) s else s

/-- The checks and action of READ COUNTERS (R181, R195): the values as they stood, then the clear. -/
def actReadCounters (args : List Octet) (s : State) : Done :=
  match args with
  | [group, flags] =>
    match group.toNat with
    | 0 => done (group :: s.arm.counters.octets) (clearLinkGroup (flags.getLsbD 7) s)
    | 1 => done (group :: s.laneA.counters.octets) (clearLaneGroup (flags.getLsbD 7) .a s)
    | 2 => done (group :: s.laneB.counters.octets) (clearLaneGroup (flags.getLsbD 7) .b s)
    | _ => refuse .badArgument s
  | _ => refuse .badLength s

/-- READ_COUNTERS (R181, R195). -/
def execReadCounters (s : State) : Host.Outcome State Fault Refusal := .next (takeRequest .readCounters actReadCounters s)

end Sys2Proof.Machine
end

