-- ==== Sys2Proof/Machine/NamingRequests.lean ====
section
/-! DEFINITION. NamingRequests.lean: the requests of the Naming Unit and RELEASE (R121 to R123, R133 to R135, R149, R150, R177, R178). -/

namespace Sys2Proof.Machine

/-! ## The name map -/

/-- A map reference points at a written or cleared index. -/
def refersTo (hit : Nat → Bool) (ref : Option Nat) : Bool :=
  match ref with
  | some i => hit i
  | none => false

/-- The roster entries whose map reference points at a written or cleared index (R177). -/
def State.referring (s : State) (hit : Nat → Bool) : Nat := (entriesFrom 0 s.roster).countP (fun x => refersTo hit x.2.mapRef)

/-- An entry whose map reference points at a written or cleared index loses it, and its clean count is compared again (R123 step 1). -/
def dropRef (hit : Nat → Bool) (s : State) (slot : Nat) : State :=
  match s.entry slot with
  | some e => if refersTo hit e.mapRef then crossThreshold slot (setEntry slot (some { e with mapRef := none }) s) else s
  | none => s

/-- What a MOVE carries, without a reference to a written or cleared index (R123 step 1). -/
def Carried.dropRef (hit : Nat → Bool) (c : Carried) : Carried := if refersTo hit c.mapRef then { c with mapRef := none } else c

/-- A MOVE in hand on a lane loses a carried reference to a written or cleared index (R123 step 1). -/
def dropCarried (hit : Nat → Bool) (l : Lane) (s : State) : State :=
  modCensus l (fun c => { c with find := c.find.map (fun x => { x with carried := x.carried.map (Carried.dropRef hit) }) }) s

/-- The effects of an accepted MAP WRITE or MAP CLEAR on the roster (R123). -/
def mapChanged (hit : Nat → Bool) (s : State) : State :=
  bothLanes evalComplete (reresolveHeld (bothLanes (dropCarried hit) ((List.range rosterSlots).foldl (dropRef hit) s)))

/-- The fields of a MAP WRITE that are checked before anything is stored (R121). -/
structure MapFields where
  kind        : MapMatch
  restriction : Option Lane
  base        : Nat
  profile     : Nat

/-- The argument checks of MAP WRITE (R121): none when one of them fails. -/
def mapFields (index kind restriction base profile : Octet) : Option MapFields :=
  match matchOf kind, restrictionOf restriction, deviceName base with
  | some k, some r, some b => if index.toNat ≤ 63 ∧ profile.toNat ≤ 3 then some ⟨k, r, b, profile.toNat⟩ else none
  | _, _, _ => none

/-- The entry a MAP WRITE stores (R121). -/
def MapFields.entry (f : MapFields) (makerModel serial : BitVec 24) (span required : Octet) (override : Option Octet) : MapEntry where
  kind := f.kind
  makerModel := makerModel
  serial := match f.kind with
    | .exact => serial
    | .model => 0
  restriction := f.restriction
  base := f.base
  span := storedSpan f.kind f.base span.toNat
  profile := f.profile
  override := override.map (fun o => clamp 0 15 o.toNat)
  required := required.getLsbD 0

/-- The span of a MODEL entry or the override was changed by clamping (R121). -/
def MapEntry.clamped (m : MapEntry) (span : Octet) (override : Option Octet) : Bool :=
  (m.kind == .model && m.span != span.toNat) || m.override != override.map BitVec.toNat

/-- An index of the name map is the one written or cleared. -/
def only (i : Nat) (j : Nat) : Bool := j == i

/-- Stores an entry in the name map. -/
def setMap (i : Nat) (m : Option MapEntry) (s : State) : State := { s with nameMap := s.nameMap.set i m }

/-- Stores a checked MAP WRITE and carries out its effects (R121, R123, R177). -/
def storeMap (index : Octet) (m : MapEntry) (clamped : Bool) (s : State) : Done :=
  doneClamped clamped (index :: m.octets ++ [octet (s.referring (only index.toNat))])
    (mapChanged (only index.toNat) (setMap index.toNat (some m) s))

/-- The checks and action of MAP WRITE without and with a threshold override (R121). -/
def actMapWrite (args : List Octet) (s : State) : Done :=
  match args with
  | [i, k, m1, m2, m3, s1, s2, s3, r, base, span, p, req] =>
    match mapFields i k r base p with
    | some f =>
      let m := f.entry (code24 m1 m2 m3) (code24 s1 s2 s3) span req none
      storeMap i m (m.clamped span none) s
    | none => refuse .badArgument s
  | [i, k, m1, m2, m3, s1, s2, s3, r, base, span, p, req, o] =>
    match mapFields i k r base p with
    | some f =>
      let m := f.entry (code24 m1 m2 m3) (code24 s1 s2 s3) span req (some o)
      storeMap i m (m.clamped span (some o)) s
    | none => refuse .badArgument s
  | _ => refuse .badLength s

/-- MAP_WRITE (R121, R123, R177). -/
def execMapWrite (s : State) : Host.Outcome State Fault Refusal := .next (takeRequest .mapWrite actMapWrite s)

/-- The checks and action of MAP CLEAR (R122, R123): 0xFF stands for ALL. -/
def actMapClear (args : List Octet) (s : State) : Done :=
  match args with
  | [i] =>
    if i.toNat = 255 then
      done [i, octet (s.referring (fun _ => true))]
        (mapChanged (fun _ => true) { s with nameMap := s.nameMap.map (fun _ => none) })
    else if 63 < i.toNat then refuse .badArgument s
    else done [i, octet (s.referring (only i.toNat))] (mapChanged (only i.toNat) (setMap i.toNat none s))
  | _ => refuse .badLength s

/-- MAP_CLEAR (R122, R123, R177). -/
def execMapClear (s : State) : Host.Outcome State Fault Refusal := .next (takeRequest .mapClear actMapClear s)

/-- The checks and answer of MAP READ (R122, R177). -/
def actMapRead (args : List Octet) (s : State) : Done :=
  match args with
  | [i] => if 63 < i.toNat then refuse .badArgument s else done (i :: mapRecord (s.mapEntry i.toNat)) s
  | _ => refuse .badLength s

/-- MAP_READ (R122, R177). -/
def execMapRead (s : State) : Host.Outcome State Fault Refusal := .next (takeRequest .mapRead actMapRead s)

/-! ## The provisional range -/

/-- Sets the range and its cursor, then re-resolves the HELD entries (R133). -/
def setRange (low high : Nat) (s : State) : State := reresolveHeld { s with range := ⟨low, high, low⟩ }

/-- The checks and action of SET PROVISIONAL RANGE (R133, R177). -/
def actSetProvisionalRange (args : List Octet) (s : State) : Done :=
  match args with
  | [low, high] =>
    match deviceName low, deviceName high with
    | some a, some b =>
      if b < a then refuse .badArgument s
      else
        let t := setRange a b s
        done [low, high, octet t.range.cursor] t
    | _, _ => refuse .badArgument s
  | _ => refuse .badLength s

/-- SET_PROVISIONAL_RANGE (R133, R177). -/
def execSetProvisionalRange (s : State) : Host.Outcome State Fault Refusal :=
  .next (takeRequest .setProvisionalRange actSetProvisionalRange s)

/-! ## NAME DEVICE -/

/-- A name is held by an entry in another slot, or is a carried name (R134). -/
def State.nameTaken (s : State) (slot n : Nat) : Bool :=
  s.nameCarried n || (entriesFrom 0 s.roster).any (fun x => x.1 != slot && x.2.name == some n)

/-- What NAME DEVICE does to the entry by its state, before its NAMED notice (R135). -/
def nameEntry (slot : Nat) (e : Entry) (c : Carried) (s : State) : State :=
  match e.state with
  | .held => enterProving slot .named (giveName slot c s)
  | .proving => if e.mapRef.isSome then crossThreshold slot (giveName slot c s) else giveName slot c s
  | .live | .suspect | .lost | .assigning => giveName slot c s

/-- NAME DEVICE on an entry that passed its checks (R135): the naming, its NAMED notice, the re-resolution when an old name was freed, then the
completeness of the entry's lane and of the other (assumption log 32). -/
def nameDevice (slot : Nat) (e : Entry) (n : Nat) (s : State) : State :=
  let s1 := notifyNamed slot ⟨n, .request, none⟩ (nameEntry slot e ⟨n, .request, none⟩ s)
  let s2 := if e.name.isSome ∧ e.name ≠ some n then reresolveHeld s1 else s1
  evalComplete (otherLane e.lane) (evalComplete e.lane s2)

/-- The state code of the entry in a slot. -/
def State.slotStateCode (s : State) (slot : Nat) : Nat :=
  match s.entry slot with
  | some e => e.state.code
  | none => 0

/-- The checks and action of NAME DEVICE (R134, R135, R178). -/
def actNameDevice (args : List Octet) (s : State) : Done :=
  match args with
  | [a, b, c, d, e, f, name] =>
    match deviceName name with
    | none => refuse .badArgument s
    | some n =>
      match s.entryWithFp (fpOf a b c d e f) with
      | none => refuse .noEntry s
      | some (slot, x) =>
        if x.state = .assigning then refuse .busy s
        else if s.nameTaken slot n then refuse .nameInUse s
        else
          let t := nameDevice slot x n s
          done [octet slot, octet (laneCode x.lane), octet (t.slotStateCode slot), name, octet (x.name.getD 0)] t
  | _ => refuse .badLength s

/-- NAME_DEVICE (R134, R135, R178). -/
def execNameDevice (s : State) : Host.Outcome State Fault Refusal := .next (takeRequest .nameDevice actNameDevice s)

/-! ## RELEASE -/

/-- An UNADDRESS item becomes pending behind those that wait, unless one for that address waits already (R59, R150). -/
def addUnaddress (l : Lane) (address : Nat) (s : State) : State :=
  if address ∈ (s.lane l).unaddress then s else modLane l (fun x => { x with unaddress := x.unaddress ++ [address] }) s

/-- RELEASE on an entry that passed its checks (R150). -/
def releaseEntry (slot : Nat) (e : Entry) (s : State) : State := addUnaddress e.lane e.address (removeEntry slot .released s)

/-- The checks and action of RELEASE (R149, R150, R178). -/
def actRelease (args : List Octet) (s : State) : Done :=
  match args with
  | [a, b, c, d, e, f] =>
    match s.entryWithFp (fpOf a b c d e f) with
    | none => refuse .noEntry s
    | some (slot, x) =>
      if s.censusRunning x.lane then refuse .busy s
      else
        done [octet slot, octet (laneCode x.lane), octet x.address, octet (x.name.getD 0), octet x.state.code] (releaseEntry slot x s)
  | _ => refuse .badLength s

/-- RELEASE (R149, R150, R178). -/
def execRelease (s : State) : Host.Outcome State Fault Refusal := .next (takeRequest .release actRelease s)

end Sys2Proof.Machine
end

