-- ==== Sys2Proof/Machine/PowerRows.lean ====
section
/-! DEFINITION. PowerRows.lean: the meanings of the rows of lane power: inputs, timers and the over-temperature flag (R24 to R34). -/

namespace Sys2Proof.Machine

/-- A timer's row takes place while the part runs and the timer has run out (assumption log 3). -/
def onTimer (l : Lane) (t : PowerTimers → Option Nat) (f : State → State) (s : State) : State :=
  whenRunning (fun s => if ranOut s.now (t (s.lane l).power.timers) then f s else s) s

/-- LOCK_ASSERT (R24): the level is an input, sensed under RESET# too. -/
def execLockAssert (l : Lane) (s : State) : Host.Outcome State Fault Refusal :=
  .next (whenRunning (watchCoupling l) (modPower l (fun p => { p with lock := true }) s))

/-- What deassertion does in RAMPING and LIVE (R26), and in WAITING (R24). -/
def unlock (l : Lane) (s : State) : State :=
  if (s.lane l).power.state.switched then enterPower l .discharging .unlocked .no s else watchCoupling l s

/-- LOCK_DEASSERT (R24, R26). -/
def execLockDeassert (l : Lane) (s : State) : Host.Outcome State Fault Refusal :=
  .next (whenRunning (unlock l) (modPower l (fun p => { p with lock := false }) s))

/-- PROBE_CURRENT_CHANGE (R24). -/
def execProbeCurrentChange (l : Lane) (microamps : Nat) (s : State) : Host.Outcome State Fault Refusal :=
  .next (whenRunning (watchCoupling l) (modPower l (fun p => { p with probeCurrent := microamps }) s))

/-- QUALIFY_TIMER_EXPIRY (R24). -/
def execQualifyTimerExpiry (l : Lane) (s : State) : Host.Outcome State Fault Refusal :=
  .next (onTimer l PowerTimers.qualify (enterPower l .ramping .coupled .no) s)

/-- RAMP_VOLTAGE_REACHED (R25). -/
def execRampVoltageReached (l : Lane) (s : State) : Host.Outcome State Fault Refusal :=
  .next (whenRunning (fun s => if (s.lane l).power.state = .ramping then enterLaneLive l s else s) s)

/-- RAMP_TIMER_EXPIRY (R25). -/
def execRampTimerExpiry (l : Lane) (s : State) : Host.Outcome State Fault Refusal :=
  .next (onTimer l PowerTimers.ramp (enterFault l .ramp) s)

/-- The sensed main-switch current changes: only while the switch is closing or closed (R27, R29, R41). -/
def senseCurrent (l : Lane) (microamps : Nat) (s : State) : State :=
  if (s.lane l).power.state.switched then
    watchRemoval l (compareCurrent l (modPower l (fun p => { p with laneCurrent := microamps }) s))
  else s

/-- LANE_CURRENT_CHANGE (R27, R29). -/
def execLaneCurrentChange (l : Lane) (microamps : Nat) (s : State) : Host.Outcome State Fault Refusal :=
  .next (whenRunning (senseCurrent l microamps) s)

/-- OVERCURRENT_MASK_EXPIRY (R29). -/
def execOvercurrentMaskExpiry (l : Lane) (s : State) : Host.Outcome State Fault Refusal :=
  .next (onTimer l PowerTimers.overcurrent (enterFault l .overcurrent) s)

/-- BACKFEED_VOLTAGE_CHANGE (R30): the level is an input, sensed under RESET# too. -/
def execBackfeedVoltageChange (l : Lane) (above : Bool) (s : State) : Host.Outcome State Fault Refusal :=
  .next (whenRunning (watchBackfeed l) (modPower l (fun p => { p with overSupply := above }) s))

/-- BACKFEED_MASK_EXPIRY (R30). -/
def execBackfeedMaskExpiry (l : Lane) (s : State) : Host.Outcome State Fault Refusal :=
  .next (onTimer l PowerTimers.backfeed (enterFault l .backfeed) s)

/-- REMOVAL_TIMER_EXPIRY (R27). -/
def execRemovalTimerExpiry (l : Lane) (s : State) : Host.Outcome State Fault Refusal :=
  .next (onTimer l PowerTimers.removal (enterPower l .discharging .removed .no) s)

/-- LIVE_STABILITY_EXPIRY (R34): the fault count is forgiven; the timer runs out once in a stay in LIVE. -/
def execLiveStabilityExpiry (l : Lane) (s : State) : Host.Outcome State Fault Refusal :=
  .next (onTimer l PowerTimers.stability
    (modPower l (fun p => { p with faultCount := 0, timers := { p.timers with stability := none } })) s)

/-- DISCHARGE_TIMER_EXPIRY (R28). -/
def execDischargeTimerExpiry (l : Lane) (s : State) : Host.Outcome State Fault Refusal :=
  .next (onTimer l PowerTimers.discharge (endDischarge l) s)

/-- A cooldown check (R33): voltage and temperature allow the entry to WAITING, or the next check follows in 100 ms. A die below 110 °C
has cleared the flag (R31, assumption log 31). -/
def cooldownCheck (l : Lane) (dieBelow110 : Bool) (s : State) : State :=
  if dieBelow110 && !s.overTemp && !(s.lane l).power.overSupply then enterPower l .waiting .cooled .no s
  else modTimers l (fun t => { t with cooldown := some (s.now + recheckMs) }) s

/-- COOLDOWN_EXPIRY (R33). -/
def execCooldownExpiry (l : Lane) (dieBelow110 : Bool) (s : State) : Host.Outcome State Fault Refusal :=
  .next (onTimer l PowerTimers.cooldown (cooldownCheck l dieBelow110) s)

/-- OVER_TEMPERATURE_SET (R31): the setting of the flag acts. -/
def execOverTemperatureSet (s : State) : Host.Outcome State Fault Refusal :=
  .next (whenRunning (fun s => if s.overTemp then s else setOverTemperature s) s)

/-- OVER_TEMPERATURE_CLEAR (R31). -/
def execOverTemperatureClear (s : State) : Host.Outcome State Fault Refusal :=
  .next (whenRunning (fun s => { s with overTemp := false }) s)

end Sys2Proof.Machine
end

