-- ==== Sys2Proof/Machine/Resets.lean ====
section
/-! DEFINITION. Resets.lean: power-on, pin reset, the release of RESET#, and the soft reset of RESET PART (R9, R19, R21, R182, R183). -/

namespace Sys2Proof.Machine

/-- The code read from the STRAP pin (R9): an open or shorted strap reads as code 0. -/
def strapCode : Strap → Nat
  | .resistor code => if code < 8 then code else 0
  | .opened => 0
  | .shorted => 0

/-- The sensed inputs of a lane are no state of the part: they stay through a reset, and the main switch carries no current (assumption log 13). -/
def Power.resetTo (ceiling : Nat) (p : Power) : Power :=
  { Power.initial ceiling with lock := p.lock, probeCurrent := p.probeCurrent, overSupply := p.overSupply }

/-- A lane after power-on or pin reset. -/
def LaneState.resetTo (ceiling : Nat) (x : LaneState) : LaneState :=
  { LaneState.initial ceiling with power := x.power.resetTo ceiling }

/-- Every block at its state after power-on or pin reset, with a strap code and the ceiling it sets (R19, R21). -/
def resetBlocks (code : Nat) (s : State) : State :=
  { State.reset with
    pending := s.pending, now := s.now, choices := s.choices, strap := code,
    laneA := s.laneA.resetTo (ceilingOf code), laneB := s.laneB.resetTo (ceilingOf code) }

/-- POWER_ON (R9, R19, R21, R31): the part's clock starts at 0 (assumption log 29). The manual gives no word on a power-on while RESET# is held; the part then
runs (assumption log 36). -/
def execPowerOn (strap : Strap) (dieAbove125 : Bool) (s : State) : Host.Outcome State Fault Refusal :=
  .next { resetBlocks (strapCode strap) s with now := 0, overTemp := dieAbove125 }

/-- PIN_RESET (R16, R19, R21): RESET# is asserted. The strap is read at its release (R9), so until then the old code stands (assumption log 25). -/
def execPinReset (s : State) : Host.Outcome State Fault Refusal := .next { resetBlocks s.strap s with resetAsserted := true }

/-- RESET_RELEASE (R9, R21, R31). -/
def execResetRelease (strap : Strap) (dieAbove125 : Bool) (s : State) : Host.Outcome State Fault Refusal :=
  .next (if s.resetAsserted then { resetBlocks (strapCode strap) s with overTemp := dieAbove125 } else s)

/-- An LPC after a soft reset (R21): RAMPING and LIVE discharge on their way to OFF, every other state is OFF at once. -/
def Power.softReset (ceiling now : Nat) (p : Power) : Power :=
  { (if p.state.switched then p.entered .discharging .reset now else p.entered .off .no now) with
    limit := ceiling, faultCount := 0, lastFault := none }

/-- A lane after a soft reset. -/
def LaneState.softReset (ceiling now : Nat) (x : LaneState) : LaneState :=
  { LaneState.initial ceiling with power := x.power.softReset ceiling now }

/-- The ALP after a soft reset (R19). -/
def ArmLink.softReset (a : ArmLink) : ArmLink :=
  { ArmLink.initial with rx := a.rx, tx := a.tx, linkUp := a.linkUp, linkTimer := a.linkTimer }

/-- Every block at its state after a soft reset, before the over-temperature flag is looked at (R183). -/
def softBlocks (s : State) : State :=
  { State.reset with
    pending := s.pending, now := s.now, choices := s.choices, resetAsserted := s.resetAsserted, strap := s.strap,
    arm := s.arm.softReset,
    laneA := s.laneA.softReset (ceilingOf s.strap) s.now, laneB := s.laneB.softReset (ceilingOf s.strap) s.now }

/-- The soft reset (R183): the flag is set again at once above 125 °C, after every other block has taken its reset state. -/
def softReset (dieAbove125 : Bool) (s : State) : State :=
  if dieAbove125 then setOverTemperature (softBlocks s) else softBlocks s

/-- Keeps a frame as the outbound queue's only one (R15). -/
def keepFrame (f : ArmFrame) (s : State) : State := modArm (fun a => { a with outbound := [f] }) s

/-- An accepted RESET PART (R182): its RESPONSE is formed before the soft reset and is the one frame the reset keeps; while the link is DOWN it is
dropped. -/
def acceptReset (dieAbove125 : Bool) (r : Request) (s : State) : State :=
  if s.arm.linkUp then keepFrame (responseTo r ⟨.ok, []⟩ s.waiting) (softReset dieAbove125 s)
  else softReset dieAbove125 (offer (responseTo r ⟨.ok, []⟩ s.waiting) s)

/-- RESET PART taken as one event (R182): with arguments it is refused BAD_LENGTH and no reset takes place. -/
def takeReset (dieAbove125 : Bool) (s : State) : State :=
  match s.nextRequest with
  | some r =>
    if rowOf r.payload = .resetPart then
      if r.payload.tail = [] then acceptReset dieAbove125 r s
      else answerRequest (fun _ s => refuse .badLength s) r s
    else s
  | none => s

/-- RESET_PART (R182, R183). -/
def execResetPart (dieAbove125 : Bool) (s : State) : Host.Outcome State Fault Refusal := .next (takeReset dieAbove125 s)

end Sys2Proof.Machine
end

