-- ==== Sys2Proof/Machine/Dispatch.lean ====
section
/-! DEFINITION. Dispatch.lean: the meaning of each command, one arm per constructor. -/

namespace Sys2Proof.Machine

def exec (i : Instr) (s : State) : Host.Outcome State Fault Refusal :=
  match i with
  | .powerOn strap dieAbove125 => Sys2Proof.Machine.execPowerOn strap dieAbove125 s
  | .pinReset => Sys2Proof.Machine.execPinReset s
  | .resetRelease strap dieAbove125 => Sys2Proof.Machine.execResetRelease strap dieAbove125 s
  | .armFrameReceived bits => Sys2Proof.Machine.execArmFrameReceived bits s
  | .frameLong => Sys2Proof.Machine.execFrameLong s
  | .frameBreak contentBits => Sys2Proof.Machine.execFrameBreak contentBits s
  | .transmitStart => Sys2Proof.Machine.execTransmitStart s
  | .linkTimerExpiry => Sys2Proof.Machine.execLinkTimerExpiry s
  | .identify => Sys2Proof.Machine.execIdentify s
  | .readStatus => Sys2Proof.Machine.execReadStatus s
  | .laneControlEnable => Sys2Proof.Machine.execLaneControlEnable s
  | .laneControlDisable => Sys2Proof.Machine.execLaneControlDisable s
  | .laneControlClearLatch => Sys2Proof.Machine.execLaneControlClearLatch s
  | .laneControlNone => Sys2Proof.Machine.execLaneControlNone s
  | .laneOptionsWrite => Sys2Proof.Machine.execLaneOptionsWrite s
  | .laneOptionsRead => Sys2Proof.Machine.execLaneOptionsRead s
  | .writeProfile => Sys2Proof.Machine.execWriteProfile s
  | .readProfile => Sys2Proof.Machine.execReadProfile s
  | .startCensus => Sys2Proof.Machine.execStartCensus s
  | .stopCensus => Sys2Proof.Machine.execStopCensus s
  | .readRoster => Sys2Proof.Machine.execReadRoster s
  | .find => Sys2Proof.Machine.execFind s
  | .mapWrite => Sys2Proof.Machine.execMapWrite s
  | .mapClear => Sys2Proof.Machine.execMapClear s
  | .mapRead => Sys2Proof.Machine.execMapRead s
  | .setProvisionalRange => Sys2Proof.Machine.execSetProvisionalRange s
  | .nameDevice => Sys2Proof.Machine.execNameDevice s
  | .release => Sys2Proof.Machine.execRelease s
  | .cycleListWrite => Sys2Proof.Machine.execCycleListWrite s
  | .cycleListClear => Sys2Proof.Machine.execCycleListClear s
  | .cycleListRead => Sys2Proof.Machine.execCycleListRead s
  | .cycleControlStart => Sys2Proof.Machine.execCycleControlStart s
  | .cycleControlStop => Sys2Proof.Machine.execCycleControlStop s
  | .cycleControlNone => Sys2Proof.Machine.execCycleControlNone s
  | .fetchNotices => Sys2Proof.Machine.execFetchNotices s
  | .noticeMasksWrite => Sys2Proof.Machine.execNoticeMasksWrite s
  | .noticeMasksRead => Sys2Proof.Machine.execNoticeMasksRead s
  | .readCounters => Sys2Proof.Machine.execReadCounters s
  | .resetPart dieAbove125 => Sys2Proof.Machine.execResetPart dieAbove125 s
  | .unknownRequest => Sys2Proof.Machine.execUnknownRequest s
  | .lockAssert lane => Sys2Proof.Machine.execLockAssert lane s
  | .lockDeassert lane => Sys2Proof.Machine.execLockDeassert lane s
  | .probeCurrentChange lane microamps => Sys2Proof.Machine.execProbeCurrentChange lane microamps s
  | .qualifyTimerExpiry lane => Sys2Proof.Machine.execQualifyTimerExpiry lane s
  | .rampVoltageReached lane => Sys2Proof.Machine.execRampVoltageReached lane s
  | .rampTimerExpiry lane => Sys2Proof.Machine.execRampTimerExpiry lane s
  | .laneCurrentChange lane microamps => Sys2Proof.Machine.execLaneCurrentChange lane microamps s
  | .overcurrentMaskExpiry lane => Sys2Proof.Machine.execOvercurrentMaskExpiry lane s
  | .backfeedVoltageChange lane above => Sys2Proof.Machine.execBackfeedVoltageChange lane above s
  | .backfeedMaskExpiry lane => Sys2Proof.Machine.execBackfeedMaskExpiry lane s
  | .removalTimerExpiry lane => Sys2Proof.Machine.execRemovalTimerExpiry lane s
  | .liveStabilityExpiry lane => Sys2Proof.Machine.execLiveStabilityExpiry lane s
  | .dischargeTimerExpiry lane => Sys2Proof.Machine.execDischargeTimerExpiry lane s
  | .cooldownExpiry lane dieBelow110 => Sys2Proof.Machine.execCooldownExpiry lane dieBelow110 s
  | .overTemperatureSet => Sys2Proof.Machine.execOverTemperatureSet s
  | .overTemperatureClear => Sys2Proof.Machine.execOverTemperatureClear s
  | .exchangeGrant lane => Sys2Proof.Machine.execExchangeGrant lane s
  | .guardCountReached lane => Sys2Proof.Machine.execGuardCountReached lane s
  | .guardLimitReached lane => Sys2Proof.Machine.execGuardLimitReached lane s
  | .requestTailBit lane => Sys2Proof.Machine.execRequestTailBit lane s
  | .replyDelimiterComplete lane => Sys2Proof.Machine.execReplyDelimiterComplete lane s
  | .replyTimeout lane => Sys2Proof.Machine.execReplyTimeout lane s
  | .replyFrameEnd lane how => Sys2Proof.Machine.execReplyFrameEnd lane how s
  | .slotsEnd lane => Sys2Proof.Machine.execSlotsEnd lane s
  | .silenceCheckDue slot => Sys2Proof.Machine.execSilenceCheckDue slot s
  | .recallEchoDue slot => Sys2Proof.Machine.execRecallEchoDue slot s
  | .periodTimerExpiry => Sys2Proof.Machine.execPeriodTimerExpiry s
  | .openingDelimiter => Sys2Proof.Machine.execOpeningDelimiter s
  | .discardEnd => Sys2Proof.Machine.execDiscardEnd s
  | .transmitTailBit => Sys2Proof.Machine.execTransmitTailBit s
  | .guardIdleLost lane report => Sys2Proof.Machine.execGuardIdleLost lane report s
  | .slotStart lane => Sys2Proof.Machine.execSlotStart lane s
  | .slotObservation lane report => Sys2Proof.Machine.execSlotObservation lane report s

end Sys2Proof.Machine
end

