-- ==== Sys2Proof/Machine/Step.lean ====
section
/-! DEFINITION. Step.lean: one step of the machine: the command at the front of the queue, or on an empty queue one ms of the part's clock. -/

namespace Sys2Proof.Machine

/-- The state without the command at the front of its queue. -/
def State.restOf (s : State) (rest : List Instr) : State := { s with pending := rest }

/-- One step (assumption log 2). -/
def step (s : State) : Host.Outcome State Fault Refusal :=
  match s.pending with
  | c :: rest => exec c (s.restOf rest)
  | [] => .next (tick s)

/-- The state with the command that a word spells at the front of its queue; no word spells one (assumption log 7). -/
def State.withFetchWord (s : State) (nbits w : Nat) : State :=
  match decodeTableWord nbits w with
  | some c => { s with pending := c :: s.pending }
  | none => s

end Sys2Proof.Machine
end

