-- ==== Sys2Proof/Machine/Receiver.lean ====
section
/-! DEFINITION. Receiver.lean: the line receiver of section 1.2, bit by bit (R4, R5, R7): what it makes of the line is what the sender presents as
commands. -/

namespace Sys2Proof.Machine

/-- A receiver with the bits it has seen. HUNT: the 1s since the last 0, none while no 0 has come. FRAME: the line bits that are certainly
content, whether a later 0 waits to be told from a delimiter's, and the 1s since. DISCARD: the 1s since the last 0. -/
inductive LineState where
  | hunt (seen : Option Nat)
  | frame (line : List Bool) (zero : Bool) (ones : Nat)
  | discard (ones : Nat)
  deriving DecidableEq, Repr

/-- What the receiver reports. -/
inductive LineEvent where
  | opened
  | ended (line : List Bool)
  | broke (contentBits : Nat)
  | long
  | discardEnd
  deriving DecidableEq, Repr

/-- A bit in HUNT (R4). -/
def huntBit (seen : Option Nat) (b : Bool) : LineState × List LineEvent :=
  match b, seen with
  | false, _ => (.hunt (some 0), [])
  | true, none => (.hunt none, [])
  | true, some n => if n = 6 then (.frame [] false 0, [.opened]) else (.hunt (some (n + 1)), [])

/-- The content seen for certain when a further 0 arrives: the 0 that waited and the 1s after it. -/
def confirmed (line : List Bool) (zero : Bool) (ones : Nat) : List Bool :=
  line ++ ((if zero then [false] else []) ++ List.replicate ones true)

/-- A bit in FRAME (R5, R7): after a seventh 1 it is the tail bit or completes a break. -/
def frameBit (maxOctets : Nat) (line : List Bool) (zero : Bool) (ones : Nat) (b : Bool) : LineState × List LineEvent :=
  if ones = 7 then
    if b then (.hunt none, [.broke (removeBits line).length]) else (.hunt none, [.ended line])
  else if b then (.frame line zero (ones + 1), [])
  else if maxOctets < (octetsOf (removeBits (confirmed line zero ones))).length then (.discard 0, [.long])
  else (.frame (confirmed line zero ones) true 0, [])

/-- A bit in DISCARD (R7): the next delimiter's tail bit, or a break, ends it. -/
def discardBit (ones : Nat) (b : Bool) : LineState × List LineEvent :=
  if ones = 7 then (.hunt none, [.discardEnd]) else if b then (.discard (ones + 1), []) else (.discard 0, [])

/-- One bit of the line. -/
def lineBit (maxOctets : Nat) (r : LineState) (b : Bool) : LineState × List LineEvent :=
  match r with
  | .hunt seen => huntBit seen b
  | .frame line zero ones => frameBit maxOctets line zero ones b
  | .discard ones => discardBit ones b

/-- The bits of a line one after another: the receiver afterwards, and all it reported. -/
def receiveLine (maxOctets : Nat) : LineState → List Bool → LineState × List LineEvent
  | r, [] => (r, [])
  | r, b :: bs =>
    let x := lineBit maxOctets r b
    let y := receiveLine maxOctets x.1 bs
    (y.1, x.2 ++ y.2)

/-- The command that a report of the arm-link receiver is. -/
def LineEvent.command : LineEvent → Instr
  | .opened => .openingDelimiter
  | .ended line => .armFrameReceived line
  | .broke n => .frameBreak n
  | .long => .frameLong
  | .discardEnd => .discardEnd

/-- The end of a tool-bus frame that a report of a tool-bus receiver is (R5, R7, R8). -/
def LineEvent.busEnd : LineEvent → Option FrameEnd
  | .ended line => some (.tail line)
  | .broke n => some (.brk n)
  | .long => some .long
  | .opened | .discardEnd => none

end Sys2Proof.Machine
end

