-- ==== Sys2Proof/Safety.lean ====
section
/-! DEFINITION. Safety.lean: what a sound state of the part is, as the manual's own statements about the whole part say it. -/

namespace Sys2Proof.Machine

/-- A lane's applied limit lies between 0.1 A and the ceiling of the strap (R36). -/
def State.limitSound (s : State) (l : Lane) : Prop :=
  1 ≤ (s.lane l).power.limit ∧ (s.lane l).power.limit ≤ ceilingOf s.strap

/-- The queues hold no more than their capacities (R14, R15, R139, R188). -/
def State.queuesSound (s : State) : Prop :=
  s.arm.requests.length ≤ requestCapacity ∧ s.arm.outbound.length ≤ outboundCapacity ∧
    (∀ l, (s.lane l).forward.length ≤ forwardCapacity) ∧ s.notices.queue.length ≤ noticeCapacity

/-- A LINK counter is a 16-bit value (R194). -/
def LinkCounters.sound (c : LinkCounters) : Prop :=
  c.framesGood ≤ 65535 ∧ c.corrupt ≤ 65535 ∧ c.framingErrors ≤ 65535 ∧ c.inboundOverflow ≤ 65535 ∧
    c.misdirected ≤ 65535 ∧ c.outboundDrops ≤ 65535

/-- A LANE counter is a 16-bit value (R194). -/
def LaneCounters.sound (c : LaneCounters) : Prop :=
  c.started ≤ 65535 ∧ c.ok ≤ 65535 ∧ c.noReply ≤ 65535 ∧ c.corrupt ≤ 65535 ∧ c.probesSent ≤ 65535 ∧
    c.collided ≤ 65535 ∧ c.duplicates ≤ 65535

/-- No counter exceeds 65535 (R194). -/
def State.countersSound (s : State) : Prop := s.arm.counters.sound ∧ ∀ l, (s.lane l).counters.sound

/-- A roster entry exists only while its lane is LIVE (R38). -/
def State.rosterLive (s : State) : Prop := ∀ slot e, s.entry slot = some e → s.laneLive e.lane = true

/-- A run goes, and an exchange is in flight, only on a LIVE lane (R38, R91). -/
def State.busLive (s : State) (l : Lane) : Prop :=
  ((s.lane l).census.run ≠ .idle ∨ (s.lane l).exch.isSome = true) → s.laneLive l = true

/-- The tables keep their sizes (R42, R94, R120, R154). -/
def State.tablesSound (s : State) : Prop :=
  s.profiles.length = 4 ∧ s.roster.length = 32 ∧ s.nameMap.length = 64 ∧ s.seq.list.length = 12

/-- While RESET# is asserted the part is as the reset left it: nothing powered, nothing queued, nothing known (R16, R21, R191). -/
def State.resetQuiet (s : State) : Prop :=
  s.resetAsserted = true →
    (∀ l, (s.lane l).power.state = .off) ∧ s.arm.tx = none ∧ s.arm.outbound = [] ∧ s.arm.requests = [] ∧ s.notices.queue = [] ∧
      s.roster = State.reset.roster

/-- A power state's fault count is 0..3, FAULT follows a first or second fault, LATCHED a third (R20, R32). -/
def State.faultsSound (s : State) (l : Lane) : Prop :=
  (s.lane l).power.faultCount ≤ 3 ∧ ((s.lane l).power.state = .latched → (s.lane l).power.faultCount = 3) ∧
    ((s.lane l).power.state = .fault → (s.lane l).power.faultCount = 1 ∨ (s.lane l).power.faultCount = 2)

/-- Each timer of a lane runs only in the power states that the manual lists for it (R20, R24 to R30, R33, R34). -/
structure PowerTimers.InPlace (t : PowerTimers) (st : PowerState) : Prop where
  qualify : t.qualify.isSome = true → st = .waiting
  ramp : t.ramp.isSome = true → st = .ramping
  overcurrent : t.overcurrent.isSome = true → st = .ramping ∨ st = .live
  backfeed : t.backfeed.isSome = true → st = .waiting ∨ st = .ramping ∨ st = .live
  removal : t.removal.isSome = true → st = .live
  stability : t.stability.isSome = true → st = .live
  discharge : t.discharge.isSome = true → st = .discharging
  cooldown : t.cooldown.isSome = true → st = .fault

/-- A lane's power is sound: the limit within the ceiling, the fault count with its states, the timers in their states. -/
def State.powerSound (s : State) : Prop :=
  ∀ l, s.limitSound l ∧ s.faultsSound l ∧ (s.lane l).power.timers.InPlace (s.lane l).power.state

/-- No name is held twice: by two entries, by an entry and as a carried name, or as two carried names (R124). -/
structure State.NamesDistinct (s : State) : Prop where
  entries : ∀ i j e f n, s.entry i = some e → s.entry j = some f → e.name = some n → f.name = some n → i = j
  carried : ∀ i e l n, s.entry i = some e → s.carriedName l = some n → e.name ≠ some n
  lanes : ∀ n, s.carriedName .a = some n → s.carriedName .b ≠ some n

/-- No fingerprint stands in two entries, and no local address in two entries of one lane; addresses are 1..30 (R81, R85, R94). -/
structure State.DevicesDistinct (s : State) : Prop where
  fingerprints : ∀ i j e f, s.entry i = some e → s.entry j = some f → e.fp = f.fp → i = j
  addresses : ∀ i j e f, s.entry i = some e → s.entry j = some f → e.lane = f.lane → e.address = f.address → i = j
  range : ∀ i e, s.entry i = some e → 1 ≤ e.address ∧ e.address ≤ 30

/-- The provisional range is one, and the cursor stands in it (R129, R133). -/
def State.rangeSound (s : State) : Prop :=
  1 ≤ s.range.low ∧ s.range.low ≤ s.range.cursor ∧ s.range.cursor ≤ s.range.high ∧ s.range.high ≤ 254

/-- The work list of a census holds at most 16 records, of depths 1..23 (R76). -/
def State.workSound (s : State) (l : Lane) : Prop :=
  (s.lane l).census.work.length ≤ 16 ∧ ∀ p ∈ (s.lane l).census.work, 1 ≤ p.depth ∧ p.depth ≤ 23

/-- A census has a device in hand only in a run, and that device stands in the roster on the run's lane; where its entry was created for the find, in
state ASSIGNING (R81 to R86). -/
def State.findsHome (s : State) : Prop :=
  ∀ l g, (s.lane l).census.find = some g → (s.lane l).census.run ≠ .idle ∧
    ∃ slot e, s.entry slot = some e ∧ e.fp = g.fp ∧ e.lane = l ∧ (g.kind ≠ .rejoin → e.state = .assigning)

/-- Each lane's completeness is as its condition stands (R136, R137). -/
def State.completeSound (s : State) : Prop := ∀ l, (s.lane l).complete = s.completeNow l

/-! ## How a run goes on -/

/-- The state with a lane's Census Engine changed to a given one. -/
def State.withCensus (s : State) (l : Lane) (c : Census) : State := s.setLane l { s.lane l with census := c }

/-- The state in which the run of a lane has ended with an outcome (R89): its work is cleared, the items not yet offered are back with supervision, the CENSUS notice
is queued with the duplicate and found counts, and completeness is evaluated. -/
def State.runEnded (s : State) (l : Lane) (o : CensusOutcome) : State :=
  let c := (s.lane l).census
  evalComplete l (notify (.census l o c.dups c.found) (s.setLane l { s.lane l with
    unaddress := c.taken ++ (s.lane l).unaddress
    census := { c with run := .idle, mode := none, work := [], hand := none, find := none, taken := [], offer := none, last := some o } }))

/-- The walk goes on (R75 step 3, R80): the record on top of the work list is probed, else a confirming root probe, else the run ends INCOMPLETE. -/
def State.walkedOn (s : State) (l : Lane) : State :=
  let c := (s.lane l).census
  match c.work with
  | q :: w => s.withCensus l { c with work := w, hand := some ⟨q, 1, [], []⟩, offer := some (.probe q) }
  | [] =>
    if c.confirming < 3 then
      s.withCensus l { c with confirming := c.confirming + 1, hand := some ⟨⟨0, 0⟩, 1, [], []⟩, offer := some (.probe ⟨0, 0⟩) }
    else s.runEnded l .incomplete

/-- Duplicates of a lane are declared, one after another (R79, R84, R88): each raises the run's count, which stops at 255, and the lane's counter, and queues its notice with
that count. -/
def State.withDuplicates (s : State) (l : Lane) (crossLane : Bool) : List Fingerprint → State
  | [] => s
  | f :: fs =>
    let c := (s.lane l).census
    State.withDuplicates (notify (.duplicate l f crossLane (min 255 (c.dups + 1))) (s.setLane l { s.lane l with
      census := { c with dups := min 255 (c.dups + 1) }
      counters := { (s.lane l).counters with duplicates := addSat (s.lane l).counters.duplicates } })) l crossLane fs

/-- What is pushed for a COLLIDED slot of a probe: the next depth, and the slot as the two bits after the prefix (R70). -/
def Prefix.forSlot (p : Prefix) (k : Nat) : Prefix := ⟨p.depth + 1, p.bits ||| (BitVec.ofNat 48 (k % 4) <<< (46 - 2 * p.depth))⟩

/-- A local address that no entry of the lane has (R85). -/
def State.addressFree (s : State) (l : Lane) (a : Nat) : Prop := 1 ≤ a ∧ a ≤ 30 ∧ ∀ j e, s.entry j = some e → e.lane = l → e.address ≠ a

/-- The lowest free local address of the lane (R85). -/
def State.addressLowest (s : State) (l : Lane) (a : Nat) : Prop := s.addressFree l a ∧ ∀ b, b < a → ¬ s.addressFree l b

/-- What a RUNNING run does with what a classified probe leaves: the finds not yet taken, in slot order, then its open slots (R75 to R85). With the finds taken, a third confirming probe ends
the run INCOMPLETE; above depth 23 the children of the open slots are pushed, the lowest on top, or at a seventeenth record the run ends INCOMPLETE; at depth 23 the probe is repeated, and
after the third the open slots are SAME_LANE duplicates; then the walk goes on. A find no entry holds (NEW) takes the lowest free slot and address and is offered its ASSIGN, or ends the
run FULL; one of this lane (REJOIN) is offered its own address again; one LOST on the other lane (MOVE) leaves there and carries its name; any other is a CROSS_LANE duplicate, and
the next find follows. -/
def State.ProbeGoesOn (l : Lane) (h : ProbeInHand) : List Fingerprint → State → State → Prop
  | [], s, t =>
    let c := (s.lane l).census
    (h.prefx.depth = 0 → 3 ≤ c.confirming → t = s.runEnded l .incomplete) ∧
    (h.prefx.depth < 23 → 0 < h.prefx.depth ∨ c.confirming < 3 →
      (c.work.length + h.openSlots.length ≤ 16 → t = (s.withCensus l { c with work := h.openSlots.map h.prefx.forSlot ++ c.work }).walkedOn l) ∧
      (16 < c.work.length + h.openSlots.length → t = s.runEnded l .incomplete)) ∧
    (23 ≤ h.prefx.depth →
      (h.openSlots = [] → t = s.walkedOn l) ∧
      (h.openSlots ≠ [] → h.number < 3 → t = s.withCensus l { c with
        hand := some ⟨h.prefx, h.number + 1, h.openSlots, []⟩, offer := some (.probe h.prefx) }) ∧
      (h.openSlots ≠ [] → 3 ≤ h.number → t = (s.withDuplicates l false (h.openSlots.map (fun k => (h.prefx.forSlot k).bits))).walkedOn l))
  | f :: rest, s, t =>
    let c := (s.lane l).census
    let hand : Option ProbeInHand := some { h with finds := rest }
    let assigned (a : Nat) : Entry := ⟨.assigning, l, a, f, none, none, none, none, 0, 0, none, none, false, none, none, false⟩
    ((∀ j e, s.entry j = some e → e.fp ≠ f) →
      (∀ slot a, slot < 32 → s.entry slot = none → (∀ j, j < slot → s.entry j ≠ none) → s.addressLowest l a →
        t = { s.withCensus l { c with find := some ⟨f, .new, none⟩, hand := hand, offer := some (.assign f a) } with
          roster := s.roster.set slot (some (assigned a)) }) ∧
      ((∀ j, j < 32 → s.entry j ≠ none) ∨ (∀ a, ¬ s.addressFree l a) → t = s.runEnded l .full)) ∧
    (∀ slot e, s.entry slot = some e → e.fp = f → (∀ j y, s.entry j = some y → y.fp = f → j = slot) →
      (e.lane = l → t = s.withCensus l { c with find := some ⟨f, .rejoin, none⟩, hand := hand, offer := some (.assign f e.address) }) ∧
      (e.lane ≠ l →
        let rejoining : Prop := ∃ g, (s.lane (otherLane l)).census.find = some g ∧ g.fp = f ∧ g.kind = .rejoin
        (e.state = .lost → ¬ rejoining →
          ((∀ a, ¬ s.addressFree l a) → t = s.runEnded l .full) ∧
          (∀ a, slot < 32 → s.addressLowest l a →
            t.lane l = { s.lane l with census := { c with hand := hand, offer := some (.assign f a), find := some ⟨f, .move, match e.name, e.source with
              | some n, some src => some ⟨n, src, e.mapRef⟩
              | _, _ => none⟩ } } ∧
            (∃ k, t.entry k = some (assigned a) ∧ (∀ j, j < k → t.entry j ≠ none) ∧ ∀ j y, t.entry j = some y → y.fp = f → j = k) ∧
            (∀ j y, j ≠ slot → s.entry j = some y → y.state ≠ .held → t.entry j = some y))) ∧
        (e.state ≠ .lost ∨ rejoining → State.ProbeGoesOn l h rest (s.withDuplicates l true [f]) t)))

/-- How a run goes on when an exchange of it has ended and been applied (R69, R86, R87, R90): STOPPING ends STOPPED; RUNNING goes on with what the probe in hand leaves, and before the
first probe with the oldest taken-over UNADDRESS item, else the root probe. -/
def State.RunGoesOn (s : State) (l : Lane) (t : State) : Prop :=
  let c := (s.lane l).census
  (c.run = .stopping → t = s.runEnded l .stopped) ∧
  (c.run = .running →
    (∀ h, c.hand = some h → State.ProbeGoesOn l h h.finds s t) ∧
    (c.hand = none →
      (∀ a more, c.taken = a :: more → t = s.withCensus l { c with offer := some (.taken a) }) ∧
      (c.taken = [] → t = s.withCensus l { c with hand := some ⟨⟨0, 0⟩, 1, [], []⟩, offer := some (.probe ⟨0, 0⟩) })))

/-! ## Requests -/

/-- A request stands first in the request queue of a running part, the link is UP and the outbound queue has a free place (R14, R168). -/
structure State.Asked (s : State) (tag : Octet) (payload : List Octet) (rest : List Request) : Prop where
  running : s.resetAsserted = false
  linkUp : s.arm.linkUp = true
  room : s.arm.outbound.length < 24
  front : s.arm.requests = ⟨tag, payload⟩ :: rest

/-- The state in which the request at the front has been answered, and nothing else has changed (R168). -/
def State.answered (s : State) (rest : List Request) (tag code : Octet) (st : Status) (data : List Octet) : State :=
  { s with arm := { s.arm with requests := rest, outbound := s.arm.outbound ++
      [⟨0, .response, tag, code :: octet st.code :: octet s.notices.queue.length :: data⟩] } }

/-- The row of the opcode table that a management command is. -/
def requestRow : Instr → Option RequestRow
  | .identify => some .identify
  | .readStatus => some .readStatus
  | .laneControlEnable => some .laneControlEnable
  | .laneControlDisable => some .laneControlDisable
  | .laneControlClearLatch => some .laneControlClearLatch
  | .laneControlNone => some .laneControlNone
  | .laneOptionsWrite => some .laneOptionsWrite
  | .laneOptionsRead => some .laneOptionsRead
  | .writeProfile => some .writeProfile
  | .readProfile => some .readProfile
  | .startCensus => some .startCensus
  | .stopCensus => some .stopCensus
  | .readRoster => some .readRoster
  | .find => some .find
  | .mapWrite => some .mapWrite
  | .mapClear => some .mapClear
  | .mapRead => some .mapRead
  | .setProvisionalRange => some .setProvisionalRange
  | .nameDevice => some .nameDevice
  | .release => some .release
  | .cycleListWrite => some .cycleListWrite
  | .cycleListClear => some .cycleListClear
  | .cycleListRead => some .cycleListRead
  | .cycleControlStart => some .cycleControlStart
  | .cycleControlStop => some .cycleControlStop
  | .cycleControlNone => some .cycleControlNone
  | .fetchNotices => some .fetchNotices
  | .noticeMasksWrite => some .noticeMasksWrite
  | .noticeMasksRead => some .noticeMasksRead
  | .readCounters => some .readCounters
  | .resetPart _ => some .resetPart
  | .unknownRequest => some .unknownRequest
  | _ => none

/-- The numbers of argument octets that a request code accepts (section 12.3). -/
def acceptsLength (code : Octet) (n : Nat) : Bool :=
  match code.toNat with
  | 0x01 | 0x02 | 0x18 => n == 0
  | 0x03 => n == 2 || n == 3
  | 0x04 => n == 1 || n == 7
  | 0x05 => n == 5
  | 0x06 | 0x08 | 0x0C | 0x0D | 0x12 | 0x13 | 0x15 => n == 1
  | 0x07 | 0x09 | 0x0E | 0x17 => n == 2
  | 0x0A => n == 2 || n == 7
  | 0x0B => n == 13 || n == 14
  | 0x0F => n == 7
  | 0x10 => n == 6
  | 0x11 => decide (2 ≤ n) && decide (n ≤ 10)
  | 0x14 => n == 1 || n == 4
  | 0x16 => n == 0 || n == 4
  | _ => false

/-- A command that a lane's own events bring while the part runs: it does nothing under RESET# (R16, R21). -/
def actsUnderReset : Instr → Bool
  | .powerOn _ _ | .pinReset | .resetRelease _ _ | .lockAssert _ | .lockDeassert _ | .probeCurrentChange _ _
  | .backfeedVoltageChange _ _ => true
  | _ => false

/-- A command that resets the part (R16, R19, R21, R182). -/
def resets : Instr → Bool
  | .powerOn _ _ | .pinReset | .resetRelease _ _ | .resetPart _ => true
  | _ => false

/-- A command on which lane power or what it senses can change: LANE CONTROL, the inputs, the timers of lane power and the
temperature (R20). -/
def actsOnPower : Instr → Bool
  | .laneControlEnable | .laneControlDisable | .laneControlClearLatch | .laneControlNone | .lockAssert _ | .lockDeassert _
  | .probeCurrentChange _ _ | .qualifyTimerExpiry _ | .rampVoltageReached _ | .rampTimerExpiry _ | .laneCurrentChange _ _
  | .overcurrentMaskExpiry _ | .backfeedVoltageChange _ _ | .backfeedMaskExpiry _ | .removalTimerExpiry _
  | .liveStabilityExpiry _ | .dischargeTimerExpiry _ | .cooldownExpiry _ _ | .overTemperatureSet => true
  | _ => false

/-- The row of a timer that runs on the part's clock (R17, R24 to R34, R113, R114, R158). -/
def isMsTimer : Instr → Bool
  | .linkTimerExpiry | .qualifyTimerExpiry _ | .rampTimerExpiry _ | .overcurrentMaskExpiry _ | .backfeedMaskExpiry _
  | .removalTimerExpiry _ | .liveStabilityExpiry _ | .dischargeTimerExpiry _ | .cooldownExpiry _ _ | .silenceCheckDue _
  | .recallEchoDue _ | .periodTimerExpiry => true
  | _ => false

/-- An event at which an exchange can end or a next attempt begin (R51, R54). -/
def endsExchange : Instr → Bool
  | .guardLimitReached _ | .requestTailBit _ | .replyTimeout _ | .replyFrameEnd _ _ | .slotsEnd _ => true
  | _ => false

/-- An event of a tool bus: a grant, the end of an exchange or one within it (R46 to R55, R61). -/
def actsOnBus (c : Instr) : Bool :=
  endsExchange c || match c with
  | .exchangeGrant _ | .guardCountReached _ | .guardIdleLost _ _ | .replyDelimiterComplete _ | .slotStart _
  | .slotObservation _ _ => true
  | _ => false

/-- A grant or the end of an exchange, a lane power command, or an accepted START CENSUS: what starts, moves and ends work on a lane. -/
def actsOnWork (c : Instr) : Bool :=
  actsOnPower c || endsExchange c || match c with
  | .exchangeGrant _ | .startCensus => true
  | _ => false

/-- A command on which a Census Engine can change (R66 to R92, R123). -/
def actsOnCensus (c : Instr) : Bool :=
  actsOnWork c || match c with
  | .stopCensus | .mapWrite | .mapClear => true
  | _ => false

/-- A command on which a roster entry or the provisional cursor can change (R93 to R119, R126, R132 to R135, R149). -/
def actsOnRoster (c : Instr) : Bool :=
  actsOnWork c || match c with
  | .laneOptionsWrite | .mapWrite | .mapClear | .setProvisionalRange | .nameDevice | .release | .silenceCheckDue _ | .recallEchoDue _ => true
  | _ => false

/-- A command on which the sequencer can change (R154 to R165, R18). -/
def actsOnCycle (c : Instr) : Bool :=
  actsOnWork c || match c with
  | .armFrameReceived _ | .linkTimerExpiry | .cycleListWrite | .cycleListClear | .cycleControlStart | .cycleControlStop | .cycleControlNone
  | .periodTimerExpiry => true
  | _ => false

/-- An event of the arm-link receiver (R4). -/
def actsOnReceiver : Instr → Bool
  | .openingDelimiter | .armFrameReceived _ | .frameLong | .frameBreak _ | .discardEnd => true
  | _ => false

/-- A lane as power-on and pin reset leave it, with the limit at the ceiling of a strap code (R21); the sensed levels stay. -/
def laneAfterReset (code : Nat) (x : LaneState) : LaneState :=
  { State.reset.laneA with
    power := { State.reset.laneA.power with
      limit := ceilingOf code, lock := x.power.lock, probeCurrent := x.power.probeCurrent, overSupply := x.power.overSupply } }

/-- The part as power-on and pin reset leave it, with a strap code (R19, R21); the queue, the clock and the free values stay. -/
def stateAfterReset (code : Nat) (s : State) : State :=
  { State.reset with
    pending := s.pending, now := s.now, choices := s.choices, strap := code,
    laneA := laneAfterReset code s.laneA, laneB := laneAfterReset code s.laneB }

/-- A lane as a soft reset at a moment leaves it (R21): RAMPING and LIVE discharge on their way to OFF, every other state is OFF. -/
def laneAfterSoftReset (code now : Nat) (x : LaneState) : LaneState :=
  if x.power.state = .ramping ∨ x.power.state = .live then
    { laneAfterReset code x with
      power := { (laneAfterReset code x).power with
        state := .discharging, disablePending := .reset, timers := { PowerTimers.stopped with discharge := some (now + 50) } } }
  else laneAfterReset code x

end Sys2Proof.Machine
end

