-- ==== Sys2Proof/WellFormed.lean ====
section
/-! DEFINITION. WellFormed.lean: the commands that an event of the part can be. -/

namespace Sys2Proof

open Machine

/-- A strap reading is one of the eight codes (R9). -/
def Strap.wf : Strap → Bool
  | .resistor code => decide (code < 8)
  | .opened => true
  | .shorted => true

/-- Line bits that a receiver takes as content hold at most six 1s in a row (R2, R5), after `run` 1s. -/
def lineLegal : Nat → List Bool → Bool
  | _, [] => true
  | run, true :: bs => decide (run < 6) && lineLegal (run + 1) bs
  | _, false :: bs => lineLegal 0 bs

/-- Line bits that reach the end checks (R5, R7): legal, and no complete octet beyond the line's maximum. -/
def frameLegal (maxOctets : Nat) (line : List Bool) : Bool :=
  lineLegal 0 line && decide ((octetsOf (removeBits line)).length ≤ maxOctets)

/-- How a tool-bus frame can end. -/
def FrameEnd.wf : FrameEnd → Bool
  | .tail bits => frameLegal busMax bits
  | .brk n => decide (n < 8 * (busMax + 1))
  | .long => true

/-- What takes the idle count back can be a frame's end. -/
def GuardReport.wf : GuardReport → Bool
  | .zero => true
  | .delimiter => true
  | .frameEnd how => how.wf
  | .discardEnd => true

/-- The moments of a probe slot lie within the widest slot, 141 bit times (R55, R42). -/
def SlotReport.wf : SlotReport → Bool
  | .zero t => decide (t < 141)
  | .delimiter t => decide (t < 141)
  | .frameEnd how => how.wf
  | .discardEnd => true

/-- A command with operands that its event can bring. The probe supply's own cap is 20 mA (R24). -/
def Instr.wf : Instr → Bool
  | .powerOn strap _ => strap.wf
  | .resetRelease strap _ => strap.wf
  | .armFrameReceived bits => frameLegal armMax bits
  | .frameBreak n => decide (n < 8 * (armMax + 1))
  | .replyFrameEnd _ how => how.wf
  | .slotObservation _ r => r.wf
  | .guardIdleLost _ r => r.wf
  | .probeCurrentChange _ microamps => decide (microamps ≤ 20000)
  | .silenceCheckDue slot => decide (slot < 32)
  | .recallEchoDue slot => decide (slot < 32)
  | .pinReset | .frameLong | .transmitStart | .linkTimerExpiry | .identify | .readStatus | .laneControlEnable
  | .laneControlDisable | .laneControlClearLatch | .laneControlNone | .laneOptionsWrite | .laneOptionsRead | .writeProfile
  | .readProfile | .startCensus | .stopCensus | .readRoster | .find | .mapWrite | .mapClear | .mapRead | .setProvisionalRange
  | .nameDevice | .release | .cycleListWrite | .cycleListClear | .cycleListRead | .cycleControlStart | .cycleControlStop
  | .cycleControlNone | .fetchNotices | .noticeMasksWrite | .noticeMasksRead | .readCounters | .resetPart _ | .unknownRequest
  | .lockAssert _ | .lockDeassert _ | .qualifyTimerExpiry _ | .rampVoltageReached _
  | .rampTimerExpiry _ | .laneCurrentChange _ _ | .overcurrentMaskExpiry _ | .backfeedVoltageChange _ _ | .backfeedMaskExpiry _
  | .removalTimerExpiry _ | .liveStabilityExpiry _ | .dischargeTimerExpiry _ | .cooldownExpiry _ _ | .overTemperatureSet
  | .overTemperatureClear | .exchangeGrant _ | .guardCountReached _ | .guardLimitReached _ | .requestTailBit _
  | .replyDelimiterComplete _ | .replyTimeout _ | .slotsEnd _ | .periodTimerExpiry | .openingDelimiter | .discardEnd
  | .transmitTailBit | .slotStart _ => true

end Sys2Proof
end

