-- ==== Sys2Proof/Certificates/Slice0/Obligations.lean ====
section
/-! DEFINITION. Obligations.lean: the statements about the part, for the provers. -/

open Sys2Proof Sys2Proof.Machine

/-! ## The queue of commands -/

/-- A step with a command at the front of the queue is `exec` of that command on the state with the queue's rest. -/
def Obligations.StepRunsFrontCommand : Prop :=
  ∀ (c : Instr) (rest : List Instr) (s : State), s.pending = c :: rest → step s = exec c { s with pending := rest }

/-- A step on an empty queue is one ms of the part's clock: it puts the command of exactly each timer that runs out at the new moment into the queue, once, in
some order, and changes nothing else. A cooldown check says one thing about the die. The tick and the free order are the model's choice
(assumption logs 2, 9, 11). -/
def Obligations.IdleStepPassesOneMillisecond : Prop :=
  ∀ s : State, s.pending = [] → ∃ t, step s = .next t ∧
    t = { s with now := s.now + 1, pending := t.pending, choices := t.choices } ∧ t.pending.Nodup ∧
    (∀ c ∈ t.pending, isMsTimer c = true) ∧
    (Instr.linkTimerExpiry ∈ t.pending ↔ s.arm.linkTimer = some (s.now + 1)) ∧
    (Instr.periodTimerExpiry ∈ t.pending ↔ s.seq.timer = some (s.now + 1)) ∧
    (∀ l : Lane,
      let x := (s.lane l).power.timers
      (Instr.qualifyTimerExpiry l ∈ t.pending ↔ x.qualify = some (s.now + 1)) ∧
      (Instr.rampTimerExpiry l ∈ t.pending ↔ x.ramp = some (s.now + 1)) ∧
      (Instr.overcurrentMaskExpiry l ∈ t.pending ↔ x.overcurrent = some (s.now + 1)) ∧
      (Instr.backfeedMaskExpiry l ∈ t.pending ↔ x.backfeed = some (s.now + 1)) ∧
      (Instr.removalTimerExpiry l ∈ t.pending ↔ x.removal = some (s.now + 1)) ∧
      (Instr.liveStabilityExpiry l ∈ t.pending ↔ x.stability = some (s.now + 1)) ∧
      (Instr.dischargeTimerExpiry l ∈ t.pending ↔ x.discharge = some (s.now + 1)) ∧
      ((∃ cool, Instr.cooldownExpiry l cool ∈ t.pending) ↔ x.cooldown = some (s.now + 1)) ∧
      ¬ (Instr.cooldownExpiry l true ∈ t.pending ∧ Instr.cooldownExpiry l false ∈ t.pending)) ∧
    (∀ slot,
      let reaches (st : EntryState) (start : Entry → Option Nat) : Prop := ∃ e m, s.entry slot = some e ∧ e.state = st ∧ start e = some m ∧
        (s.lane e.lane).options.silenceInterval ≠ 0 ∧ m + (s.lane e.lane).options.silenceInterval = s.now + 1
      (Instr.silenceCheckDue slot ∈ t.pending ↔ reaches .live Entry.silenceFrom) ∧
      (Instr.recallEchoDue slot ∈ t.pending ↔ reaches .lost Entry.recallFrom))

/-! ## Resets -/

/-- What the part holds at reset, the strap read as code 0 (the strap code and the input levels are the model's choice, assumption logs 1, 13). -/
def Obligations.ResetHoldsTheStatedValues : Prop :=
  let s := State.reset
  s.pending = [] ∧ s.resetAsserted = false ∧ s.overTemp = false ∧
    s.arm.rx = .hunt ∧ s.arm.tx = none ∧ s.arm.linkUp = false ∧ s.arm.linkTimer = none ∧ s.arm.requests = [] ∧ s.arm.outbound = [] ∧
    s.arm.counters = ⟨0, 0, 0, 0, 0, 0⟩ ∧
    (∀ l : Lane, (s.lane l).power.state = .off ∧ (s.lane l).power.limit = 5 ∧ (s.lane l).power.faultCount = 0 ∧
      (s.lane l).power.lastFault = none ∧ (s.lane l).exch = none ∧ (s.lane l).forward = [] ∧ (s.lane l).echoToken = 0 ∧
      (s.lane l).lastTurn = .supervision ∧ (s.lane l).unaddress = [] ∧ (s.lane l).lastServed = 31 ∧
      (s.lane l).options = ⟨true, true, false, 3, 3, 250, 0⟩ ∧ (s.lane l).census.run = .idle ∧ (s.lane l).census.last = none ∧
      (s.lane l).counters = ⟨0, 0, 0, 0, 0, 0, 0⟩ ∧ (s.lane l).complete = false) ∧
    s.profiles = List.replicate 4 ⟨3, 4, 20, 2⟩ ∧ s.roster = List.replicate 32 none ∧ s.nameMap = List.replicate 64 none ∧
    s.range = ⟨192, 254, 192⟩ ∧ s.seq.list = List.replicate 12 none ∧ s.seq.state = .stopped ∧ s.seq.source = .frame ∧
    s.seq.period = 10 ∧ s.seq.cycleNumber = 0 ∧ s.seq.missed = 0 ∧ s.seq.stopPending = false ∧
    s.notices.queue = [] ∧ s.notices.masks = ⟨0xFF, 0xFC, 0xC0, 0x80⟩

/-- Power-on, the assertion of RESET# and its release set every block to its reset state; power-on and the release read the strap, which sets the
code and the limit of both lanes, and the over-temperature flag follows the die. The queue, the clock of a pin reset, the sensed levels and
the old code under RESET# stay, and a power-on while RESET# is held leaves the part running (the model's choice, assumption logs 13, 25, 29, 36). -/
def Obligations.ResetsSetEveryBlock : Prop :=
  ∀ (s : State) (code : Nat) (die : Bool), code < 8 →
    exec (.powerOn (.resistor code) die) s = .next { stateAfterReset code s with now := 0, overTemp := die } ∧
    exec (.powerOn .opened die) s = .next { stateAfterReset 0 s with now := 0, overTemp := die } ∧
    exec (.powerOn .shorted die) s = .next { stateAfterReset 0 s with now := 0, overTemp := die } ∧
    exec .pinReset s = .next { stateAfterReset s.strap s with resetAsserted := true } ∧
    (s.resetAsserted = true →
      exec (.resetRelease (.resistor code) die) s = .next { stateAfterReset code s with overTemp := die } ∧
      exec (.resetRelease .opened die) s = .next { stateAfterReset 0 s with overTemp := die } ∧
      exec (.resetRelease .shorted die) s = .next { stateAfterReset 0 s with overTemp := die })

/-- While RESET# is asserted, no command but a reset and a sensed level has any effect (the model's choice, assumption log 25), and every step keeps
the part as the reset left it: nothing powered, nothing queued, nothing known. -/
def Obligations.NothingActsUnderReset : Prop :=
  (∀ (c : Instr) (s : State), s.resetAsserted = true → actsUnderReset c = false → exec c s = .next s) ∧
    (∀ s t : State, s.resetQuiet → step s = .next t → t.resetQuiet)

/-- The soft reset of an accepted RESET PART: its RESPONSE is the one frame left, with the notices waiting before the reset; strap, link state,
link timer, receiver and transmitter are kept; RAMPING and LIVE lanes discharge towards OFF, all others are OFF; everything else is as after
reset, and no notice is queued. With arguments the request is refused BAD_LENGTH and no reset takes place.
Above 125 °C with one lane powered the flag is set again, and that lane enters FAULT with cause THERMAL and fault count 1 and then OFF with cause RESET,
its two LANE notices the only ones in the queue. Where the manual
leaves a detail to the model, the model follows assumption logs 12 and 13. -/
def Obligations.SoftReset : Prop :=
  ∀ (s : State) (tag : Octet) (rest : List Request),
    (s.Asked tag [0x18] rest →
      exec (.resetPart false) s = .next { stateAfterReset s.strap s with
        arm := { State.reset.arm with
          rx := s.arm.rx, tx := s.arm.tx, linkUp := true, linkTimer := s.arm.linkTimer,
          outbound := [⟨0, .response, tag, [0x18, 0, octet s.notices.queue.length]⟩] }
        laneA := laneAfterSoftReset s.strap s.now s.laneA
        laneB := laneAfterSoftReset s.strap s.now s.laneB }) ∧
    (∀ a args die, s.Asked tag (0x18 :: a :: args) rest →
      exec (.resetPart die) s = .next (s.answered rest tag 0x18 .badLength [])) ∧
    (∀ l : Lane, s.Asked tag [0x18] rest →
      ((s.lane l).power.state = .ramping ∨ (s.lane l).power.state = .live) →
      (s.lane (otherLane l)).power.state ≠ .ramping → (s.lane (otherLane l)).power.state ≠ .live →
      ∃ t, exec (.resetPart true) s = .next t ∧ t.overTemp = true ∧
        (t.lane l).power.state = .off ∧ (t.lane l).power.faultCount = 1 ∧ (t.lane l).power.lastFault = some .thermal ∧
        (t.lane (otherLane l)).power.state = .off ∧ (t.lane (otherLane l)).power.faultCount = 0 ∧
        t.notices.queue = [⟨.lane l .fault (.trip .thermal) 1, false⟩, ⟨.lane l .off .reset 1, false⟩] ∧
        t.arm.outbound = [⟨0, .response, tag, [0x18, 0, octet s.notices.queue.length]⟩] ∧ t.alertAsserted = true)

/-! ## Framing and the arm link -/

/-- Bit insertion leaves no run of seven 1s, adds at most one bit for six, and is undone by the receiver; and a frame sent with its CRC is valid at the end
checks of either line, whatever octets it carries within the line's limits. -/
def Obligations.SentFrameIsValid : Prop :=
  (∀ bits : List Bool, removeBits (insertBits bits) = bits ∧ lineLegal 0 (insertBits bits) = true ∧
    (insertBits bits).length ≤ bits.length + bits.length / 6) ∧
  ∀ body : List Octet,
    (4 ≤ body.length → body.length ≤ 68 → checkContent armMin armMax (stuffedContent body) = .valid body) ∧
    (2 ≤ body.length → body.length ≤ 66 → checkContent busMin busMax (stuffedContent body) = .valid body)

/-- The receiver, hunting on an idle line, reads any run of frames sent back to back: for each an opening delimiter and an end at its tail bit
with the line bits between its delimiters; and it hunts again. -/
def Obligations.ReceiverReadsSentFrames : Prop :=
  ∀ bodies : List (List Octet), (∀ b ∈ bodies, b.length ≤ 68) →
    receiveLine armMax (.hunt none) (bodies.flatMap frameBits) =
      (.hunt none, bodies.flatMap (fun b => [.opened, .ended (stuffedContent b)]))

/-- The arm-link receiver, transmitter and link timer. An opening delimiter, a break, an over-long content and the end of DISCARD, with their counts; a frame that
fails an end check is counted in its class, and nothing else happens. The idle transmitter takes the oldest frame, which frees its place, and sends its
line bits: destination name 0, source name, kind code, tag and payload, framed; a busy one waits, and a tail bit makes it idle again. The link timer that runs
out takes the link DOWN: the outbound queue and both forward queues are emptied without counts or REFUSALs, and the sequencer is told to stop; an expiry
that a valid frame has overtaken does nothing. Where the manual leaves a detail to the model, the model follows assumption logs 3 and 5. -/
def Obligations.ArmLinkEvents : Prop :=
  ∀ (s : State) (n : Nat) (bits : List Bool), s.resetAsserted = false →
    let framing : LinkCounters := { s.arm.counters with framingErrors := addSat s.arm.counters.framingErrors }
    (s.arm.rx = .hunt → exec .openingDelimiter s = .next { s with arm := { s.arm with rx := .frame } }) ∧
    (s.arm.rx = .frame →
      exec .frameLong s = .next { s with arm := { s.arm with rx := .discard, counters := framing } } ∧
      (8 ≤ n → exec (.frameBreak n) s = .next { s with arm := { s.arm with rx := .hunt, counters := framing } }) ∧
      (n < 8 → exec (.frameBreak n) s = .next { s with arm := { s.arm with rx := .hunt } }) ∧
      (checkContent armMin armMax bits = .corrupt → exec (.armFrameReceived bits) s = .next { s with arm := { s.arm with
        rx := .hunt, counters := { s.arm.counters with corrupt := addSat s.arm.counters.corrupt } } }) ∧
      (checkContent armMin armMax bits = .misaligned ∨ checkContent armMin armMax bits = .short →
        exec (.armFrameReceived bits) s = .next { s with arm := { s.arm with rx := .hunt, counters := framing } })) ∧
    (s.arm.rx = .discard → exec .discardEnd s = .next { s with arm := { s.arm with rx := .hunt } }) ∧
    (∀ f rest, s.arm.tx = none → s.arm.outbound = f :: rest →
      let kind : Octet := match f.kind with
        | .request => 0x01
        | .data => 0x02
        | .cycle => 0x03
        | .response => 0x81
        | .reply => 0x82
        | .refusal => 0x83
        | .report => 0x84
      exec .transmitStart s = .next { s with arm := { s.arm with
        tx := some (frameBits (0 :: f.source :: kind :: f.tag :: f.payload)), outbound := rest } }) ∧
    (s.arm.tx.isSome = true ∨ s.arm.outbound = [] → exec .transmitStart s = .next s) ∧
    exec .transmitTailBit s = .next { s with arm := { s.arm with tx := none } } ∧
    (∀ m, s.arm.linkUp = true → s.arm.linkTimer = some m →
      (m ≤ s.now → exec .linkTimerExpiry s = .next { s with
        arm := { s.arm with linkUp := false, linkTimer := none, outbound := [] }
        laneA := { s.laneA with forward := [] }
        laneB := { s.laneB with forward := [] }
        seq := match s.seq.state with
          | .stopped => s.seq
          | .armed => { s.seq with state := .stopped, timer := none }
          | .running => { s.seq with stopPending := true } }) ∧
      (s.now < m → exec .linkTimerExpiry s = .next s))

/-- A valid frame is counted, sets the link UP and restarts its timer before it is dispatched. A REQUEST to name 0 waits in the request queue with its tag and
payload, or at a full queue is counted as inbound overflow; a REQUEST or CYCLE frame to a name other than 0 is answered with a REFUSAL of reason
BAD_KIND from that name with its tag, which a full outbound queue drops; a CYCLE frame to name 0 does nothing while the source is PERIOD or the
sequencer STOPPED, is a missed trigger with its CYCLE_OVERRUN notice in RUNNING, and in ARMED starts a cycle (whose course is CycleCourse): with no list entry in
use it ends at once with a REPORT of twelve UNUSED positions; DATA to name 0, a kind the part sends and a code that is no kind are counted as misdirected. -/
def Obligations.ArrivingFrames : Prop :=
  ∀ (s : State) (dest src kind tag : Octet) (payload : List Octet),
    s.resetAsserted = false → s.arm.rx = .frame → payload.length ≤ 64 →
    let up : ArmLink := { s.arm with
      rx := .hunt, linkUp := true, linkTimer := some (s.now + 100),
      counters := { s.arm.counters with framesGood := addSat s.arm.counters.framesGood } }
    let frame := stuffedContent (dest :: src :: kind :: tag :: payload)
    (dest = 0 → kind = 0x01 →
      (s.arm.requests.length < 4 →
        exec (.armFrameReceived frame) s = .next { s with arm := { up with requests := s.arm.requests ++ [⟨tag, payload⟩] } }) ∧
      (4 ≤ s.arm.requests.length →
        exec (.armFrameReceived frame) s = .next { s with arm := { up with
          counters := { up.counters with inboundOverflow := addSat s.arm.counters.inboundOverflow } } })) ∧
    (dest ≠ 0 → kind = 0x01 ∨ kind = 0x03 →
      (s.arm.outbound.length < 24 →
        exec (.armFrameReceived frame) s = .next { s with arm := { up with
          outbound := s.arm.outbound ++ [⟨dest, .refusal, tag, [8]⟩] } }) ∧
      (24 ≤ s.arm.outbound.length →
        exec (.armFrameReceived frame) s = .next { s with arm := { up with
          counters := { up.counters with outboundDrops := addSat s.arm.counters.outboundDrops } } })) ∧
    (dest = 0 → kind = 0x03 → s.seq.source = .period ∨ s.seq.state = .stopped →
      exec (.armFrameReceived frame) s = .next { s with arm := up }) ∧
    (dest = 0 → kind = 0x03 → s.seq.source = .frame →
      (s.seq.state = .running → exec (.armFrameReceived frame) s = .next (notify (.cycleOverrun .frame (min 255 (s.seq.missed + 1)))
        { s with arm := up, seq := { s.seq with missed := min 255 (s.seq.missed + 1) } })) ∧
      (s.seq.state = .armed → ∃ t, exec (.armFrameReceived frame) s = .next t ∧ t.seq.cycleNumber = s.seq.cycleNumber + 1 ∧
        t.arm.linkUp = true ∧ t.arm.linkTimer = some (s.now + 100) ∧ t.arm.requests = s.arm.requests ∧
        ((∀ i, s.seq.entry i = none) → s.seq.stopPending = false → s.arm.outbound.length < 24 →
          t = { s with
            seq := { s.seq with cycleNumber := s.seq.cycleNumber + 1, missed := 0, run := none }
            arm := { up with outbound := s.arm.outbound ++ [⟨0, .report, 0,
              [octet ((s.seq.cycleNumber + 1).toNat / 256), octet (s.seq.cycleNumber + 1).toNat, octet s.seq.missed] ++
                List.replicate 60 0⟩] } }))) ∧
    ((kind = 0x02 ∧ dest = 0) ∨ (kind ≠ 0x01 ∧ kind ≠ 0x02 ∧ kind ≠ 0x03) →
      exec (.armFrameReceived frame) s = .next { s with arm := { up with
        counters := { up.counters with misdirected := addSat s.arm.counters.misdirected } } })

/-- DATA to a name of 1..254: no holder, a holder in PROVING or LOST, a census on its lane, a full forward queue each give their REFUSAL; else the
record waits in the forward queue of the holder's lane, with the slot and fingerprint it was sent for. DATA to name 255: a lane qualifies when it is LIVE, runs
no census and holds a LIVE or SUSPECT entry; with no qualifying lane the frame is refused NOT_READY from name 255, else every qualifying lane with room
queues the record, and a full or a not qualifying lane is passed over. -/
def Obligations.DataToADevice : Prop :=
  ∀ (s : State) (dest src tag : Octet) (payload : List Octet),
    s.resetAsserted = false → s.arm.rx = .frame → payload.length ≤ 64 → dest ≠ 0 → s.arm.outbound.length < 24 →
    let up : ArmLink := { s.arm with
      rx := .hunt, linkUp := true, linkTimer := some (s.now + 100),
      counters := { s.arm.counters with framesGood := addSat s.arm.counters.framesGood } }
    let frame := stuffedContent (dest :: src :: 0x02 :: tag :: payload)
    let refused (why : Octet) : State := { s with arm := { up with outbound := s.arm.outbound ++ [⟨dest, .refusal, tag, [why]⟩] } }
    let queued (l : Lane) (r : ForwardRecord) : State :=
      State.setLane { s with arm := up } l { s.lane l with forward := (s.lane l).forward ++ [r] }
    let qualifies (l : Lane) : Prop := (s.lane l).power.state = .live ∧ (s.lane l).census.run = .idle ∧
      ∃ slot e, s.entry slot = some e ∧ e.lane = l ∧ (e.state = .live ∨ e.state = .suspect)
    (dest ≠ 255 → s.entryNamed dest.toNat = none → exec (.armFrameReceived frame) s = .next (refused 1)) ∧
    (dest ≠ 255 → ∀ slot e, s.entryNamed dest.toNat = some (slot, e) →
      (e.state = .proving ∨ e.state = .lost → exec (.armFrameReceived frame) s = .next (refused 2)) ∧
      (e.state ≠ .proving → e.state ≠ .lost →
        ((s.lane e.lane).census.run ≠ .idle → exec (.armFrameReceived frame) s = .next (refused 3)) ∧
        ((s.lane e.lane).census.run = .idle →
          (6 ≤ (s.lane e.lane).forward.length → exec (.armFrameReceived frame) s = .next (refused 4)) ∧
          ((s.lane e.lane).forward.length < 6 →
            exec (.armFrameReceived frame) s = .next (queued e.lane (.entry slot e.fp dest.toNat tag payload)))))) ∧
    (dest = 255 → (∀ l, ¬ qualifies l) → exec (.armFrameReceived frame) s = .next (refused 2)) ∧
    (dest = 255 → (∃ l, qualifies l) → ∃ t, exec (.armFrameReceived frame) s = .next t ∧
      t = { s with arm := up, laneA := t.laneA, laneB := t.laneB } ∧
      ∀ l, (qualifies l → (s.lane l).forward.length < 6 →
          t.lane l = { s.lane l with forward := (s.lane l).forward ++ [.broadcast tag payload] }) ∧
        (¬ qualifies l ∨ 6 ≤ (s.lane l).forward.length → t.lane l = s.lane l))

/-- What a producer of notices and frames does to the queues: a notice that fails the masks leaves no trace, one that passes is added at the back, or at a
full queue takes the newest one's place with the overwritten mark; the masks test its kind, and for a DEVICE or COMPLETE notice its detail or direction.
A frame offered is placed at the back while the link is UP and there is room, and else dropped and counted. -/
def Obligations.NoticesAndOffers : Prop :=
  ∀ (n : Notice) (f : ArmFrame) (s : State),
    let q := s.notices.queue
    let m := s.notices.masks
    (m.passes n = false → notify n s = s) ∧
    (m.passes n = true → q.length < 16 → notify n s = { s with notices := { s.notices with queue := q ++ [⟨n, false⟩] } }) ∧
    (m.passes n = true → 16 ≤ q.length → notify n s = { s with notices := { s.notices with queue := q.dropLast ++ [⟨n, true⟩] } }) ∧
    (∀ l st c k, m.passes (.lane l st c k) = m.kinds.getLsbD 7) ∧
    (∀ l o d k, m.passes (.census l o d k) = m.kinds.getLsbD 6) ∧
    (∀ l name fp d c k, m.passes (.device l name fp d c k) = (m.kinds.getLsbD 5 && m.device.getLsbD (match d with
      | .proving => 7
      | .live => 6
      | .suspect => 5
      | .lost => 4
      | .held => 3
      | .departed => 2))) ∧
    (∀ l name fp p r, m.passes (.named l name fp p r) = m.kinds.getLsbD 4) ∧
    (∀ l fp x k, m.passes (.duplicate l fp x k) = m.kinds.getLsbD 3) ∧
    (∀ l fp x k, m.passes (.assignFail l fp x k) = m.kinds.getLsbD 2) ∧
    (∀ l rise k, m.passes (.complete l rise k) = (m.kinds.getLsbD 1 && m.directions.getLsbD (if rise then 7 else 6))) ∧
    (∀ src k, m.passes (.cycleOverrun src k) = m.kinds.getLsbD 0) ∧
    (s.arm.linkUp = true → s.arm.outbound.length < 24 → offer f s = { s with arm := { s.arm with outbound := s.arm.outbound ++ [f] } }) ∧
    (s.arm.linkUp = false ∨ 24 ≤ s.arm.outbound.length → offer f s = { s with arm := { s.arm with
      counters := { s.arm.counters with outboundDrops := addSat s.arm.counters.outboundDrops } } })

/-! ## Management requests -/

/-- Every request but RESET PART is answered at the place reserved when it was taken: the frames that waited stand before its RESPONSE, which
carries its tag, its code and the notices waiting after the action, and every frame that the action offers stands behind it. A refused request
changes nothing, and its RESPONSE carries the header alone. While the outbound queue is full the request waits. While the link is DOWN the action is carried out
all the same, here shown for one request of each block, and the RESPONSE is dropped and counted. Where the manual leaves a detail to the model, the model
follows assumption log 6. -/
def Obligations.ResponseStandsAtItsPlace : Prop :=
  (∀ (c : Instr) (row : RequestRow) (s : State) (tag : Octet) (payload : List Octet) (rest : List Request),
    s.Asked tag payload rest → requestRow c = some row → rowOf payload = row →
    (row ≠ .resetPart → ∃ t status data behind, exec c s = .next t ∧ t.arm.requests = rest ∧
      t.arm.outbound = s.arm.outbound ++
        ⟨0, .response, tag, payload.headD 0 :: octet (Status.code status) :: octet t.notices.queue.length :: data⟩ :: behind) ∧
    (∀ (t : State) (f : ArmFrame) (code : Octet), exec c s = .next t →
      t.arm.outbound[s.arm.outbound.length]? = some f → f.payload[1]? = some code → code ≠ 0 → code ≠ 1 →
      ∃ status : Status, code = octet status.code ∧ t = s.answered rest tag (payload.headD 0) status [])) ∧
  (∀ (c : Instr) (s : State), 24 ≤ s.arm.outbound.length → (requestRow c).isSome = true → exec c s = .next s) ∧
  (∀ (s : State) (tag : Octet) (payload : List Octet) (rest : List Request), s.resetAsserted = false → s.arm.linkUp = false →
    s.arm.outbound = [] → s.arm.requests = ⟨tag, payload⟩ :: rest →
    let dropped : ArmLink := { s.arm with
      requests := rest, counters := { s.arm.counters with outboundDrops := addSat s.arm.counters.outboundDrops } }
    (∀ c row, requestRow c = some row → rowOf payload = row → ∃ t, exec c s = .next t ∧ t.arm.outbound = [] ∧ t.arm.linkUp = false ∧
      (row ≠ .resetPart → t.arm.requests = rest ∧ 1 ≤ t.arm.counters.outboundDrops)) ∧
    (∀ i a b c d : Octet, payload = [0x05, i, a, b, c, d] → i.toNat ≤ 3 → exec .writeProfile s = .next { s with
      arm := dropped
      profiles := s.profiles.set i.toNat ⟨min 5 a.toNat, min 31 (max 2 b.toNat), max 1 c.toNat, min 3 d.toNat⟩ }) ∧
    (∀ l : Lane, payload = [0x03, octet (laneCode l), 1] → (s.lane l).power.state = .off → s.overTemp = false →
      exec .laneControlEnable s = .next (notify (.lane l .waiting .enabled (s.lane l).power.faultCount)
        (State.setLane { s with arm := dropped } l { s.lane l with power := (s.lane l).power.entered .waiting .no s.now }))) ∧
    (∀ m : Octet, payload = [0x15, m] → 1 ≤ m.toNat → m.toNat ≤ 5 → exec .fetchNotices s = .next { s with
      arm := dropped, notices := { s.notices with queue := s.notices.queue.drop m.toNat } }) ∧
    (payload = [0x14, 1] → s.seq.state = .stopped → s.seq.source = .frame →
      exec .cycleControlStart s = .next { s with arm := dropped, seq := { s.seq with state := .armed, timer := none } }) ∧
    (∀ low high : Octet, payload = [0x0E, low, high] → low ≠ 0 → high ≠ 255 → low.toNat ≤ high.toNat →
      (∀ slot e, s.entry slot = some e → e.state ≠ .held) →
      exec .setProvisionalRange s = .next { s with arm := dropped, range := ⟨low.toNat, high.toNat, low.toNat⟩ }) ∧
    (payload = [0x17, 0, 0x80] → exec .readCounters s = .next { s with arm := { s.arm with
      requests := rest, counters := ⟨0, 0, 0, 0, 0, 1⟩ } }))

/-- The wrong forms of the requests: a number of arguments that the code does not take gives BAD_LENGTH; then a lane, action, mode, slot, selector or trigger
source that is none, and a FIND for name 0 or 255, give BAD_ARGUMENT; nothing changes. Where the manual
leaves a detail to the model, the model follows assumption log 6. -/
def Obligations.WrongFormsAreRefused : Prop :=
  ∀ (c : Instr) (row : RequestRow) (s : State) (tag code : Octet) (args : List Octet) (rest : List Request),
    s.Asked tag (code :: args) rest → requestRow c = some row → rowOf (code :: args) = row → row ≠ .unknownRequest →
    let refused (why : Status) : Prop := exec c s = .next (s.answered rest tag code why [])
    let a (i : Nat) : Octet := args.getD i 0
    (acceptsLength code args.length = false → refused .badLength) ∧
    (acceptsLength code args.length = true →
      (code = 0x03 ∨ code = 0x04 ∨ code = 0x07 ∨ code = 0x08 → a 0 ≠ 1 → a 0 ≠ 2 → refused .badArgument) ∧
      (code = 0x03 → 3 < (a 1).toNat → refused .badArgument) ∧
      (code = 0x07 → a 1 ≠ 1 → a 1 ≠ 2 → refused .badArgument) ∧
      (code = 0x09 → 31 < (a 0).toNat → refused .badArgument) ∧
      (code = 0x0A → (a 0 ≠ 1 → a 0 ≠ 2 → refused .badArgument) ∧
        (a 0 = 1 → args.length = 7 → refused .badLength) ∧ (a 0 = 2 → args.length = 2 → refused .badLength) ∧
        (a 0 = 1 → args.length = 2 → a 1 = 0 ∨ a 1 = 255 → refused .badArgument)) ∧
      (code = 0x14 → (2 < (a 0).toNat → refused .badArgument) ∧
        (args.length = 4 → a 1 ≠ 1 → a 1 ≠ 2 → refused .badArgument)))

/-- IDENTIFY gives part, revision, strap code, rate and ceiling, and changes nothing; with arguments it is refused. An empty payload is answered BAD_LENGTH with
code 0, and a code that names no request UNKNOWN_REQUEST with the code as received. Reading lane options
gives the stored values and changes nothing; a lane that is neither is refused. -/
def Obligations.IdentityOptionsAndUnknownRequests : Prop :=
  ∀ (s : State) (tag i : Octet) (rest : List Request),
    (s.Asked tag [0x01] rest →
      exec .identify s = .next (s.answered rest tag 0x01 .ok
        [42, 1, octet s.strap, if s.strap < 4 then 5 else 10, octet (5 * (s.strap % 4 + 1))])) ∧
    (∀ a args, s.Asked tag (0x01 :: a :: args) rest → exec .identify s = .next (s.answered rest tag 0x01 .badLength [])) ∧
    (s.Asked tag [] rest → exec .unknownRequest s = .next (s.answered rest tag 0 .badLength [])) ∧
    (∀ (code : Octet) (args : List Octet), code = 0 ∨ 0x18 < code.toNat → s.Asked tag (code :: args) rest →
      exec .unknownRequest s = .next (s.answered rest tag code .unknownRequest [])) ∧
    (∀ l : Lane, s.Asked tag [0x04, octet (laneCode l)] rest →
      let o := (s.lane l).options
      exec .laneOptionsRead s = .next (s.answered rest tag 0x04 .ok
        [octet (laneCode l), octet ((if o.autoCensus then 128 else 0) + (if o.recallCensus then 64 else 0) + (if o.strictProving then 32 else 0)),
         octet o.passThreshold, octet o.failureLimit, octet (o.silenceInterval / 256), octet o.silenceInterval, octet o.defaultProfile])) ∧
    (s.Asked tag [0x04, i] rest → i ≠ 1 → i ≠ 2 → exec .laneOptionsRead s = .next (s.answered rest tag 0x04 .badArgument []))

/-- READ STATUS gives both lane blocks and the part block, 33 octets, and changes nothing but the model's own count of free values. The measured current is the probe
supply's in WAITING and the main switch's in RAMPING and LIVE, 65535 standing for that many mA or more, and 0 in every other state; a current that is no
whole mA is given as one of its two neighbours, a free value (assumption log 10). -/
def Obligations.ReadStatus : Prop :=
  ∀ (s : State) (tag : Octet) (rest : List Request), s.Asked tag [0x02] rest →
    ∃ data, exec .readStatus s = .next ({ s with choices := s.choices + 2 }.answered rest tag 0x02 .ok data) ∧ data.length = 33 ∧
      (∀ l : Lane, ∀ k, k = (if l = .a then 0 else 10) →
        data[k]? = some (octet (s.lane l).power.state.code) ∧ data[k + 1]? = some (octet (lastFaultCode (s.lane l).power.lastFault)) ∧
        data[k + 2]? = some (octet (s.lane l).power.faultCount) ∧ data[k + 5]? = some (octet (s.lane l).census.run.code) ∧
        data[k + 6]? = some (octet (modeCode (s.lane l).census.mode)) ∧ data[k + 7]? = some (octet (lastOutcomeCode (s.lane l).census.last)) ∧
        data[k + 8]? = some (octet (yesCode (s.lane l).complete)) ∧
        data[k + 9]? = some (octet ((s.roster.filterMap id).countP (fun e => e.lane == l))) ∧
        (let current (microamps : Nat) : Prop := ∃ mA, data[k + 3]? = some (octet (mA / 256)) ∧ data[k + 4]? = some (octet mA) ∧
          (mA = min 65535 (microamps / 1000) ∨ (microamps % 1000 ≠ 0 ∧ mA = min 65535 (microamps / 1000 + 1)))
        ((s.lane l).power.state ∉ [PowerState.waiting, .ramping, .live] → data[k + 3]? = some 0 ∧ data[k + 4]? = some 0) ∧
        ((s.lane l).power.state = .waiting → current (s.lane l).power.probeCurrent) ∧
        ((s.lane l).power.state = .ramping ∨ (s.lane l).power.state = .live → current (s.lane l).power.laneCurrent))) ∧
      data.drop 20 = [octet (32 - (s.roster.filterMap id).length), 1, octet s.range.low, octet s.range.high, octet s.range.cursor, octet s.seq.state.code, octet s.seq.source.code,
        octet (s.seq.period / 256), octet s.seq.period, octet (s.seq.cycleNumber.toNat / 256), octet s.seq.cycleNumber.toNat,
        octet s.seq.missed, octet (yesCode s.seq.stopPending)]

/-- READ ROSTER gives the entry of the slot named, or with NEXT the lowest at or above it, else NO_ENTRY; FIND gives the entry that holds the name or
the fingerprint, else NO_ENTRY. Both change nothing, and the report carries the entry's fields in the 22 octets of a roster record. -/
def Obligations.RosterReads : Prop :=
  ∀ (s : State) (tag : Octet) (rest : List Request), s.roster.length = 32 →
    let record (slot : Nat) (e : Entry) : List Octet :=
      let m := e.mapRef.bind s.mapEntry
      let threshold := (m.bind MapEntry.override).getD (s.lane e.lane).options.passThreshold
      let profile := (m.map MapEntry.profile).getD (s.lane e.lane).options.defaultProfile
      let since := (e.lastGood.map (fun g => min 65535 (s.now - g))).getD 0
      [octet slot, octet e.state.code, octet (laneCode e.lane), octet e.address,
       e.fp.extractLsb' 40 8, e.fp.extractLsb' 32 8, e.fp.extractLsb' 24 8, e.fp.extractLsb' 16 8, e.fp.extractLsb' 8 8, e.fp.extractLsb' 0 8,
       octet (e.name.getD 0), octet ((e.source.map Provenance.code).getD 0), octet (e.mapRef.getD 255), octet ((e.held.map HeldReason.code).getD 0),
       octet e.clean, octet e.fail, octet ((if e.status.isSome then 128 else 0) + (if e.lastGood.isSome then 64 else 0)), e.status.getD 0,
       octet threshold, octet profile, octet (since / 256), octet since]
    (∀ (slot flags : Octet), slot.toNat ≤ 31 → s.Asked tag [0x09, slot, flags] rest →
      (∀ j e, s.entry j = some e → (flags.getLsbD 7 = false → j = slot.toNat) →
        (flags.getLsbD 7 = true → slot.toNat ≤ j ∧ ∀ i, slot.toNat ≤ i → i < j → s.entry i = none) →
        exec .readRoster s = .next (s.answered rest tag 0x09 .ok (record j e))) ∧
      ((flags.getLsbD 7 = false → s.entry slot.toNat = none) → (flags.getLsbD 7 = true → ∀ i, slot.toNat ≤ i → s.entry i = none) →
        exec .readRoster s = .next (s.answered rest tag 0x09 .noEntry []))) ∧
    (∀ (n : Octet), n ≠ 0 → n ≠ 255 → s.Asked tag [0x0A, 1, n] rest →
      (∀ slot e, s.entry slot = some e → e.name = some n.toNat → (∀ j f, s.entry j = some f → f.name = some n.toNat → j = slot) →
        exec .find s = .next (s.answered rest tag 0x0A .ok (record slot e))) ∧
      ((∀ j f, s.entry j = some f → f.name ≠ some n.toNat) → exec .find s = .next (s.answered rest tag 0x0A .noEntry []))) ∧
    (∀ (a b c d e f : Octet), s.Asked tag [0x0A, 2, a, b, c, d, e, f] rest →
      (∀ slot x, s.entry slot = some x → x.fp = fpOf a b c d e f → (∀ j y, s.entry j = some y → y.fp = fpOf a b c d e f → j = slot) →
        exec .find s = .next (s.answered rest tag 0x0A .ok (record slot x))) ∧
      ((∀ j y, s.entry j = some y → y.fp ≠ fpOf a b c d e f) → exec .find s = .next (s.answered rest tag 0x0A .noEntry [])))

/-- WRITE PROFILE clamps the four values, stores them in the profile named, says CLAMPED exactly when a value changed, and changes nothing else: an exchange in
flight keeps its copy. READ PROFILE gives the values stored. An index above 3 refuses both. -/
def Obligations.Profiles : Prop :=
  ∀ (s : State) (tag i a b c d : Octet) (rest : List Request),
    (s.Asked tag [0x05, i, a, b, c, d] rest →
      let p : Profile := ⟨min 5 a.toNat, min 31 (max 2 b.toNat), max 1 c.toNat, min 3 d.toNat⟩
      (i.toNat ≤ 3 → exec .writeProfile s = .next
        ({ s with profiles := s.profiles.set i.toNat p }.answered rest tag 0x05
          (if p = (⟨a.toNat, b.toNat, c.toNat, d.toNat⟩ : Profile) then .ok else .clamped)
          [i, octet p.rate, octet p.guard, octet p.timeout, octet p.retries])) ∧
      (3 < i.toNat → exec .writeProfile s = .next (s.answered rest tag 0x05 .badArgument []))) ∧
    (s.Asked tag [0x06, i] rest →
      (∀ p, s.profiles[i.toNat]? = some p → i.toNat ≤ 3 →
        exec .readProfile s = .next (s.answered rest tag 0x06 .ok
          [i, octet p.rate, octet p.guard, octet p.timeout, octet p.retries])) ∧
      (3 < i.toNat → exec .readProfile s = .next (s.answered rest tag 0x06 .badArgument [])))

/-- LANE OPTIONS stores the seven values, two of them clamped, and acts at once: a PROVING entry of the lane at or above its threshold in use enters
LIVE, a LIVE entry whose silence time has reached the new interval gets its check unless this silence period has given one, a LOST entry its recall echo; no other entry changes. Where the manual
leaves a detail to the model, the model follows assumption log 21. -/
def Obligations.LaneOptionsWrite : Prop :=
  ∀ (s : State) (l : Lane) (tag sw th fl hi lo pr : Octet) (rest : List Request),
    s.Asked tag [0x04, octet (laneCode l), sw, th, fl, hi, lo, pr] rest → s.roster.length = 32 →
    (3 < pr.toNat → exec .laneOptionsWrite s = .next (s.answered rest tag 0x04 .badArgument [])) ∧
    (pr.toNat ≤ 3 → ∃ t, exec .laneOptionsWrite s = .next t ∧
      let o : LaneOptions := ⟨sw.getLsbD 7, sw.getLsbD 6, sw.getLsbD 5, min 15 th.toNat, min 7 (max 1 fl.toNat),
        256 * hi.toNat + lo.toNat, pr.toNat⟩
      (t.lane l).options = o ∧ (t.lane (otherLane l)) = (s.lane (otherLane l)) ∧ (t.lane l).power = (s.lane l).power ∧
      t.nameMap = s.nameMap ∧ t.seq = s.seq ∧ t.profiles = s.profiles ∧
      (∃ data, t.arm.outbound = s.arm.outbound ++ [⟨0, .response, tag, 0x04 ::
        octet (Status.code (if th.toNat ≤ 15 ∧ 1 ≤ fl.toNat ∧ fl.toNat ≤ 7 then .ok else .clamped)) :: data⟩]) ∧
      (∀ slot, s.entry slot = none → t.entry slot = none) ∧
      (∀ slot e, s.entry slot = some e →
        let threshold := ((e.mapRef.bind s.mapEntry).bind MapEntry.override).getD o.passThreshold
        let due (start : Option Nat) : Prop := 0 < o.silenceInterval ∧ ∃ m, start = some m ∧ o.silenceInterval ≤ s.now - m
        (e.lane ≠ l ∨ e.state = .assigning ∨ e.state = .held ∨ e.state = .suspect → t.entry slot = some e) ∧
        (e.lane = l → e.state = .proving → e.clean < threshold → t.entry slot = some e) ∧
        (e.lane = l → e.state = .proving → threshold ≤ e.clean → t.entry slot = some { e with
          state := .live, fail := 0, echo := false, silenceFrom := some s.now, checked := false, recallFrom := none }) ∧
        (e.lane = l → e.state = .live → due e.silenceFrom → e.checked = false → t.entry slot = some { e with echo := true, checked := true }) ∧
        (e.lane = l → e.state = .live → ¬ due e.silenceFrom ∨ e.checked = true → t.entry slot = some e) ∧
        (e.lane = l → e.state = .lost → due e.recallFrom → t.entry slot = some { e with echo := true, recallFrom := some s.now }) ∧
        (e.lane = l → e.state = .lost → ¬ due e.recallFrom → t.entry slot = some e)))

/-- FETCH NOTICES removes and returns up to its maximum of the oldest records, the maximum taken into 1..5; NOTICE MASKS reads the masks or replaces all of them,
positions without meaning reading as 0, leaves the queue, and moves ALERT# with the alert enable at once. A record is twelve octets: mark and kind, lane, name,
fingerprint, detail, cause, count, by kind, with the manual's codes. -/
def Obligations.NoticeRequests : Prop :=
  (∀ (s : State) (tag : Octet) (rest : List Request),
    (∀ m : Octet, s.Asked tag [0x15, m] rest →
      let n := if m = 0 then 1 else if 5 < m.toNat then 5 else m.toNat
      exec .fetchNotices s = .next ({ s with notices := { s.notices with queue := s.notices.queue.drop n } }.answered rest tag 0x15
        (if n = m.toNat then .ok else .clamped)
        (octet (min n s.notices.queue.length) :: (s.notices.queue.take n).flatMap NoticeRecord.octets))) ∧
    (s.Asked tag [0x16] rest → exec .noticeMasksRead s = .next (s.answered rest tag 0x16 .ok
      [s.notices.masks.kinds, s.notices.masks.device, s.notices.masks.directions, s.notices.masks.alert])) ∧
    (∀ k d c a : Octet, s.Asked tag [0x16, k, d, c, a] rest →
      let m : Masks := ⟨k, d &&& 0xFC, c &&& 0xC0, a &&& 0x80⟩
      let t := { s with notices := { s.notices with masks := m } }.answered rest tag 0x16 .ok [m.kinds, m.device, m.directions, m.alert]
      exec .noticeMasksWrite s = .next t ∧ t.alertAsserted = (a.getLsbD 7 && !s.notices.queue.isEmpty))) ∧
  (∀ (mark : Bool) (l : Lane) (fp : Fingerprint) (name : Option Nat) (n k : Nat),
    let kind (x : Nat) : Octet := octet (if mark then 128 + x else x)
    let lane : Octet := if l = .a then 1 else 2
    let print : List Octet :=
      [fp.extractLsb' 40 8, fp.extractLsb' 32 8, fp.extractLsb' 24 8, fp.extractLsb' 16 8, fp.extractLsb' 8 8, fp.extractLsb' 0 8]
    (∀ (st : PowerState) (c : LaneCause), NoticeRecord.octets ⟨.lane l st c n, mark⟩ =
      [kind 1, lane, 0, 0, 0, 0, 0, 0, 0, octet st.code, octet c.code, octet n]) ∧
    (∀ o : CensusOutcome, NoticeRecord.octets ⟨.census l o k n, mark⟩ =
      [kind 2, lane, 0, 0, 0, 0, 0, 0, 0, octet o.code, octet k, octet n]) ∧
    (∀ (d : DeviceDetail) (c : DeviceCause), NoticeRecord.octets ⟨.device l name fp d c n, mark⟩ =
      kind 3 :: lane :: octet (name.getD 0) :: print ++ [octet d.code, octet c.code, octet n]) ∧
    (∀ (p : Provenance) (ref : Option Nat), NoticeRecord.octets ⟨.named l k fp p ref, mark⟩ =
      kind 4 :: lane :: octet k :: print ++ [octet p.code, 0, octet (ref.getD 255)]) ∧
    (∀ cross : Bool, NoticeRecord.octets ⟨.duplicate l fp cross n, mark⟩ =
      kind 5 :: lane :: 0 :: print ++ [if cross then 2 else 1, 0, octet n]) ∧
    (∀ corrupt : Bool, NoticeRecord.octets ⟨.assignFail l fp corrupt n, mark⟩ =
      kind 6 :: lane :: 0 :: print ++ [if corrupt then 2 else 1, 0, octet n]) ∧
    (∀ rise : Bool, NoticeRecord.octets ⟨.complete l rise n, mark⟩ =
      [kind 7, lane, 0, 0, 0, 0, 0, 0, 0, if rise then 1 else 2, 0, octet n]) ∧
    (∀ t : Trigger, NoticeRecord.octets ⟨.cycleOverrun t n, mark⟩ =
      [kind 8, 0, 0, 0, 0, 0, 0, 0, 0, if t = .frame then 1 else 2, 0, octet n])) ∧
  [PowerState.off, .waiting, .ramping, .live, .discharging, .fault, .latched].map PowerState.code = List.range 7 ∧
  [LaneCause.enabled, .discharged, .cooled, .cleared, .coupled, .ramped, .unlocked, .removed, .disabled, .reset, .trip .ramp,
    .trip .overcurrent, .trip .short, .trip .backfeed, .trip .thermal].map LaneCause.code = List.range' 1 15 ∧
  [CensusOutcome.done, .incomplete, .full, .stopped, .laneDown].map CensusOutcome.code = List.range' 1 5 ∧
  [DeviceDetail.held, .proving, .live, .suspect, .lost, .departed].map DeviceDetail.code = List.range' 2 6 ∧
  [DeviceCause.nameClash, .noName, .new, .moved, .named, .rejoined, .recalled, .reprove, .proven, .threshold, .recovered, .noReply, .corrupt,
    .rejoinFailed, .laneDown, .recensus, .assignFailed, .released].map DeviceCause.code = List.range' 1 18 ∧
  [Provenance.mapExact, .mapModel, .provisional, .request].map Provenance.code = List.range' 1 4

/-- READ COUNTERS gives every counter of the group named as it stood, and the clear mark sets that group, and no other, to 0. -/
def Obligations.ReadCounters : Prop :=
  ∀ (s : State) (tag flags : Octet) (rest : List Request),
    let two (n : Nat) : List Octet := [octet (n / 256), octet n]
    (s.Asked tag [0x17, 0, flags] rest →
      let c := s.arm.counters
      let cleared : LinkCounters := if flags.getLsbD 7 then ⟨0, 0, 0, 0, 0, 0⟩ else c
      exec .readCounters s = .next ({ s with arm := { s.arm with counters := cleared } }.answered rest tag 0x17 .ok
        (0 :: (two c.framesGood ++ two c.corrupt ++ two c.framingErrors ++ two c.inboundOverflow ++ two c.misdirected ++
          two c.outboundDrops)))) ∧
    (∀ l : Lane, s.Asked tag [0x17, octet (laneCode l), flags] rest →
      let c := (s.lane l).counters
      let cleared : LaneCounters := if flags.getLsbD 7 then ⟨0, 0, 0, 0, 0, 0, 0⟩ else c
      exec .readCounters s = .next ((s.setLane l { s.lane l with counters := cleared }).answered rest tag 0x17 .ok
        (octet (laneCode l) :: (two c.started ++ two c.ok ++ two c.noReply ++ two c.corrupt ++ two c.probesSent ++ two c.collided ++
          two c.duplicates)))) ∧
    (∀ g : Octet, 2 < g.toNat → s.Asked tag [0x17, g, flags] rest →
      exec .readCounters s = .next (s.answered rest tag 0x17 .badArgument []))

/-- The cycle list is written and cleared in STOPPED alone, an index above 11 or a name of 0 or 255 refused first and a payload above 8 octets before
that; a write or a clear removes the store. A read is accepted in every state and changes nothing: index, in-use mark, name, payload length, payload, store mark, store length,
data, fingerprint, 24 octets in all. The payload length of an entry not in use and the store length of an absent store are read as 0, which is the model's choice (assumption
log 35). -/
def Obligations.CycleList : Prop :=
  ∀ (s : State) (tag i n : Octet) (payload : List Octet) (rest : List Request),
    (s.Asked tag (0x11 :: i :: n :: payload) rest →
      (8 < payload.length → exec .cycleListWrite s = .next (s.answered rest tag 0x11 .badLength [])) ∧
      (payload.length ≤ 8 → 11 < i.toNat ∨ n = 0 ∨ n = 255 → exec .cycleListWrite s = .next (s.answered rest tag 0x11 .badArgument [])) ∧
      (payload.length ≤ 8 → i.toNat ≤ 11 → n ≠ 0 → n ≠ 255 →
        (s.seq.state ≠ .stopped → exec .cycleListWrite s = .next (s.answered rest tag 0x11 .busy [])) ∧
        (s.seq.state = .stopped → exec .cycleListWrite s = .next
          ({ s with seq := { s.seq with list := s.seq.list.set i.toNat (some ⟨n.toNat, payload, none⟩) } }.answered rest tag 0x11 .ok
            [i, n, octet payload.length])))) ∧
    (s.Asked tag [0x12, i] rest →
      (11 < i.toNat → i ≠ 255 → exec .cycleListClear s = .next (s.answered rest tag 0x12 .badArgument [])) ∧
      (i.toNat ≤ 11 ∨ i = 255 → s.seq.state ≠ .stopped → exec .cycleListClear s = .next (s.answered rest tag 0x12 .busy [])) ∧
      (i.toNat ≤ 11 → s.seq.state = .stopped → exec .cycleListClear s = .next
        ({ s with seq := { s.seq with list := s.seq.list.set i.toNat none } }.answered rest tag 0x12 .ok [i])) ∧
      (i = 255 → s.seq.state = .stopped → exec .cycleListClear s = .next
        ({ s with seq := { s.seq with list := s.seq.list.map (fun _ => none) } }.answered rest tag 0x12 .ok [i]))) ∧
    (s.Asked tag [0x13, i] rest →
      (11 < i.toNat → exec .cycleListRead s = .next (s.answered rest tag 0x13 .badArgument [])) ∧
      (i.toNat ≤ 11 → s.seq.entry i.toNat = none →
        exec .cycleListRead s = .next (s.answered rest tag 0x13 .ok (i :: List.replicate 23 0))) ∧
      (∀ c, i.toNat ≤ 11 → s.seq.entry i.toNat = some c → c.payload.length ≤ 8 → c.store = none →
        exec .cycleListRead s = .next (s.answered rest tag 0x13 .ok (i :: 1 :: octet c.name :: octet c.payload.length ::
          c.payload ++ List.replicate (8 - c.payload.length + 12) 0))) ∧
      (∀ c st, i.toNat ≤ 11 → s.seq.entry i.toNat = some c → c.payload.length ≤ 8 → c.store = some st → st.data.length ≤ 4 →
        exec .cycleListRead s = .next (s.answered rest tag 0x13 .ok (i :: 1 :: octet c.name :: octet c.payload.length ::
          c.payload ++ List.replicate (8 - c.payload.length) 0 ++ 1 :: octet st.data.length :: st.data ++
          List.replicate (4 - st.data.length) 0 ++ fpOctets st.fp))))

/-- CYCLE CONTROL applies a source and a period first, the period clamped into 1..1000, and then its action: START arms a STOPPED sequencer, STOP stops
an ARMED one and marks a RUNNING one, NONE does nothing; the period timer starts from zero as the source, the state and the writes say. -/
def Obligations.CycleControl : Prop :=
  ∀ (s : State) (tag : Octet) (rest : List Request),
    let timer (q : Sequencer) : Option Nat := if q.source = .period ∧ q.state ≠ .stopped then some (s.now + q.period) else none
    let set (t : Trigger) (p : Nat) (q : Sequencer) : Sequencer :=
      { q with source := t, period := p, timer := timer { q with source := t, period := p } }
    let start (q : Sequencer) : Sequencer :=
      if q.state = .stopped then { q with state := .armed, timer := timer { q with state := .armed } } else q
    let stop (q : Sequencer) : Sequencer :=
      if q.state = .armed then { q with state := .stopped, timer := none }
      else if q.state = .running then { q with stopPending := true } else q
    let report (q : Sequencer) : List Octet := [octet q.state.code, octet q.source.code, octet (q.period / 256), octet q.period]
    let result (q : Sequencer) (st : Status) : State := { s with seq := q }.answered rest tag 0x14 st (report q)
    (s.Asked tag [0x14, 0] rest → exec .cycleControlNone s = .next (result s.seq .ok)) ∧
    (s.Asked tag [0x14, 1] rest → exec .cycleControlStart s = .next (result (start s.seq) .ok)) ∧
    (s.Asked tag [0x14, 2] rest → exec .cycleControlStop s = .next (result (stop s.seq) .ok)) ∧
    (∀ (t : Trigger) (hi lo : Octet),
      let asked := 256 * hi.toNat + lo.toNat
      let p := min 1000 (max 1 asked)
      let st : Status := if p = asked then .ok else .clamped
      (s.Asked tag [0x14, 0, octet t.code, hi, lo] rest → exec .cycleControlNone s = .next (result (set t p s.seq) st)) ∧
      (s.Asked tag [0x14, 1, octet t.code, hi, lo] rest → exec .cycleControlStart s = .next (result (start (set t p s.seq)) st)) ∧
      (s.Asked tag [0x14, 2, octet t.code, hi, lo] rest → exec .cycleControlStop s = .next (result (stop (set t p s.seq)) st)))

/-- Every entry to a power state sets the state and the pending disable, opens or closes the switch, keeps limit, count, last cause and the sensed inputs,
and stops every timer that the manual does not list for the state. Of those it lists, ramp, stability, discharge and cooldown start; the qualify and removal
timers start when their condition holds then; the overcurrent mask runs on in RAMPING and LIVE; the back-feed mask runs on in WAITING, RAMPING and LIVE while the
voltage is above, and starts when it does not run yet. Starting at the entry and running on are the model's reading (assumption log 14). -/
def Obligations.EntryToAPowerState : Prop :=
  ∀ (p : Power) (st : PowerState) (dp : DisablePending) (now : Nat),
    let q := p.entered st dp now
    q.state = st ∧ q.disablePending = dp ∧ q.limit = p.limit ∧ q.faultCount = p.faultCount ∧ q.lastFault = p.lastFault ∧
      q.lock = p.lock ∧ q.probeCurrent = p.probeCurrent ∧ q.overSupply = p.overSupply ∧
      q.laneCurrent = (if st = .ramping ∨ st = .live then p.laneCurrent else 0) ∧ q.timers.InPlace st ∧
      (st = .waiting → q.timers.qualify = if p.lock = true ∧ 5000 < p.probeCurrent then some (now + 30) else none) ∧
      (st = .ramping → q.timers.ramp = some (now + 20)) ∧ (st = .live → q.timers.stability = some (now + 1000)) ∧
      (st = .discharging → q.timers.discharge = some (now + 50)) ∧ (st = .fault → q.timers.cooldown = some (now + 500)) ∧
      (st = .live → q.timers.removal = if p.laneCurrent < 2000 then some (now + 100) else none) ∧
      (st = .ramping ∨ st = .live → q.timers.overcurrent = p.timers.overcurrent) ∧
      (st = .waiting ∨ st = .ramping ∨ st = .live →
        q.timers.backfeed = if p.overSupply then some (p.timers.backfeed.getD (now + 1)) else none)

/-- ENABLE moves a lane in OFF to WAITING with cause ENABLED, or while the over-temperature flag is set to FAULT with cause THERMAL; in any other state it
changes nothing, a pending disable included. -/
def Obligations.LaneControlEnable : Prop :=
  ∀ (s : State) (l : Lane) (tag : Octet) (rest : List Request),
    s.Asked tag [0x03, octet (laneCode l), 1] rest →
    let p := (s.lane l).power
    let report (q : Power) : List Octet :=
      [octet (laneCode l), octet q.state.code, octet (lastFaultCode q.lastFault), octet q.faultCount, octet q.limit]
    (p.state = .off → s.overTemp = false →
      let q := p.entered .waiting .no s.now
      let t := (notify (.lane l .waiting .enabled p.faultCount) (s.setLane l { s.lane l with power := q })).answered rest tag 0x03 .ok (report q)
      exec .laneControlEnable s = .next t ∧ t.probeSupplyOn l = true) ∧
    (p.state = .off → s.overTemp = true → p.faultCount < 2 →
      let q := { p with faultCount := p.faultCount + 1, lastFault := some .thermal }.entered .fault .no s.now
      exec .laneControlEnable s = .next
        ((notify (.lane l .fault (.trip .thermal) (p.faultCount + 1)) (s.setLane l { s.lane l with power := q })).answered rest tag 0x03 .ok
          (report q))) ∧
    (p.state = .off → s.overTemp = true → 2 ≤ p.faultCount →
      let q := { p with faultCount := 3, lastFault := some .thermal }.entered .latched .no s.now
      exec .laneControlEnable s = .next
        ((notify (.lane l .latched (.trip .thermal) 3) (s.setLane l { s.lane l with power := q })).answered rest tag 0x03 .ok (report q))) ∧
    (p.state ≠ .off → exec .laneControlEnable s = .next (s.answered rest tag 0x03 .ok (report p)))

/-- DISABLE by the state it meets: OFF unchanged; WAITING, FAULT and LATCHED to OFF; RAMPING and LIVE to DISCHARGING with the disable pending; in DISCHARGING
it marks the pending disable unless a reset is pending. A LIVE lane loses its entries, its run, its exchange and its queues; the other lane keeps its entries (but for
HELD ones, which are resolved again), its run, exchange, queues, counters, options and power. Where the manual leaves a detail to the model, the model follows
assumption log 20. -/
def Obligations.LaneControlDisable : Prop :=
  ∀ (s : State) (l : Lane) (tag : Octet) (rest : List Request),
    s.Asked tag [0x03, octet (laneCode l), 2] rest →
    let p := (s.lane l).power
    let report (q : Power) : List Octet :=
      [octet (laneCode l), octet q.state.code, octet (lastFaultCode q.lastFault), octet q.faultCount, octet q.limit]
    (p.state = .off → exec .laneControlDisable s = .next (s.answered rest tag 0x03 .ok (report p))) ∧
    (p.state = .waiting ∨ p.state = .fault ∨ p.state = .latched →
      let q := p.entered .off .no s.now
      exec .laneControlDisable s = .next
        ((notify (.lane l .off .disabled p.faultCount) (s.setLane l { s.lane l with power := q })).answered rest tag 0x03 .ok (report q))) ∧
    (p.state = .ramping →
      let q := p.entered .discharging .disable s.now
      exec .laneControlDisable s = .next
        ((notify (.lane l .discharging .disabled p.faultCount) (s.setLane l { s.lane l with power := q })).answered rest tag 0x03 .ok (report q))) ∧
    (p.state = .discharging →
      let q := { p with disablePending := if p.disablePending = .reset then .reset else .disable }
      exec .laneControlDisable s = .next ((s.setLane l { s.lane l with power := q }).answered rest tag 0x03 .ok (report q))) ∧
    (p.state = .live → s.roster.length = 32 → ∃ t, exec .laneControlDisable s = .next t ∧
      (t.lane l).power = p.entered .discharging .disable s.now ∧
      { t.lane (otherLane l) with complete := true } = { s.lane (otherLane l) with complete := true } ∧
      (t.lane l).exch = none ∧ (t.lane l).census.run = .idle ∧ (t.lane l).forward = [] ∧ (t.lane l).unaddress = [] ∧
      (∀ slot e, t.entry slot = some e → e.lane ≠ l) ∧
      (∀ slot e, s.entry slot = some e → e.lane ≠ l → e.state ≠ .held → t.entry slot = some e) ∧
      (t.lane l).options = (s.lane l).options ∧ t.profiles = s.profiles ∧ t.nameMap = s.nameMap)

/-- CLEAR_LATCH moves a lane in LATCHED to WAITING with cause CLEARED and fault count 0, the last cause kept, or while the flag is set to FAULT THERMAL with
count 1; in any other state it changes nothing. -/
def Obligations.LaneControlClearLatch : Prop :=
  ∀ (s : State) (l : Lane) (tag : Octet) (rest : List Request),
    s.Asked tag [0x03, octet (laneCode l), 3] rest →
    let p := (s.lane l).power
    let report (q : Power) : List Octet :=
      [octet (laneCode l), octet q.state.code, octet (lastFaultCode q.lastFault), octet q.faultCount, octet q.limit]
    (p.state = .latched → s.overTemp = false →
      let q := { p with faultCount := 0 }.entered .waiting .no s.now
      let t := (notify (.lane l .waiting .cleared 0) (s.setLane l { s.lane l with power := q })).answered rest tag 0x03 .ok (report q)
      exec .laneControlClearLatch s = .next t ∧ t.probeSupplyOn l = true) ∧
    (p.state = .latched → s.overTemp = true →
      let q := { p with faultCount := 1, lastFault := some .thermal }.entered .fault .no s.now
      exec .laneControlClearLatch s = .next
        ((notify (.lane l .fault (.trip .thermal) 1) (s.setLane l { s.lane l with power := q })).answered rest tag 0x03 .ok (report q))) ∧
    (p.state ≠ .latched → exec .laneControlClearLatch s = .next (s.answered rest tag 0x03 .ok (report p)))

/-- A requested limit is clamped into 0.1 A to the ceiling and applied in whatever state the lane is, CLAMPED when it differs; in RAMPING and LIVE the
comparisons move at once: a short faults the lane, the overcurrent mask starts, runs on or is forgotten. With an action the limit
applies first. Without a limit NONE reads the lane alone. Where the manual
leaves a detail to the model, the model follows assumption log 26. -/
def Obligations.RequestedLimit : Prop :=
  ∀ (s : State) (l : Lane) (tag limit : Octet) (rest : List Request),
    let p := (s.lane l).power
    let n := min (5 * (s.strap % 4 + 1)) (max 1 limit.toNat)
    let st : Status := if n = limit.toNat then .ok else .clamped
    let report (q : Power) : List Octet :=
      [octet (laneCode l), octet q.state.code, octet (lastFaultCode q.lastFault), octet q.faultCount, octet q.limit]
    let result (q : Power) : State := (s.setLane l { s.lane l with power := q }).answered rest tag 0x03 st (report q)
    (s.Asked tag [0x03, octet (laneCode l), 0] rest → exec .laneControlNone s = .next (s.answered rest tag 0x03 .ok (report p))) ∧
    (s.Asked tag [0x03, octet (laneCode l), 0, limit] rest →
      (p.state ≠ .ramping → p.state ≠ .live → exec .laneControlNone s = .next (result { p with limit := n })) ∧
      (p.state = .ramping ∨ p.state = .live →
        (p.laneCurrent < 100000 * n →
          exec .laneControlNone s = .next (result { p with limit := n, timers := { p.timers with overcurrent := none } })) ∧
        (100000 * n ≤ p.laneCurrent → p.laneCurrent < 200000 * n →
          exec .laneControlNone s = .next (result { p with
            limit := n, timers := { p.timers with overcurrent := some (p.timers.overcurrent.getD (s.now + 2)) } })) ∧
        (200000 * n ≤ p.laneCurrent → ∃ t, exec .laneControlNone s = .next t ∧ (t.lane l).power.limit = n ∧
          (t.lane l).power.state = (if p.faultCount < 2 then .fault else .latched) ∧ (t.lane l).power.lastFault = some .short ∧
          (t.lane l).power.faultCount = min 3 (p.faultCount + 1) ∧ (t.lane (otherLane l)).power = (s.lane (otherLane l)).power))) ∧
    (s.Asked tag [0x03, octet (laneCode l), 1, limit] rest →
      (p.state = .off → s.overTemp = false →
        let q := { p with limit := n }.entered .waiting .no s.now
        exec .laneControlEnable s = .next ((notify (.lane l .waiting .enabled p.faultCount) (s.setLane l { s.lane l with power := q })).answered
          rest tag 0x03 st (report q))) ∧
      (p.state ≠ .off → p.state ≠ .ramping → p.state ≠ .live → exec .laneControlEnable s = .next (result { p with limit := n }))) ∧
    (s.Asked tag [0x03, octet (laneCode l), 2, limit] rest → p.state = .waiting ∨ p.state = .fault ∨ p.state = .latched →
      let q := { p with limit := n }.entered .off .no s.now
      exec .laneControlDisable s = .next ((notify (.lane l .off .disabled p.faultCount) (s.setLane l { s.lane l with power := q })).answered
        rest tag 0x03 st (report q))) ∧
    (s.Asked tag [0x03, octet (laneCode l), 3, limit] rest → p.state = .latched → s.overTemp = false →
      let q := { p with limit := n, faultCount := 0 }.entered .waiting .no s.now
      exec .laneControlClearLatch s = .next ((notify (.lane l .waiting .cleared 0) (s.setLane l { s.lane l with power := q })).answered
        rest tag 0x03 st (report q)))

/-! ## Census requests -/

/-- START CENSUS is refused LANE_NOT_LIVE, then BUSY. An accepted ADDITIVE start keeps every entry, takes over the pending UNADDRESS items and offers the
oldest of them, else the root probe; an accepted FRESH start removes every entry of the lane, discards the items and offers the broadcast UNADDRESS. Both
refuse the queued records LANE_BUSY behind the RESPONSE, oldest first, take a due cycle entry back, and start from zero counts, with no work. Where the manual
leaves a detail to the model, the model follows assumption log 17. -/
def Obligations.StartCensus : Prop :=
  ∀ (s : State) (l : Lane) (m : CensusMode) (tag mode : Octet) (rest : List Request),
    s.Asked tag [0x07, octet (laneCode l), mode] rest → mode = octet (modeCode (some m)) →
    ((s.lane l).power.state ≠ .live → exec .startCensus s = .next (s.answered rest tag 0x07 .laneNotLive [])) ∧
    ((s.lane l).power.state = .live → (s.lane l).census.run ≠ .idle →
      exec .startCensus s = .next (s.answered rest tag 0x07 .busy [])) ∧
    ((s.lane l).power.state = .live → (s.lane l).census.run = .idle → s.roster.length = 32 → ∃ t, exec .startCensus s = .next t ∧
      (t.lane l).census.run = .running ∧ (t.lane l).census.mode = some m ∧ (t.lane l).census.work = [] ∧
      (t.lane l).census.found = 0 ∧ (t.lane l).census.dups = 0 ∧ (t.lane l).census.confirming = 0 ∧ (t.lane l).census.find = none ∧
      (t.lane l).census.last = (s.lane l).census.last ∧ (t.lane l).forward = [] ∧ (t.lane l).unaddress = [] ∧ (t.lane l).complete = false ∧
      (t.lane l).exch = (s.lane l).exch ∧ (∀ k, (t.lane k).power = (s.lane k).power ∧ (t.lane k).options = (s.lane k).options) ∧
      (∀ r, t.seq.run = some r → (r.cursor l).due = none) ∧
      (s.seq.run = none → s.arm.outbound.length + 1 + (s.lane l).forward.length ≤ 24 →
        t.arm.outbound = s.arm.outbound ++ ⟨0, .response, tag, [0x07, 0, octet t.notices.queue.length, octet (laneCode l), 1, mode]⟩ ::
          (s.lane l).forward.map (fun
            | .entry _ _ name tg _ => ⟨octet name, .refusal, tg, [3]⟩
            | .broadcast tg _ => ⟨255, .refusal, tg, [3]⟩)) ∧
      (m = .additive → t.roster = s.roster ∧ (t.lane (otherLane l)) = (s.lane (otherLane l)) ∧ (t.lane l).census.taken = (s.lane l).unaddress ∧
        (t.lane l).census.offer = some (match (s.lane l).unaddress with
          | a :: _ => .taken a
          | [] => .probe ⟨0, 0⟩)) ∧
      (m = .fresh → (∀ slot e, t.entry slot = some e → e.lane ≠ l) ∧ (t.lane l).census.offer = some .broadcast))

/-- STOP CENSUS: nothing in IDLE and STOPPING; with a census exchange in flight the run is STOPPING; while its request waits behind another source's
exchange the run ends STOPPED at once, with its CENSUS notice. Where the manual
leaves a detail to the model, the model follows assumption log 16. -/
def Obligations.StopCensus : Prop :=
  ∀ (s : State) (l : Lane) (tag : Octet) (rest : List Request), s.Asked tag [0x08, octet (laneCode l)] rest →
    let c := (s.lane l).census
    (c.run ≠ .running → exec .stopCensus s = .next (s.answered rest tag 0x08 .ok
      [octet (laneCode l), octet c.run.code, octet (lastOutcomeCode c.last)])) ∧
    (∀ x, c.run = .running → (s.lane l).exch = some x → x.source = .census →
      exec .stopCensus s = .next ((s.setLane l { s.lane l with census := { c with run := .stopping } }).answered rest tag 0x08 .ok
        [octet (laneCode l), 2, octet (lastOutcomeCode c.last)])) ∧
    (∀ x, c.run = .running → (s.lane l).exch = some x → x.source ≠ .census →
      exec .stopCensus s = .next ((evalComplete l (notify (.census l .stopped c.dups c.found) (s.setLane l { s.lane l with
        unaddress := c.taken ++ (s.lane l).unaddress
        census := { Census.initial with last := some .stopped, confirming := c.confirming, found := c.found, dups := c.dups } }))).answered
        rest tag 0x08 .ok [octet (laneCode l), 0, 4]))

/-! ## Naming requests -/

/-- MAP WRITE checks its fields, stores the entry with the span and override clamped, says CLAMPED when it clamped, and renames no device: every entry with a
name keeps it and its source, and loses its map reference exactly when that points at the written index. MAP READ gives the stored entry. Where the manual
leaves a detail to the model, the model follows assumption log 32. -/
def Obligations.MapWrite : Prop :=
  ∀ (s : State) (tag i k m1 m2 m3 s1 s2 s3 r base span prof req o : Octet) (rest : List Request),
    let bad : Prop := 63 < i.toNat ∨ (k ≠ 1 ∧ k ≠ 2) ∨ (r ≠ 1 ∧ r ≠ 2 ∧ r ≠ 3) ∨ base = 0 ∨ base = 255 ∨ 3 < prof.toNat
    let fields := [i, k, m1, m2, m3, s1, s2, s3, r, base, span, prof, req]
    let stored (ov : Option Nat) : MapEntry :=
      ⟨if k = 1 then .exact else .model, m1 ++ m2 ++ m3, if k = 1 then s1 ++ s2 ++ s3 else 0,
       if r = 1 then some .a else if r = 2 then some .b else none, base.toNat,
       if k = 1 then 1 else min (min 16 (max 1 span.toNat)) (255 - base.toNat), prof.toNat, ov, req.getLsbD 0⟩
    let clampedSpan : Prop := k = 2 ∧ (stored none).span ≠ span.toNat
    let effect (t : State) (e : MapEntry) (clamped : Prop) : Prop :=
      exec .mapWrite s = .next t ∧ t.nameMap = s.nameMap.set i.toNat (some e) ∧
      (∀ slot x, s.entry slot = some x → x.state ≠ .held → ∃ y, t.entry slot = some y ∧ y.name = x.name ∧ y.source = x.source ∧
        y.fp = x.fp ∧ y.lane = x.lane ∧ y.address = x.address ∧ y.mapRef = if x.mapRef = some i.toNat then none else x.mapRef) ∧
      (∀ l, (t.lane l).power = (s.lane l).power ∧ (t.lane l).exch = (s.lane l).exch ∧ (t.lane l).census.run = (s.lane l).census.run) ∧
      t.seq = s.seq ∧ t.profiles = s.profiles ∧
      ∃ st data, t.arm.outbound = s.arm.outbound ++ [⟨0, .response, tag, 0x0B :: octet (Status.code st) :: octet t.notices.queue.length :: data⟩] ∧
        (clamped → st = .clamped) ∧ (¬ clamped → st = .ok) ∧ data[1]? = some 1 ∧ data[11]? = some (octet e.span)
    s.roster.length = 32 →
    (s.Asked tag (0x0B :: fields) rest →
      (bad → exec .mapWrite s = .next (s.answered rest tag 0x0B .badArgument [])) ∧
      (¬ bad → ∃ t, effect t (stored none) clampedSpan)) ∧
    (s.Asked tag (0x0B :: fields ++ [o]) rest →
      (bad → exec .mapWrite s = .next (s.answered rest tag 0x0B .badArgument [])) ∧
      (¬ bad → ∃ t, effect t (stored (some (min 15 o.toNat))) (clampedSpan ∨ 15 < o.toNat))) ∧
    (s.Asked tag [0x0D, i] rest →
      (63 < i.toNat → exec .mapRead s = .next (s.answered rest tag 0x0D .badArgument [])) ∧
      (i.toNat ≤ 63 → s.mapEntry i.toNat = none →
        exec .mapRead s = .next (s.answered rest tag 0x0D .ok (i :: List.replicate 13 0 ++ [255]))) ∧
      (∀ e, i.toNat ≤ 63 → s.mapEntry i.toNat = some e →
        exec .mapRead s = .next (s.answered rest tag 0x0D .ok ([i, 1, octet e.kind.code] ++
          [e.makerModel.extractLsb' 16 8, e.makerModel.extractLsb' 8 8, e.makerModel.extractLsb' 0 8] ++
          [e.serial.extractLsb' 16 8, e.serial.extractLsb' 8 8, e.serial.extractLsb' 0 8] ++
          [octet (restrictionCode e.restriction), octet e.base, octet e.span, octet e.profile, octet (if e.required then 1 else 0),
           octet (e.override.getD 255)]))))

/-- MAP CLEAR marks the named entry, or with 0xFF every entry, not in use; no device is renamed, and the references to what was cleared are removed. Where the manual
leaves a detail to the model, the model follows assumption log 32. -/
def Obligations.MapClear : Prop :=
  ∀ (s : State) (tag i : Octet) (rest : List Request), s.Asked tag [0x0C, i] rest → s.roster.length = 32 →
    (63 < i.toNat → i ≠ 255 → exec .mapClear s = .next (s.answered rest tag 0x0C .badArgument [])) ∧
    (i.toNat ≤ 63 ∨ i = 255 → ∃ t, exec .mapClear s = .next t ∧
      (∀ j, t.mapEntry j = if i = 255 ∨ j = i.toNat then none else s.mapEntry j) ∧
      (∀ slot x, s.entry slot = some x → x.state ≠ .held → ∃ y, t.entry slot = some y ∧ y.name = x.name ∧ y.source = x.source ∧
        y.fp = x.fp ∧ y.mapRef = if i = 255 ∨ x.mapRef = some i.toNat then none else x.mapRef) ∧
      (∀ l, (t.lane l).power = (s.lane l).power ∧ (t.lane l).exch = (s.lane l).exch) ∧ t.seq = s.seq ∧ t.profiles = s.profiles ∧
      ∃ data, t.arm.outbound = s.arm.outbound ++ [⟨0, .response, tag, 0x0C :: 0 :: octet t.notices.queue.length :: i :: data⟩])

/-- SET PROVISIONAL RANGE refuses an inverted range and the names 0 and 255; else it sets the range with its cursor at low, and no entry but a HELD one changes;
with no HELD entry nothing else changes at all. -/
def Obligations.SetProvisionalRange : Prop :=
  ∀ (s : State) (tag low high : Octet) (rest : List Request), s.Asked tag [0x0E, low, high] rest →
    let bad : Prop := low = 0 ∨ low = 255 ∨ high = 0 ∨ high = 255 ∨ high.toNat < low.toNat
    (bad → exec .setProvisionalRange s = .next (s.answered rest tag 0x0E .badArgument [])) ∧
    (¬ bad → (∀ slot e, s.entry slot = some e → e.state ≠ .held) →
      exec .setProvisionalRange s = .next ({ s with range := ⟨low.toNat, high.toNat, low.toNat⟩ }.answered rest tag 0x0E .ok [low, high, low])) ∧
    (¬ bad → ∃ t, exec .setProvisionalRange s = .next t ∧ t.range.low = low.toNat ∧ t.range.high = high.toNat ∧
      low.toNat ≤ t.range.cursor ∧ t.range.cursor ≤ high.toNat ∧ t.nameMap = s.nameMap ∧
      (∀ slot e, s.entry slot = some e → e.state ≠ .held → t.entry slot = some e) ∧ (∀ l, (t.lane l).power = (s.lane l).power))

/-- NAME DEVICE refuses, in this order, a name of 0 or 255, a fingerprint no entry holds, an entry in ASSIGNING, and a name held elsewhere or carried; else the
entry takes the name with source REQUEST and no map reference: a LIVE, SUSPECT or LOST one otherwise unchanged, a HELD one into PROVING, or on into LIVE
where its threshold is 0. No other entry but a HELD one changes. Where the manual
leaves a detail to the model, the model follows assumption log 32. -/
def Obligations.NameDevice : Prop :=
  ∀ (s : State) (tag a b c d e f n : Octet) (rest : List Request), s.Asked tag [0x0F, a, b, c, d, e, f, n] rest →
    let fp : Fingerprint := a ++ b ++ c ++ d ++ e ++ f
    let holds (slot : Nat) (x : Entry) : Prop := s.entry slot = some x ∧ x.fp = fp ∧ ∀ j y, s.entry j = some y → y.fp = fp → j = slot
    let taken (slot : Nat) : Prop := s.carriedName .a = some n.toNat ∨ s.carriedName .b = some n.toNat ∨
      ∃ j y, j ≠ slot ∧ s.entry j = some y ∧ y.name = some n.toNat
    (n = 0 ∨ n = 255 → exec .nameDevice s = .next (s.answered rest tag 0x0F .badArgument [])) ∧
    (n ≠ 0 → n ≠ 255 →
      ((∀ j y, s.entry j = some y → y.fp ≠ fp) → exec .nameDevice s = .next (s.answered rest tag 0x0F .noEntry [])) ∧
      (∀ slot x, holds slot x →
        (x.state = .assigning → exec .nameDevice s = .next (s.answered rest tag 0x0F .busy [])) ∧
        (x.state ≠ .assigning → taken slot → exec .nameDevice s = .next (s.answered rest tag 0x0F .nameInUse [])) ∧
        (x.state ≠ .assigning → ¬ taken slot → ∃ t, exec .nameDevice s = .next t ∧
          (x.state = .live ∨ x.state = .suspect ∨ x.state = .lost →
            t.entry slot = some { x with name := some n.toNat, source := some .request, mapRef := none, held := none }) ∧
          (x.state = .held ∨ x.state = .proving → ∃ y, t.entry slot = some y ∧ y.name = some n.toNat ∧ y.source = some .request ∧
            y.mapRef = none ∧ y.held = none ∧ (y.state = .proving ∨ y.state = .live) ∧
            (x.state = .held → 0 < (s.lane x.lane).options.passThreshold → y.state = .proving ∧ y.clean = 0 ∧ y.echo = true)) ∧
          (∀ j y, j ≠ slot → s.entry j = some y → y.state ≠ .held → t.entry j = some y) ∧
          (∀ l, (t.lane l).power = (s.lane l).power ∧ (t.lane l).exch = (s.lane l).exch) ∧ t.nameMap = s.nameMap ∧ t.seq = s.seq ∧
          ∃ code, t.arm.outbound = s.arm.outbound ++ [⟨0, .response, tag, [0x0F, 0, octet t.notices.queue.length, octet slot,
            octet (laneCode x.lane), code, n, octet (x.name.getD 0)]⟩])))

/-- RELEASE is refused NO_ENTRY, then BUSY while a census runs on the entry's lane; else the entry goes, its name and address are free, an UNADDRESS to its
address is pending once behind the others, and no other entry but a HELD one changes. Where the manual
leaves a detail to the model, the model follows assumption log 20. -/
def Obligations.Release : Prop :=
  ∀ (s : State) (tag a b c d e f : Octet) (rest : List Request), s.Asked tag [0x10, a, b, c, d, e, f] rest →
    let fp : Fingerprint := a ++ b ++ c ++ d ++ e ++ f
    ((∀ j y, s.entry j = some y → y.fp ≠ fp) → exec .release s = .next (s.answered rest tag 0x10 .noEntry [])) ∧
    (∀ slot x, s.entry slot = some x → x.fp = fp → (∀ j y, s.entry j = some y → y.fp = fp → j = slot) →
      ((s.lane x.lane).census.run ≠ .idle → exec .release s = .next (s.answered rest tag 0x10 .busy [])) ∧
      ((s.lane x.lane).census.run = .idle → ∃ t, exec .release s = .next t ∧ t.entry slot = none ∧
        (t.lane x.lane).unaddress = (if x.address ∈ (s.lane x.lane).unaddress then (s.lane x.lane).unaddress
          else (s.lane x.lane).unaddress ++ [x.address]) ∧
        (t.lane (otherLane x.lane)).unaddress = (s.lane (otherLane x.lane)).unaddress ∧
        (∀ j y, j ≠ slot → s.entry j = some y → y.state ≠ .held → t.entry j = some y) ∧
        (∀ l, (t.lane l).power = (s.lane l).power ∧ (t.lane l).exch = (s.lane l).exch ∧ (t.lane l).forward = (s.lane l).forward) ∧
        t.nameMap = s.nameMap ∧ t.seq = s.seq ∧
        t.arm.outbound = s.arm.outbound ++ [⟨0, .response, tag, [0x10, 0, octet t.notices.queue.length, octet slot,
          octet (laneCode x.lane), octet x.address, octet (x.name.getD 0), octet x.state.code]⟩]))

/-- The resolution of a name. The lowest EXACT map entry that matches the fingerprint and allows the lane pins the name: MAP_EXACT, or HELD for NAME_CLASH when it is held. Else the
lowest MODEL entry with a free name gives the lowest one, a name being free that is neither held nor an exact base: MAP_MODEL. Else the provisional range, from its cursor up and around,
gives its first name neither held nor covered: PROVISIONAL, and the cursor moves past it. Else HELD for NO_NAME. A name is held by a roster entry or as a carried name. HELD entries are
resolved again in slot order, here at SET PROVISIONAL RANGE: the lowest one is resolved as the state stands, entering PROVING (or LIVE at a threshold of 0) with its
name, or keeping HELD with the reason; no other entry changes its device. -/
def Obligations.NameResolution : Prop :=
  (∀ (s : State) (l : Lane) (fp : Fingerprint), s.rangeSound →
    let considered (k : MapMatch) (i : Nat) (m : MapEntry) : Prop := s.mapEntry i = some m ∧ m.kind = k ∧
      m.makerModel = fp.extractLsb' 24 24 ∧ (k = .exact → m.serial = fp.extractLsb' 0 24) ∧ (m.restriction = none ∨ m.restriction = some l)
    let held (n : Nat) : Prop := (∃ i e, s.entry i = some e ∧ e.name = some n) ∨ s.carriedName .a = some n ∨ s.carriedName .b = some n
    let covered (n : Nat) : Prop := ∃ i m, s.mapEntry i = some m ∧ m.base ≤ n ∧ n < m.base + m.span
    let exactBase (n : Nat) : Prop := ∃ i m, s.mapEntry i = some m ∧ m.kind = .exact ∧ m.base = n
    let inBlock (m : MapEntry) (n : Nat) : Prop := m.base ≤ n ∧ n < m.base + m.span ∧ ¬ held n ∧ ¬ exactBase n
    let provisional (n : Nat) : Prop := s.range.low ≤ n ∧ n ≤ s.range.high ∧ ¬ held n ∧ ¬ covered n
    let unpinned : Prop := ∀ i m, ¬ considered .exact i m
    let unmodelled : Prop := ∀ i m n, considered .model i m → ¬ inBlock m n
    (∀ i m, considered .exact i m → (∀ j k, considered .exact j k → i ≤ j) →
      (held m.base → s.resolve l fp = .held .nameClash) ∧
      (¬ held m.base → s.resolve l fp = .named m.base .mapExact (some i) s.range.cursor)) ∧
    (∀ i m n, unpinned → considered .model i m → inBlock m n → (∀ k, inBlock m k → n ≤ k) →
      (∀ j k q, considered .model j k → inBlock k q → i ≤ j) → s.resolve l fp = .named n .mapModel (some i) s.range.cursor) ∧
    (∀ n, unpinned → unmodelled → provisional n →
      (s.range.cursor ≤ n ∧ (∀ k, provisional k → s.range.cursor ≤ k → n ≤ k)) ∨
        (n < s.range.cursor ∧ ∀ k, provisional k → k < s.range.cursor ∧ n ≤ k) →
      s.resolve l fp = .named n .provisional none (if n = s.range.high then s.range.low else n + 1)) ∧
    (unpinned → unmodelled → (∀ n, ¬ provisional n) → s.resolve l fp = .held .noName)) ∧
  (∀ (s : State) (tag low high : Octet) (rest : List Request) (slot : Nat) (e : Entry), s.Asked tag [0x0E, low, high] rest →
    low ≠ 0 → high ≠ 255 → low.toNat ≤ high.toNat → s.roster.length = 32 → s.entry slot = some e → e.state = .held →
    (∀ j y, s.entry j = some y → y.state = .held → slot ≤ j) →
    ∃ t, exec .setProvisionalRange s = .next t ∧
      (match State.resolve { s with range := ⟨low.toNat, high.toNat, low.toNat⟩ } e.lane e.fp with
        | .named n src ref _ =>
          let z : Entry := { e with
            name := some n, source := some src, mapRef := ref, state := .proving, clean := 0, fail := 0, held := none, echo := true
            silenceFrom := none, checked := false, recallFrom := none }
          t.entry slot = some (if ((ref.bind s.mapEntry).bind MapEntry.override).getD (s.lane e.lane).options.passThreshold = 0 then
            { z with state := .live, echo := false, silenceFrom := some s.now, checked := false } else z)
        | .held why => t.entry slot = some { e with held := some why }) ∧
      (∀ j y, s.entry j = some y → y.state = .held → ∃ z, t.entry j = some z ∧ z.fp = y.fp ∧ z.lane = y.lane ∧ z.address = y.address ∧
        (z.state = .held ∨ ((z.state = .proving ∨ z.state = .live) ∧ z.name.isSome = true))) ∧
      (∀ j, s.entry j = none → t.entry j = none))

/-- A lane is complete while it is LIVE, no census runs on it and every required map entry restricted to it is satisfied: an EXACT one by a LIVE or SUSPECT entry of its device on the
lane, a MODEL one by as many LIVE or SUSPECT entries of the lane that refer to it as its span. An evaluation that finds a change keeps the new value and queues COMPLETE, RISE or FALL,
with the number of required entries not satisfied, and else does nothing. And every step leaves each lane's value as the condition stands, and the device that a census has
in hand on that census's lane: no event that changes the condition goes without its evaluation. -/
def Obligations.Completeness : Prop :=
  (∀ (s : State) (l : Lane), s.roster.length = 32 → s.nameMap.length = 64 →
    let present (i : Nat) (p : Entry → Prop) : Prop := ∃ e, s.entry i = some e ∧ e.lane = l ∧ (e.state = .live ∨ e.state = .suspect) ∧ p e
    let satisfied (i : Nat) (m : MapEntry) : Prop := match m.kind with
      | .exact => ∃ j, present j (fun e => e.fp.extractLsb' 24 24 = m.makerModel ∧ e.fp.extractLsb' 0 24 = m.serial)
      | .model => ∃ slots : List Nat, slots.Nodup ∧ slots.length = m.span ∧ ∀ j, j ∈ slots ↔ present j (fun e => e.mapRef = some i)
    let missing (i : Nat) : Prop := ∃ m, s.mapEntry i = some m ∧ m.required = true ∧ m.restriction = some l ∧ ¬ satisfied i m
    ∀ (indices : List Nat), indices.Nodup → (∀ i, i ∈ indices ↔ missing i) →
      let now : Bool := (s.lane l).power.state == .live && (s.lane l).census.run == .idle && indices.isEmpty
      s.completeNow l = now ∧ evalComplete l s = if now = (s.lane l).complete then s
        else notify (.complete l now indices.length) (s.setLane l { s.lane l with complete := now })) ∧
  (∀ s t : State, s.tablesSound → s.DevicesDistinct → s.findsHome → s.completeSound → step s = .next t → t.findsHome ∧ t.completeSound)

/-! ## Lane power events -/

/-- In WAITING the qualify timer starts when the lock is asserted and the probe current is above 5 mA, runs on while both hold, and is forgotten when one falls; when
it runs out the lane enters RAMPING with cause COUPLED. In OFF, DISCHARGING, FAULT and LATCHED the inputs have no effect. In RAMPING the supply voltage brings
LIVE with cause RAMPED, and with auto census a FRESH run; the ramp timer brings FAULT, or at the third fault LATCHED, with cause RAMP. Where the manual
leaves a detail to the model, the model follows assumption logs 3 and 14. -/
def Obligations.CouplingAndRamping : Prop :=
  ∀ (s : State) (l : Lane) (microamps m : Nat), s.resetAsserted = false →
    let p := (s.lane l).power
    let watched (q : Power) : State := s.setLane l { s.lane l with power := if q.state = .waiting then
      { q with timers := { q.timers with
        qualify := if q.lock = true ∧ 5000 < q.probeCurrent then some (q.timers.qualify.getD (s.now + 30)) else none } } else q }
    exec (.lockAssert l) s = .next (watched { p with lock := true }) ∧
    exec (.probeCurrentChange l microamps) s = .next (watched { p with probeCurrent := microamps }) ∧
    (p.state ≠ .ramping → p.state ≠ .live → exec (.lockDeassert l) s = .next (watched { p with lock := false })) ∧
    (p.timers.qualify = some m → m ≤ s.now → p.state = .waiting → exec (.qualifyTimerExpiry l) s = .next
      (notify (.lane l .ramping .coupled p.faultCount) (s.setLane l { s.lane l with power := p.entered .ramping .no s.now }))) ∧
    (p.state = .ramping →
      (∃ t, exec (.rampVoltageReached l) s = .next t ∧ (t.lane l).power = p.entered .live .no s.now ∧ t.transceiverOn l = true ∧
        (t.lane (otherLane l)).power = (s.lane (otherLane l)).power ∧
        ((s.lane l).options.autoCensus = true → (t.lane l).census.run = .running ∧ (t.lane l).census.mode = some .fresh ∧
          (t.lane l).census.offer = some .broadcast) ∧
        ((s.lane l).options.autoCensus = false → t = evalComplete l (notify (.lane l .live .ramped p.faultCount)
          (s.setLane l { s.lane l with power := p.entered .live .no s.now })))) ∧
      (p.timers.ramp = some m → m ≤ s.now → exec (.rampTimerExpiry l) s = .next
        (let st : PowerState := if p.faultCount < 2 then .fault else .latched
         notify (.lane l st (.trip .ramp) (min 3 (p.faultCount + 1))) (s.setLane l { s.lane l with
           power := { p with faultCount := min 3 (p.faultCount + 1), lastFault := some .ramp }.entered st .no s.now }))))

/-- The lock input falling in RAMPING or LIVE, and the removal timer in LIVE, bring DISCHARGING at once, with cause UNLOCKED or REMOVED and no disable pending; a
lane that leaves LIVE so loses its entries, its run (with outcome LANE_DOWN), its exchange and its queues, and no entry of the other lane but a HELD one changes. A
forwarded exchange in flight, then the queued records, are refused DEPARTED; the LANE notice comes first, then a DEVICE DEPARTED notice of each entry in slot
order. Where the manual leaves a detail to the model, the model follows assumption logs 3 and 20. -/
def Obligations.LeavingByTheTool : Prop :=
  ∀ (s : State) (l : Lane), s.resetAsserted = false → s.roster.length = 32 →
    let p := (s.lane l).power
    let departed (name : Nat) (tag : Octet) : ArmFrame := ⟨octet name, .refusal, tag, [5]⟩
    let inFlight : List ArmFrame := match (s.lane l).exch.map Exchange.source, (s.lane l).exch.bind Exchange.ref with
      | some (.forward name tag), some _ => [departed name tag]
      | _, _ => []
    let queued : List ArmFrame := (s.lane l).forward.map (fun
      | .entry _ _ name tag _ => departed name tag
      | .broadcast tag _ => departed 255 tag)
    let gone (cause : LaneCause) (t : State) : Prop := (t.lane l).exch = none ∧ (t.lane l).census.run = .idle ∧ (t.lane l).forward = [] ∧
      (t.lane l).unaddress = [] ∧ (t.lane l).complete = false ∧ (∀ slot e, t.entry slot = some e → e.lane ≠ l) ∧
      ((s.lane l).census.run ≠ .idle → (t.lane l).census.last = some .laneDown) ∧
      (∀ slot e, s.entry slot = some e → e.lane ≠ l → e.state ≠ .held → t.entry slot = some e) ∧
      (t.lane (otherLane l)).exch = (s.lane (otherLane l)).exch ∧ (t.lane (otherLane l)).forward = (s.lane (otherLane l)).forward ∧
      (t.lane (otherLane l)).power = (s.lane (otherLane l)).power ∧
      (s.arm.linkUp = true → s.seq.run = none → s.arm.outbound.length + 1 + (s.lane l).forward.length ≤ 24 →
        t.arm = { s.arm with outbound := s.arm.outbound ++ inFlight ++ queued }) ∧
      ((s.lane l).exch = none → (s.lane l).census.run = .idle → (∀ slot e, s.entry slot = some e → e.state ≠ .held) →
        s.notices.masks.kinds.getLsbD 1 = false →
        t.notices = ((List.range 32).foldl (fun u i => match s.entry i with
          | some e => if e.lane = l then notify (.device l e.name e.fp .departed .laneDown e.fail) u else u
          | none => u) (notify (.lane l .discharging cause p.faultCount) s)).notices)
    (p.state = .ramping → exec (.lockDeassert l) s = .next (notify (.lane l .discharging .unlocked p.faultCount)
      (s.setLane l { s.lane l with power := { p with lock := false }.entered .discharging .no s.now }))) ∧
    (p.state = .live → ∃ t, exec (.lockDeassert l) s = .next t ∧ gone .unlocked t ∧
      (t.lane l).power = { p with lock := false }.entered .discharging .no s.now) ∧
    (∀ m, p.state = .live → p.timers.removal = some m → m ≤ s.now → ∃ t, exec (.removalTimerExpiry l) s = .next t ∧ gone .removed t ∧
      (t.lane l).power = p.entered .discharging .no s.now)

/-- The current of a closing or closed main switch: at twice the limit the lane faults SHORT at once; at the limit the overcurrent mask runs, below it it is
forgotten; in LIVE the removal timer runs below 2 mA; where the switch is open the event does nothing (the model's choice, assumption logs 13 and 26). The
overcurrent and back-feed masks running out fault the lane with their causes. Every such fault counts up to three, and the third latches; of the two lanes' power this
lane's alone changes, and the name map and the profiles stay. A lane that was not LIVE gets nothing but its LANE notice beside; a LIVE one loses its entries, its run
(with outcome LANE_DOWN), its exchange and its queues, and no entry of the other lane but a HELD one changes. The back-feed mask follows the lane voltage in WAITING,
RAMPING and LIVE. Where the manual leaves a detail to the model, the model follows assumption log 3. -/
def Obligations.LaneCurrentAndMasks : Prop :=
  ∀ (s : State) (l : Lane) (i m : Nat) (above : Bool), s.resetAsserted = false →
    let p := (s.lane l).power
    let mask (t : PowerTimers) : PowerTimers := { t with
      overcurrent := if 100000 * p.limit ≤ i then some (t.overcurrent.getD (s.now + 2)) else none }
    let low (t : PowerTimers) : PowerTimers := { t with
      removal := if i < 2000 then some (t.removal.getD (s.now + 100)) else none }
    let faulted (t : State) (why : Trip) : Prop :=
      let q := { p with faultCount := min 3 (p.faultCount + 1), lastFault := some why }.entered
        (if p.faultCount < 2 then .fault else .latched) .no s.now
      (t.lane l).power = q ∧
      (t.lane (otherLane l)).power = (s.lane (otherLane l)).power ∧ t.nameMap = s.nameMap ∧ t.profiles = s.profiles ∧
      (p.state ≠ .live → t = notify (.lane l q.state (.trip why) q.faultCount) (s.setLane l { s.lane l with power := q })) ∧
      (p.state = .live → (t.lane l).exch = none ∧ (t.lane l).census.run = .idle ∧ (t.lane l).forward = [] ∧ (t.lane l).unaddress = [] ∧
        (t.lane l).complete = false ∧ (s.roster.length = 32 → ∀ slot e, t.entry slot = some e → e.lane ≠ l) ∧
        ((s.lane l).census.run ≠ .idle → (t.lane l).census.last = some .laneDown) ∧
        (∀ slot e, s.entry slot = some e → e.lane ≠ l → e.state ≠ .held → t.entry slot = some e))
    (p.state ≠ .ramping → p.state ≠ .live → exec (.laneCurrentChange l i) s = .next s) ∧
    (i < 200000 * p.limit → p.state = .ramping → exec (.laneCurrentChange l i) s = .next
      (s.setLane l { s.lane l with power := { p with laneCurrent := i, timers := mask p.timers } })) ∧
    (i < 200000 * p.limit → p.state = .live → exec (.laneCurrentChange l i) s = .next
      (s.setLane l { s.lane l with power := { p with laneCurrent := i, timers := low (mask p.timers) } })) ∧
    (200000 * p.limit ≤ i → p.state = .ramping ∨ p.state = .live → ∃ t, exec (.laneCurrentChange l i) s = .next t ∧ faulted t .short) ∧
    (p.timers.overcurrent = some m → m ≤ s.now → ∃ t, exec (.overcurrentMaskExpiry l) s = .next t ∧ faulted t .overcurrent) ∧
    (p.timers.backfeed = some m → m ≤ s.now → ∃ t, exec (.backfeedMaskExpiry l) s = .next t ∧ faulted t .backfeed) ∧
    exec (.backfeedVoltageChange l above) s = .next (s.setLane l { s.lane l with power :=
      if p.state = .waiting ∨ p.state = .ramping ∨ p.state = .live then { p with
        overSupply := above
        timers := { p.timers with backfeed := if above then some (p.timers.backfeed.getD (s.now + 1)) else none } }
      else { p with overSupply := above } })

/-- The stability timer forgives the faults of a LIVE lane; the discharge timer brings WAITING, or OFF where a disable or a reset is pending; a cooldown check
brings WAITING when the die is cool and the voltage is no more than 0.3 V above the supply, and else the next check in 100 ms. The row of a lane power timer that is
stopped, or has not reached its moment, does nothing. Where the manual leaves a detail to the model, the model follows assumption logs 3, 5 and 31. -/
def Obligations.RecoveryTimers : Prop :=
  ∀ (s : State) (l : Lane) (cool : Bool) (m : Nat), s.resetAsserted = false →
    let p := (s.lane l).power
    let enter (st : PowerState) (cause : LaneCause) : State :=
      notify (.lane l st cause p.faultCount) (s.setLane l { s.lane l with power := p.entered st .no s.now })
    (p.timers.stability = some m → m ≤ s.now → exec (.liveStabilityExpiry l) s = .next (s.setLane l { s.lane l with
      power := { p with faultCount := 0, timers := { p.timers with stability := none } } })) ∧
    (p.timers.discharge = some m → m ≤ s.now → p.state = .discharging → exec (.dischargeTimerExpiry l) s = .next (match p.disablePending with
      | .no => enter .waiting .discharged
      | .disable => enter .off .disabled
      | .reset => enter .off .reset)) ∧
    (p.timers.cooldown = some m → m ≤ s.now → p.state = .fault → s.overTemp = false → cool = true → p.overSupply = false →
      exec (.cooldownExpiry l cool) s = .next (enter .waiting .cooled)) ∧
    (p.timers.cooldown = some m → m ≤ s.now → p.state = .fault → cool = false ∨ p.overSupply = true →
      exec (.cooldownExpiry l cool) s = .next (s.setLane l { s.lane l with
        power := { p with timers := { p.timers with cooldown := some (s.now + 100) } } })) ∧
    (∀ row ∈ [(Instr.qualifyTimerExpiry l, p.timers.qualify), (.rampTimerExpiry l, p.timers.ramp),
        (.overcurrentMaskExpiry l, p.timers.overcurrent), (.backfeedMaskExpiry l, p.timers.backfeed),
        (.removalTimerExpiry l, p.timers.removal), (.liveStabilityExpiry l, p.timers.stability),
        (.dischargeTimerExpiry l, p.timers.discharge), (.cooldownExpiry l cool, p.timers.cooldown)],
      (∀ moment, row.2 = some moment → s.now < moment) → exec row.1 s = .next s)

/-- The over-temperature flag, when it sets, faults every lane in WAITING, RAMPING, LIVE or DISCHARGING with cause THERMAL, a discharging lane with a disable or reset
pending going on to OFF; OFF, FAULT and LATCHED lanes stay. Clearing the flag moves no lane. Where the manual
leaves a detail to the model, the model follows assumption logs 8 and 30. -/
def Obligations.OverTemperature : Prop :=
  ∀ (s : State) (l : Lane), s.resetAsserted = false →
    exec .overTemperatureClear s = .next { s with overTemp := false } ∧
    (s.overTemp = false → ∃ t, exec .overTemperatureSet s = .next t ∧ t.overTemp = true ∧
      let p := (s.lane l).power
      (p.state = .off ∨ p.state = .fault ∨ p.state = .latched → (t.lane l).power = p) ∧
      (p.state = .waiting ∨ p.state = .ramping ∨ p.state = .live ∨ p.state = .discharging →
        (t.lane l).power.lastFault = some .thermal ∧ (t.lane l).power.faultCount = min 3 (p.faultCount + 1) ∧
        (t.lane l).power.limit = p.limit ∧
        (t.lane l).power.state = (if p.state = .discharging ∧ p.disablePending ≠ .no then .off
          else if p.faultCount < 2 then .fault else .latched)))

/-! ## Exchanges -/

/-- The course of an exchange up to its reply, and of a probe in its slots. In GUARD the idle count starts again from zero at a 0, at the delimiter of a device's frame
and at that frame's end, whose content is dropped; the count reaches the guard only while the receiver hunts, and the request then goes out: its address, kind
code and payload, framed. The tail bit of an ASSIGN, ECHO or DATA to one device waits, that of a PROBE counts it and opens its slots, a completed delimiter starts the
reply; that of an UNADDRESS of supervision, and that of a forwarded DATA to every device of the lane, ends its exchange OK: the lane is idle, the OK counter rises, no
entry changes and no frame is offered (that of a census UNADDRESS stands in AssignOutcomes). In GUARD and in SLOTS a
receiver in DISCARD hunts again at its end. Each slot begins when its event comes; the first 0 of a slot is kept once, a frame in the slot in which its delimiter completed, with its
end wherever that falls; what falls in the turnaround belongs to no slot. Where the manual leaves a detail to the model, the model follows assumption logs 4, 23
and 24. -/
def Obligations.ExchangePhases : Prop :=
  ∀ (s : State) (l : Lane) (x : Exchange) (how : FrameEnd), s.resetAsserted = false → (s.lane l).exch = some x →
    let put (y : Exchange) (r : RxState) : State := s.setLane l { s.lane l with exch := some y, rx := r }
    let rx := (s.lane l).rx
    let code : Octet := match x.kind with
      | .probe => 0x10
      | .assign => 0x11
      | .echo => 0x12
      | .data => 0x13
      | .unaddress => 0x14
    let after : RxState := match how with
      | .long => .discard
      | .tail _ => .hunt
      | .brk _ => .hunt
    (x.phase = .guard →
      (rx = .hunt → exec (.guardCountReached l) s = .next
        (put { x with phase := .send, guardIdle := x.profile.guard, line := frameBits (octet x.target :: code :: x.payload) } .hunt)) ∧
      (rx ≠ .hunt → exec (.guardCountReached l) s = .next s) ∧
      exec (.guardIdleLost l .zero) s = .next (put { x with guardIdle := 0 } rx) ∧
      (rx = .hunt → exec (.guardIdleLost l .delimiter) s = .next (put { x with guardIdle := 0 } .frame)) ∧
      (rx = .frame → exec (.guardIdleLost l (.frameEnd how)) s = .next (put { x with guardIdle := 0 } after)) ∧
      (rx = .discard → exec (.guardIdleLost l .discardEnd) s = .next (put { x with guardIdle := 0 } .hunt)) ∧
      (rx ≠ .discard → exec (.guardIdleLost l .discardEnd) s = .next s)) ∧
    (x.phase = .send → x.kind = .assign ∨ x.kind = .echo ∨ (x.kind = .data ∧ x.target ≠ 31) →
      exec (.requestTailBit l) s = .next (put { x with phase := .wait, line := [] } rx)) ∧
    (x.phase = .send → x.kind = .probe → exec (.requestTailBit l) s = .next (s.setLane l { s.lane l with
      exch := some { x with phase := .slots, probe := some ⟨.turnaround, none, List.replicate 4 ⟨none, []⟩⟩, line := [] }
      counters := { (s.lane l).counters with probesSent := addSat (s.lane l).counters.probesSent } })) ∧
    (x.phase = .wait → exec (.replyDelimiterComplete l) s = .next (put { x with phase := .receive } .frame)) ∧
    (x.phase = .send → x.ref = none →
      (x.kind = .unaddress ∧ x.source = .supervision) ∨ (x.kind = .data ∧ x.target = 31 ∧ ∃ name tag, x.source = .forward name tag) →
      exec (.requestTailBit l) s = .next (s.setLane l { s.lane l with
        exch := none, rx := .hunt, counters := { (s.lane l).counters with ok := addSat (s.lane l).counters.ok } })) ∧
    (∀ (p : ProbeRecord) (m : Nat), x.phase = .slots → x.probe = some p →
      let probe (q : ProbeRecord) : Exchange := { x with probe := some q }
      (rx = .discard → exec (.slotObservation l .discardEnd) s = .next (put x .hunt)) ∧
      (rx ≠ .discard → exec (.slotObservation l .discardEnd) s = .next s) ∧
      (p.place = .turnaround →
        exec (.slotStart l) s = .next (put (probe { p with place := .slot 0 }) rx) ∧
        exec (.slotObservation l (.zero m)) s = .next s ∧
        (rx = .hunt → exec (.slotObservation l (.delimiter m)) s = .next (put (probe { p with inFrame := some .turnaround }) .frame))) ∧
      (∀ k, k < 3 → p.place = .slot k → exec (.slotStart l) s = .next (put (probe { p with place := .slot (k + 1) }) rx)) ∧
      (∀ k o, p.place = .slot k → p.slots[k]? = some o →
        (o.firstZero = none →
          exec (.slotObservation l (.zero m)) s = .next (put (probe { p with slots := p.slots.set k { o with firstZero := some m } }) rx)) ∧
        (∀ u, o.firstZero = some u → exec (.slotObservation l (.zero m)) s = .next s) ∧
        (rx = .hunt → exec (.slotObservation l (.delimiter m)) s = .next (put (probe { p with
          slots := p.slots.set k { o with frames := o.frames ++ [⟨m, none⟩] }, inFrame := some (.slot k) }) .frame))) ∧
      (rx = .frame →
        (∀ k o fs began, p.inFrame = some (.slot k) → p.slots[k]? = some o → o.frames = fs ++ [⟨began, none⟩] →
          exec (.slotObservation l (.frameEnd how)) s = .next (put (probe { p with
            slots := p.slots.set k { o with frames := fs ++ [⟨began, some how⟩] }, inFrame := none }) after)) ∧
        (p.inFrame = some .turnaround →
          exec (.slotObservation l (.frameEnd how)) s = .next (put (probe { p with inFrame := none }) after))))

/-- A failed attempt with attempts left, by silence, a guard that never came or a reply that fails its checks (too long, ended in a break, not valid, of a wrong kind or
address, or without the fingerprint or token sent), is followed by GUARD for the next attempt; an ECHO takes a new token for it, and nothing else of the part
changes but the receiver. A break after few bits fails the attempt too (the model's reading, assumption log 22). Where the manual
leaves a detail to the model, the model follows assumption log 4. -/
def Obligations.FailedAttemptIsRepeated : Prop :=
  ∀ (s : State) (l : Lane) (x : Exchange) (how : FrameEnd), s.resetAsserted = false → (s.lane l).exch = some x → x.attempt ≤ x.profile.retries →
    x.kind = .assign ∨ x.kind = .echo ∨ (x.kind = .data ∧ x.target ≠ 31) →
    let token := (s.lane l).echoToken + 1
    let again : Exchange := { x with phase := .guard, guardIdle := 0, probe := none, line := [], attempt := x.attempt + 1 }
    let next (r : RxState) : State := s.setLane l (if x.kind = .echo then { s.lane l with
        echoToken := token, rx := r
        exch := some { again with token := some token, payload := [token.extractLsb' 8 8, token.extractLsb' 0 8] } }
      else { s.lane l with exch := some again, rx := r })
    let good (body : List Octet) : Prop :=
      (x.kind = .assign ∧ body = x.payload.getD 6 0 :: 0x91 :: x.payload.take 6) ∨
      (x.kind = .echo ∧ ∃ status, body = octet x.target :: 0x92 :: x.payload ++ [status]) ∨
      (x.kind = .data ∧ ∃ data, body = octet x.target :: 0x93 :: data)
    (x.phase = .wait → exec (.replyTimeout l) s = .next (next (s.lane l).rx)) ∧
    (x.phase = .guard → exec (.guardLimitReached l) s = .next (next (s.lane l).rx)) ∧
    (∀ n, x.phase = .receive → how = .brk n → exec (.replyFrameEnd l how) s = .next (next .hunt)) ∧
    (x.phase = .receive → how = .long → exec (.replyFrameEnd l how) s = .next (next .discard)) ∧
    (∀ bits, x.phase = .receive → how = .tail bits → (∀ body, checkContent busMin busMax bits = .valid body → ¬ good body) →
      exec (.replyFrameEnd l how) s = .next (next .hunt))

/-- The last attempt of an ECHO fails, by silence (NO_REPLY) or at its guard limit (CORRUPT): the exchange ends, is counted, and moves its entry by the entry's state. LIVE:
SUSPECT with fail streak 1 and an echo pending, or with a failure limit of 1 LOST. SUSPECT and PROVING: the streak rises up to 7, a PROVING entry's clean count is 0, and
at the limit the entry is LOST, else an echo is pending. Under strict proving a CORRUPT outcome in LIVE or SUSPECT leads back to PROVING. LOST, HELD and ASSIGNING
stay. An entry that becomes LOST, from any of the three states, starts an ADDITIVE run on its LIVE lane with recall census on and no run going. No other entry changes, and lane power never does. Where
the manual leaves a detail to the model, the model follows assumption logs 4 and 27. -/
def Obligations.FailureMovesTheEntry : Prop :=
  ∀ (s : State) (l : Lane) (x : Exchange) (r : EntryRef) (e : Entry) (c : Instr) (corrupt : Bool), s.resetAsserted = false →
    (s.lane l).exch = some x → x.kind = .echo → x.source = .supervision → x.profile.retries < x.attempt → x.ref = some r →
    s.entry r.slot = some e → e.fp = r.fp → e.lane = r.lane →
    (x.phase = .wait ∧ c = .replyTimeout l ∧ corrupt = false) ∨ (x.phase = .guard ∧ c = .guardLimitReached l ∧ corrupt = true) →
    let o := (s.lane e.lane).options
    let f := min 7 (e.fail + 1)
    let lost (n : Nat) : Entry := { e with state := .lost, fail := n, echo := false, silenceFrom := none, checked := false, recallFrom := some s.now }
    let again : Entry := { e with
      state := .proving, clean := 0, fail := 0, held := none, echo := true, silenceFrom := none, checked := false, recallFrom := none }
    let proved : Entry := if s.thresholdInUse e = 0 then { again with state := .live, echo := false, silenceFrom := some s.now, checked := false } else again
    let strict := o.strictProving = true ∧ corrupt = true
    let recalled (t : State) : Prop := o.recallCensus = true → (s.lane e.lane).power.state = .live → (s.lane e.lane).census.run = .idle →
      (t.lane e.lane).census.run = .running ∧ (t.lane e.lane).census.mode = some .additive
    ∃ t, exec c s = .next t ∧ (t.lane l).exch = none ∧ (t.lane l).rx = .hunt ∧ (∀ j, j ≠ r.slot → t.entry j = s.entry j) ∧
      (t.lane l).counters = (if corrupt then { (s.lane l).counters with corrupt := addSat (s.lane l).counters.corrupt }
        else { (s.lane l).counters with noReply := addSat (s.lane l).counters.noReply }) ∧
      (∀ k, (t.lane k).power = (s.lane k).power) ∧ t.nameMap = s.nameMap ∧ (o.recallCensus = false → t.arm = s.arm) ∧
      (e.state = .live → strict → t.entry r.slot = some proved) ∧
      (e.state = .live → ¬ strict → 1 < o.failureLimit → t.entry r.slot = some { e with
        state := .suspect, fail := 1, silenceFrom := none, checked := false, echo := true }) ∧
      (e.state = .live → ¬ strict → o.failureLimit ≤ 1 → t.entry r.slot = some (lost 1) ∧ recalled t) ∧
      (e.state = .suspect → strict → t.entry r.slot = some proved) ∧
      (e.state = .suspect → ¬ strict → o.failureLimit ≤ f → t.entry r.slot = some (lost f) ∧ recalled t) ∧
      (e.state = .suspect → ¬ strict → f < o.failureLimit → t.entry r.slot = some { e with fail := f, echo := true }) ∧
      (e.state = .proving → o.failureLimit ≤ f → t.entry r.slot = some { lost f with clean := 0 } ∧ recalled t) ∧
      (e.state = .proving → f < o.failureLimit → t.entry r.slot = some { e with clean := 0, fail := f, echo := true }) ∧
      (e.state = .lost ∨ e.state = .held ∨ e.state = .assigning → t.entry r.slot = some e)

/-- A valid ECHO REPLY with the token and any status ends the exchange OK: a PROVING entry's clean count rises and at the threshold in use it is LIVE, else an echo is
pending; a SUSPECT entry is LIVE; a LIVE entry's silence time starts again; the last-good time and the status octet are set; no other entry changes. -/
def Obligations.EchoReplyIsTaken : Prop :=
  ∀ (s : State) (l : Lane) (x : Exchange) (r : EntryRef) (e : Entry) (status : Octet), s.resetAsserted = false → (s.lane l).exch = some x →
    x.phase = .receive → x.kind = .echo → x.source = .supervision → x.ref = some r → x.payload.length = 2 →
    s.entry r.slot = some e → e.fp = r.fp → e.lane = r.lane →
    let how := FrameEnd.tail (stuffedContent (octet x.target :: 0x92 :: x.payload ++ [status]))
    let good := { e with lastGood := some s.now, status := some status }
    let count := min 15 (e.clean + 1)
    ∃ t, exec (.replyFrameEnd l how) s = .next t ∧ (t.lane l).exch = none ∧ (t.lane l).rx = .hunt ∧
      (t.lane l).counters = { (s.lane l).counters with ok := addSat (s.lane l).counters.ok } ∧ t.arm = s.arm ∧ t.seq = s.seq ∧
      (∀ k, (t.lane k).power = (s.lane k).power) ∧ (∀ j, j ≠ r.slot → t.entry j = s.entry j) ∧
      (e.state = .live → t.entry r.slot = some { good with silenceFrom := some s.now, checked := false, echo := false }) ∧
      (e.state = .suspect → t.entry r.slot = some { good with
        state := .live, fail := 0, echo := false, silenceFrom := some s.now, checked := false, recallFrom := none }) ∧
      (e.state = .proving → count < s.thresholdInUse e → t.entry r.slot = some { good with clean := count, fail := 0, echo := true }) ∧
      (e.state = .proving → s.thresholdInUse e ≤ count → t.entry r.slot = some { good with
        clean := count, state := .live, fail := 0, echo := false, silenceFrom := some s.now, checked := false, recallFrom := none }) ∧
      (e.state = .lost → 1 < s.thresholdInUse e → t.entry r.slot = some { good with
        state := .proving, clean := 1, fail := 0, held := none, echo := true, silenceFrom := none, checked := false, recallFrom := none }) ∧
      (e.state = .assigning → t.entry r.slot = some e)

/-- A DATA REPLY to a forwarded request goes to the controller octet for octet as a REPLY from the name the entry now holds, with the tag of the DATA frame; if the entry
is gone from its slot the answer is a REFUSAL DEPARTED from the addressed name. When the last attempt meets silence the answer is a REFUSAL NO_REPLY, and at its guard limit
or after a reply that ended in a break CORRUPT, or DEPARTED for an entry that is gone; it is offered before anything that follows for the entry. Where the manual leaves a
detail to the model, the model follows assumption logs 4 and 22. -/
def Obligations.ForwardedReply : Prop :=
  ∀ (s : State) (l : Lane) (x : Exchange) (r : EntryRef) (name : Nat) (tag : Octet) (payload : List Octet), s.resetAsserted = false →
    (s.lane l).exch = some x → x.kind = .data → x.source = .forward name tag → x.ref = some r → x.target < 31 →
    payload.length ≤ 64 → s.arm.linkUp = true → s.arm.outbound.length < 24 →
    let how := FrameEnd.tail (stuffedContent (octet x.target :: 0x93 :: payload))
    (∀ e n, x.phase = .receive → s.entry r.slot = some e → e.fp = r.fp → e.lane = r.lane → e.name = some n → e.state = .live →
      ∃ t, exec (.replyFrameEnd l how) s = .next t ∧ t.arm = { s.arm with outbound := s.arm.outbound ++ [⟨octet n, .reply, tag, payload⟩] } ∧
        (t.lane l).exch = none ∧ t.entry r.slot = some { e with lastGood := some s.now, silenceFrom := some s.now, checked := false, echo := false } ∧
        (∀ j, j ≠ r.slot → t.entry j = s.entry j) ∧ t.notices = s.notices ∧ t.seq = s.seq) ∧
    (x.phase = .receive → (∀ e, s.entry r.slot = some e → e.fp ≠ r.fp ∨ e.lane ≠ r.lane) →
      ∃ t, exec (.replyFrameEnd l how) s = .next t ∧ t.roster = s.roster ∧ (t.lane l).exch = none ∧ t.notices = s.notices ∧
        t.arm = { s.arm with outbound := s.arm.outbound ++ [⟨octet name, .refusal, tag, [5]⟩] }) ∧
    (∀ (c : Instr) (n : Nat) (why : Octet), x.profile.retries < x.attempt →
      (x.phase = .wait ∧ c = .replyTimeout l ∧ why = 6) ∨ (x.phase = .guard ∧ c = .guardLimitReached l ∧ why = 7) ∨
        (x.phase = .receive ∧ c = .replyFrameEnd l (.brk n) ∧ why = 7) →
      ((∀ e, s.entry r.slot = some e → e.fp ≠ r.fp ∨ e.lane ≠ r.lane) → ∃ t, exec c s = .next t ∧ (t.lane l).exch = none ∧
        t.roster = s.roster ∧ t.arm = { s.arm with outbound := s.arm.outbound ++ [⟨octet name, .refusal, tag, [5]⟩] }) ∧
      (∀ e, s.entry r.slot = some e → e.fp = r.fp → e.lane = r.lane → ∃ t behind, exec c s = .next t ∧ (t.lane l).exch = none ∧
        t.arm.outbound = s.arm.outbound ++ ⟨octet name, .refusal, tag, [why]⟩ :: behind ∧ (∀ j, j ≠ r.slot → t.entry j = s.entry j)))

/-- The arbiter of an idle LIVE lane grants a running census what it offers, with the lane's default profile, before any other source, and a run that offers nothing
holds every other source back; an exchange in flight, or a lane that is not LIVE, gets no grant. With no census running the due cycle entry comes first, then forward and
supervision in turn. The forward queue's oldest record becomes its DATA when its entry is there and LIVE or SUSPECT, a broadcast its DATA to 31; else it is refused DEPARTED
or NOT_READY with no exchange. Supervision hands over its oldest UNADDRESS item, else the ECHO item of the first slot above the one last served, with a fresh token. Where the
manual leaves a detail to the model, the model follows assumption logs 3, 15 and 18. -/
def Obligations.Grants : Prop :=
  ∀ (s : State) (l : Lane), s.resetAsserted = false →
    let request (src : Source) (k : BusKind) (target : Nat) (r : Option EntryRef) (profile : Nat) (payload : List Octet) : Option Exchange :=
      some ⟨src, k, target, r, s.profile profile, 1, none, .guard, payload, 0, none, []⟩
    let default := (s.lane l).options.defaultProfile
    let started : LaneCounters := { (s.lane l).counters with started := addSat (s.lane l).counters.started }
    let noEcho : Prop := ∀ slot e, s.entry slot = some e → e.lane = l → e.echo = false
    ((s.lane l).power.state ≠ .live ∨ (s.lane l).exch.isSome = true → exec (.exchangeGrant l) s = .next s) ∧
    ((s.lane l).power.state = .live → (s.lane l).exch = none →
      ((s.lane l).census.run ≠ .idle →
        (∀ o, (s.lane l).census.offer = some o →
          let hand : BusKind × Nat × List Octet := match o with
            | .broadcast => (.unaddress, 31, [])
            | .taken a => (.unaddress, a, [])
            | .drop a => (.unaddress, a, [])
            | .probe q => (.probe, 0, octet q.depth :: fpOctets q.bits)
            | .assign f a => (.assign, 0, fpOctets f ++ [octet a])
          exec (.exchangeGrant l) s = .next (s.setLane l { s.lane l with
            exch := request .census hand.1 hand.2.1 none default hand.2.2
            rx := .hunt
            census := { (s.lane l).census with offer := none, taken := match o with
              | .taken _ => (s.lane l).census.taken.tail
              | _ => (s.lane l).census.taken }
            counters := started })) ∧
        ((s.lane l).census.offer = none → exec (.exchangeGrant l) s = .next s)) ∧
      ((s.lane l).census.run = .idle →
        (∀ d e, s.due l = some d → s.entry d.ref.slot = some e → e.fp = d.ref.fp → e.lane = d.ref.lane → e.state = .live ∨ e.state = .suspect →
          exec (.exchangeGrant l) s = .next ({ s with seq := { s.seq with run := s.seq.run.map (fun (r : CycleRun) => r.setCursor l ⟨d.position, none⟩) } }.setLane l
            { s.lane l with
              exch := request (.cycle d.position) .data d.address (some d.ref) (s.profileInUse e) d.payload
              rx := .hunt, counters := started })) ∧
        (s.due l = none →
          (∀ slot fp name tag payload more, (s.lane l).forward = .entry slot fp name tag payload :: more →
            (s.lane l).lastTurn = .supervision ∨ ((s.lane l).unaddress = [] ∧ noEcho) →
            (∀ e, s.entry slot = some e → e.fp = fp → e.lane = l → e.state = .live ∨ e.state = .suspect →
              exec (.exchangeGrant l) s = .next (s.setLane l { s.lane l with
                exch := request (.forward name tag) .data e.address (some ⟨l, slot, fp⟩) (s.profileInUse e) payload
                rx := .hunt, forward := more, lastTurn := .forward, counters := started })) ∧
            (more = [] → (s.lane l).unaddress = [] → noEcho → s.arm.linkUp = true → s.arm.outbound.length < 24 →
              let refused (why : Octet) : State := State.setLane { s with arm := { s.arm with
                outbound := s.arm.outbound ++ [⟨octet name, .refusal, tag, [why]⟩] } } l { s.lane l with forward := [], lastTurn := .forward }
              ((∀ e, s.entry slot = some e → e.fp ≠ fp ∨ e.lane ≠ l) → exec (.exchangeGrant l) s = .next (refused 5)) ∧
              (∀ e, s.entry slot = some e → e.fp = fp → e.lane = l → e.state ≠ .live → e.state ≠ .suspect →
                exec (.exchangeGrant l) s = .next (refused 2)))) ∧
          (∀ tag payload more, (s.lane l).forward = .broadcast tag payload :: more →
            (s.lane l).lastTurn = .supervision ∨ ((s.lane l).unaddress = [] ∧ noEcho) →
            exec (.exchangeGrant l) s = .next (s.setLane l { s.lane l with
              exch := request (.forward 255 tag) .data 31 none default payload
              rx := .hunt, forward := more, lastTurn := .forward, counters := started })) ∧
          ((s.lane l).lastTurn = .forward ∨ (s.lane l).forward = [] →
            (∀ a more, (s.lane l).unaddress = a :: more →
              exec (.exchangeGrant l) s = .next (s.setLane l { s.lane l with
                exch := request .supervision .unaddress a none default []
                rx := .hunt, unaddress := more, lastTurn := .supervision, counters := started })) ∧
            (∀ i slot e, (s.lane l).unaddress = [] → i < 32 → slot = ((s.lane l).lastServed + 1 + i) % 32 → s.entry slot = some e → e.lane = l →
              e.echo = true →
              (∀ j f, j < i → s.entry (((s.lane l).lastServed + 1 + j) % 32) = some f → f.lane = l → f.echo = false) →
              let token := (s.lane l).echoToken + 1
              exec (.exchangeGrant l) s = .next ({ s with roster := s.roster.set slot (some { e with echo := false }) }.setLane l { s.lane l with
                exch := some ⟨.supervision, .echo, e.address, some ⟨l, slot, e.fp⟩, s.profile (s.profileInUse e), 1, some token, .guard,
                  [token.extractLsb' 8 8, token.extractLsb' 0 8], 0, none, []⟩
                rx := .hunt, lastServed := slot, lastTurn := .supervision, echoToken := token, counters := started }))))))

/-- What the end of a probe's slots does. Of the slots looked at (all four, or at a depth-23 repeat the open ones) the SINGLE ones are finds and the COLLIDED ones are counted and
left open. A confirming root probe with neither ends the run DONE. Else the run goes on with the finds in slot order, then with the open slots, as `ProbeGoesOn` says: a find is offered its
ASSIGN (NEW, REJOIN, MOVE), or is a CROSS_LANE duplicate, or ends the run FULL; with the finds taken, the children of the open slots are pushed, or at a seventeenth record the run ends
INCOMPLETE; at depth 23 the probe is repeated, and after the third the open slots are SAME_LANE duplicates; the walk goes on with the newest record, else a confirming root probe;
after a third one that was not quiet the run ends INCOMPLETE. In STOPPING nothing but the counts and those duplicates follows, and the run ends STOPPED. Every end queues its CENSUS
notice with the duplicate and found counts. -/
def Obligations.CensusWalk : Prop :=
  ∀ (s : State) (l : Lane) (x : Exchange) (p : ProbeRecord) (h : ProbeInHand), s.resetAsserted = false → (s.lane l).exch = some x →
    x.phase = .slots → x.kind = .probe → x.source = .census → x.ref = none → x.probe = some p → p.place = .slot 3 →
    (s.lane l).census.hand = some h → (s.lane l).complete = false →
    let c := (s.lane l).census
    let look := if h.number = 1 then [0, 1, 2, 3] else h.openSlots
    let slotClass (k : Nat) := classifySlot h.prefx x.profile.guard k (p.slots.getD k ⟨none, []⟩)
    let finds := look.filterMap (fun k => match slotClass k with
      | .single f => some f
      | _ => none)
    let collided := look.filter (fun k => slotClass k == .collided)
    let third := 23 ≤ h.prefx.depth ∧ 3 ≤ h.number
    let counted : State := s.setLane l { s.lane l with
      exch := none, rx := .hunt
      counters := { (s.lane l).counters with
        ok := addSat (s.lane l).counters.ok, collided := collided.length.repeat addSat (s.lane l).counters.collided } }
    let quiet := h.prefx.depth = 0 ∧ 0 < c.confirming ∧ collided = [] ∧ finds = []
    (c.run = .stopping →
      (third → exec (.slotsEnd l) s = .next
        ((counted.withDuplicates l false (collided.map (fun k => (h.prefx.forSlot k).bits))).runEnded l .stopped)) ∧
      (¬ third → exec (.slotsEnd l) s = .next (counted.runEnded l .stopped))) ∧
    (c.run = .running →
      (quiet → exec (.slotsEnd l) s = .next (counted.runEnded l .done)) ∧
      (¬ quiet → ∃ t, exec (.slotsEnd l) s = .next t ∧ State.ProbeGoesOn l { h with openSlots := collided } finds counted t))

/-- What the outcome of a census ASSIGN and the tail bit of a census UNADDRESS do. OK: the entry's last-good time is set and the found count rises; a MOVE enters PROVING with the name it
carried, a NEW find and a HELD one that rejoined are resolved, to PROVING with the name or to HELD with the reason, and any other that rejoined proves again under its name. A failed ASSIGN
(silence, the guard limit, or a reply that fails a check) of a new entry removes it, queues ASSIGN_FAIL and offers an UNADDRESS to its address; a failed rejoin makes a PROVING, LIVE or SUSPECT entry LOST and leaves any other. After an OK
ASSIGN, a failed rejoin and every UNADDRESS (the broadcast of a FRESH start, a taken-over item, the drop after a failed ASSIGN) the run goes on as `RunGoesOn` says: in STOPPING it ends STOPPED;
before the first probe the oldest taken-over item is offered, else the root probe; else the next find of the probe in hand is taken, and after the last one its open slots are pushed
or repeated and the walk goes on. A PROBE or UNADDRESS of the census that meets its guard limit ends the run INCOMPLETE, in STOPPING STOPPED; a taken-over item it carried does not come
back (the model's choice, assumption log 37). A threshold in use of 0 leads from PROVING on into LIVE at once. Where the manual leaves a detail to the model, the model follows
assumption logs 15, 19 and 22. -/
def Obligations.AssignOutcomes : Prop :=
  ∀ (s : State) (l : Lane) (x : Exchange), s.resetAsserted = false → (s.lane l).exch = some x → x.source = .census → x.ref = none →
    (s.lane l).census.run ≠ .idle → (s.lane l).complete = false → s.roster.length = 32 →
    let c := (s.lane l).census
    let n := (s.lane l).counters
    let idle (counters : LaneCounters) (census : Census) : LaneState :=
      { s.lane l with exch := none, rx := .hunt, counters := counters, census := census }
    (∀ g slot e, x.kind = .assign → c.find = some g → s.entry slot = some e → e.fp = g.fp → e.lane = l →
      (∀ j y, s.entry j = some y → y.fp = g.fp → j = slot) →
      let proving (y : Entry) : Entry :=
        let z : Entry := { y with
          state := .proving, clean := 0, fail := 0, held := none, echo := true, silenceFrom := none, checked := false, recallFrom := none }
        if ((y.mapRef.bind s.mapEntry).bind MapEntry.override).getD (s.lane l).options.passThreshold = 0 then
          { z with state := .live, echo := false, silenceFrom := some s.now, checked := false }
        else z
      (x.phase = .receive →
        ∃ u t : State, exec (.replyFrameEnd l (.tail (stuffedContent (x.payload.getD 6 0 :: 0x91 :: x.payload.take 6)))) s = .next t ∧
          u.RunGoesOn l t ∧ u.lane l = idle { n with ok := addSat n.ok } { c with found := min 32 (c.found + 1), find := none } ∧
          u.roster.length = 32 ∧ (∀ j, j ≠ slot → u.entry j = s.entry j) ∧
          let y : Entry := { e with lastGood := some s.now }
          (∀ cr, g.kind = .move → g.carried = some cr → u.entry slot = some (proving { y with
            name := some cr.name, source := some cr.source, mapRef := cr.mapRef })) ∧
          ((g.kind ≠ .rejoin ∧ g.carried = none ∧ e.state = .assigning) ∨ (g.kind = .rejoin ∧ g.carried = none ∧ e.state = .held) →
            (∀ name src ref cursor, s.resolve l g.fp = .named name src ref cursor → u.range.cursor = cursor ∧
              u.entry slot = some (proving { y with name := some name, source := some src, mapRef := ref })) ∧
            (∀ why, s.resolve l g.fp = .held why → u.entry slot = some { y with state := .held, held := some why })) ∧
          (g.kind = .rejoin → e.state ≠ .held → e.state ≠ .assigning → u.entry slot = some (proving y))) ∧
      (∀ (i : Instr) (corrupt : Bool), x.profile.retries < x.attempt →
        (x.phase = .wait ∧ i = .replyTimeout l ∧ corrupt = false) ∨ (x.phase = .guard ∧ i = .guardLimitReached l ∧ corrupt = true) ∨
          (∃ how, x.phase = .receive ∧ i = .replyFrameEnd l how ∧ corrupt = true ∧ ∀ bits body, how = .tail bits →
            checkContent busMin busMax bits = .valid body → body ≠ x.payload.getD 6 0 :: 0x91 :: x.payload.take 6) →
        let failed : LaneCounters := if corrupt then { n with corrupt := addSat n.corrupt } else { n with noReply := addSat n.noReply }
        (g.kind = .rejoin → ∃ u t : State, exec i s = .next t ∧ u.RunGoesOn l t ∧ u.lane l = idle failed { c with find := none } ∧
          u.roster.length = 32 ∧ (∀ j, j ≠ slot → u.entry j = s.entry j) ∧
          (e.state = .proving ∨ e.state = .live ∨ e.state = .suspect → u.entry slot = some { e with
            state := .lost, echo := false, silenceFrom := none, checked := false, recallFrom := some s.now }) ∧
          (e.state = .lost ∨ e.state = .held → u.entry slot = some e)) ∧
        (g.kind ≠ .rejoin → ∃ t, exec i s = .next t ∧ t.lane l = idle failed { c with find := none, offer := some (.drop e.address) } ∧
          t.entry slot = none ∧
          (s.notices.masks.kinds.getLsbD 2 = true →
            t.notices.queue.getLast?.map NoticeRecord.notice = some (.assignFail l e.fp corrupt e.address)) ∧
          (∀ j y, j ≠ slot → s.entry j = some y → y.state ≠ .held → t.entry j = some y)))) ∧
    (x.kind = .unaddress → x.phase = .send → ∃ t, exec (.requestTailBit l) s = .next t ∧
      State.RunGoesOn (s.setLane l (idle { n with ok := addSat n.ok } c)) l t) ∧
    (x.kind = .probe ∨ x.kind = .unaddress → x.phase = .guard → exec (.guardLimitReached l) s = .next
      ((s.setLane l (idle { n with corrupt := addSat n.corrupt } c)).runEnded l (if c.run = .stopping then .stopped else .incomplete)))

/-- The class of a slot: EMPTY exactly when no 0 was seen; SINGLE with a fingerprint exactly when its first 0 began the one frame that belongs to it, that frame's delimiter
completed on time, and the frame ended as a valid PROBE REPLY from address 0 whose fingerprint has the probe's prefix and the slot's bits; COLLIDED exactly when
neither. A PROBE REPLY as a device sends it makes its slot SINGLE. The moments of a slot are the model's (assumption log 23). -/
def Obligations.SlotClasses : Prop :=
  ∀ (p : Prefix) (guard k m : Nat) (f : Fingerprint) (o : SlotObs),
    let single (f : Fingerprint) : Prop := ∃ completed bits, o.frames = [⟨completed, some (.tail bits)⟩] ∧
      (∃ z, o.firstZero = some z ∧ z + 8 = completed) ∧ completed ≤ 8 + guard ∧
      checkContent busMin busMax bits = .valid (0 :: 0x90 :: fpOctets f) ∧
      f >>> (48 - 2 * p.depth) = p.bits >>> (48 - 2 * p.depth) ∧ (f >>> (46 - 2 * p.depth)).toNat % 4 = k
    (classifySlot p guard k o = .empty ↔ o.firstZero = none) ∧
    (classifySlot p guard k o = .single f ↔ single f) ∧
    (classifySlot p guard k o = .collided ↔ o.firstZero ≠ none ∧ ∀ g, ¬ single g) ∧
    (m ≤ guard → p.covers f = true → slotOf p.depth f = k →
      classifySlot p guard k ⟨some m, [⟨m + 8, some (.tail (stuffedContent (0 :: 0x90 :: fpOctets f)))⟩]⟩ = .single f)

/-! ## Timers of entries and cycles -/

/-- A silence check becomes pending for a LIVE entry, once in a silence period, and a recall echo for a LOST one, whose recall time starts again, when its time has reached the
interval; before that, with an interval of 0, or in another state, neither does. The period timer that runs out restarts and gives one trigger: none in STOPPED, a missed one in RUNNING with its
CYCLE_OVERRUN notice, and in ARMED the start of a cycle (whose course is CycleCourse): the cycle number rises; a list with no entry in use ends at once with a REPORT
of twelve UNUSED positions. A stopped period timer, or one before its moment, gives none. Where the manual leaves a detail to the model, the model follows assumption
logs 3 and 5. -/
def Obligations.EntryAndPeriodTimers : Prop :=
  (∀ (s : State) (slot : Nat) (e : Entry), s.resetAsserted = false → s.entry slot = some e →
     let set (f : Entry) : State := { s with roster := s.roster.set slot (some f) }
     let interval := (s.lane e.lane).options.silenceInterval
     let reached (start : Option Nat) : Prop := interval ≠ 0 ∧ ∃ m, start = some m ∧ m + interval ≤ s.now
     (e.state = .live → reached e.silenceFrom → e.checked = false →
       exec (.silenceCheckDue slot) s = .next (set { e with echo := true, checked := true })) ∧
     (e.state ≠ .live ∨ ¬ reached e.silenceFrom ∨ e.checked = true → exec (.silenceCheckDue slot) s = .next s) ∧
     (e.state = .lost → reached e.recallFrom → exec (.recallEchoDue slot) s = .next (set { e with echo := true, recallFrom := some s.now })) ∧
     (e.state ≠ .lost ∨ ¬ reached e.recallFrom → exec (.recallEchoDue slot) s = .next s)) ∧
  (∀ (s : State), s.resetAsserted = false → (∀ m, s.seq.timer = some m → s.now < m) → exec .periodTimerExpiry s = .next s) ∧
  (∀ (s : State) (m : Nat), s.resetAsserted = false → s.seq.timer = some m → m ≤ s.now →
     let q : Sequencer := { s.seq with timer := some (s.now + s.seq.period) }
     (s.seq.state = .stopped → exec .periodTimerExpiry s = .next { s with seq := q }) ∧
     (s.seq.state = .running → exec .periodTimerExpiry s = .next
       (notify (.cycleOverrun .period (min 255 (s.seq.missed + 1))) { s with seq := { q with missed := min 255 (s.seq.missed + 1) } })) ∧
     (s.seq.state = .armed → (∀ i, s.seq.entry i = none) → s.seq.stopPending = false → s.arm.linkUp = true → s.arm.outbound.length < 24 →
       exec .periodTimerExpiry s = .next { s with
         seq := { q with cycleNumber := s.seq.cycleNumber + 1, missed := 0, run := none }
         arm := { s.arm with outbound := s.arm.outbound ++ [⟨0, .report, 0,
           [octet ((s.seq.cycleNumber + 1).toNat / 256), octet (s.seq.cycleNumber + 1).toNat, octet s.seq.missed] ++ List.replicate 60 0⟩] } }))

/-- The course of a cycle. A trigger in ARMED, of the period timer or of a CYCLE frame while the source is FRAME, raises the cycle number and gives every position its start: UNUSED
without a list entry, UNKNOWN when no entry holds the name, else the lane of the entry. A lane's cursor walks over its positions in order: a position whose device is
on the lane, LIVE or SUSPECT, with the lane LIVE and no census running, becomes the due entry with its request formed; any other takes STALE with the store's data when the
store is the device's own, else EMPTY, which removes the store. A due entry whose device has changed at the grant is resolved by its reference's store test. A DATA REPLY gives
FRESH with its first four octets, which with the device's fingerprint become the store, whether the device is still in the roster or was removed meanwhile (the model's reading
of R117 beside R163, assumption log 34); silence gives the store test; the cursor then walks on. When every position has its outcome the REPORT with them all is offered, the missed count is 0 and the sequencer ARMED, or
STOPPED where a stop was pending. A period trigger or a grant may be taken late (the model's choice, assumption log 3). -/
def Obligations.CycleCourse : Prop :=
  ∀ s : State, s.resetAsserted = false → s.arm.outbound.length < 24 →
    let test (j : Nat) (fp : Fingerprint) : Position := match (s.seq.entry j).bind CycleEntry.store with
      | some st => if st.fp = fp then .done .stale st.data else .done .empty []
      | none => .done .empty []
    let turn (l : Lane) (j : Nat) : Option Position := match s.seq.entry j with
      | none => some (.done .unused [])
      | some c => match s.entryNamed c.name with
        | none => some (.done .unknown [])
        | some (_, e) =>
          if e.lane = l ∧ (e.state = .live ∨ e.state = .suspect) ∧ (s.lane l).power.state = .live ∧ (s.lane l).census.run = .idle then none
          else some (test j e.fp)
    let walked (l : Lane) (k : Nat) (r r' : CycleRun) : Prop :=
      let stop := (List.range' k (12 - k)).find? (fun j => r.positions[j]? == some (.pending l) && (turn l j).isNone)
      (∀ j, r'.positions[j]? = if k ≤ j ∧ j < stop.getD 12 ∧ r.positions[j]? = some (.pending l) then turn l j else r.positions[j]?) ∧
      r'.cursor (otherLane l) = r.cursor (otherLane l) ∧
      match stop with
      | none => r'.cursor l = ⟨12, none⟩
      | some i => ∃ c slot e, s.seq.entry i = some c ∧ s.entryNamed c.name = some (slot, e) ∧
          r'.cursor l = ⟨i, some ⟨i, ⟨l, slot, e.fp⟩, e.address, c.payload⟩⟩
    let position : Position → List Octet
      | .done o data => octet (16 * o.code + min 4 data.length) :: (data ++ List.replicate 4 0).take 4
      | .pending _ => List.replicate 5 0
    let after (st : SeqState) (r : CycleRun) (t : State) : Prop :=
      let finished : Prop := ∀ p ∈ r.positions, ∃ o data, p = .done o data
      (finished → t.seq.run = none ∧ t.seq.missed = 0 ∧ t.seq.stopPending = false ∧
        t.seq.state = (if s.seq.stopPending then .stopped else .armed) ∧
        t.arm.outbound = s.arm.outbound ++ [⟨0, .report, 0, octet (t.seq.cycleNumber.toNat / 256) :: octet t.seq.cycleNumber.toNat ::
          octet s.seq.missed :: r.positions.flatMap position⟩]) ∧
      (¬ finished → t.seq.run = some r ∧ t.seq.missed = s.seq.missed ∧ t.seq.stopPending = s.seq.stopPending ∧ t.seq.state = st ∧
        t.arm.outbound = s.arm.outbound)
    let stores (r r' : CycleRun) (t : State) (j : Nat) : Prop :=
      ((∃ l, r.positions[j]? = some (.pending l)) → r'.positions[j]? = some (.done .empty []) →
        t.seq.entry j = (s.seq.entry j).map (fun c => { c with store := none })) ∧
      ((∀ l, r.positions[j]? ≠ some (.pending l)) ∨ r'.positions[j]? ≠ some (.done .empty []) → t.seq.entry j = s.seq.entry j)
    (∀ (c : Instr) (m : Nat) (src tag : Octet) (payload : List Octet), s.seq.state = .armed →
      (c = .periodTimerExpiry ∧ s.seq.timer = some m ∧ m ≤ s.now ∧ s.arm.linkUp = true) ∨
        (c = .armFrameReceived (stuffedContent (0 :: src :: 0x03 :: tag :: payload)) ∧ payload.length ≤ 64 ∧ s.arm.rx = .frame ∧
          s.seq.source = .frame) →
      let first : CycleRun := ⟨(List.range 12).map (fun j => match s.seq.entry j with
        | none => .done .unused []
        | some c => match s.entryNamed c.name with
          | none => .done .unknown []
          | some (_, e) => .pending e.lane), ⟨0, none⟩, ⟨0, none⟩⟩
      ∃ t r r', exec c s = .next t ∧ walked .a 0 first r ∧ walked .b 0 r r' ∧ after .running r' t ∧ (∀ j, stores first r' t j) ∧
        t.seq.cycleNumber = s.seq.cycleNumber + 1) ∧
    (∀ (l : Lane) (r : CycleRun) (d : Due), s.arm.linkUp = true → s.seq.run = some r → (r.cursor l).due = some d → d.position < 12 →
      r.positions[d.position]? = some (.pending l) → (∀ j, d.position < j → r.positions[j]? ≠ some (.pending l)) →
      (s.lane l).power.state = .live → (s.lane l).exch = none → (s.lane l).census.run = .idle → (s.lane l).forward = [] →
      (s.lane l).unaddress = [] → (∀ slot e, s.entry slot = some e → e.lane = l → e.echo = false) →
      (∀ e, s.entry d.ref.slot = some e → e.fp = d.ref.fp → e.lane = d.ref.lane → e.state ≠ .live ∧ e.state ≠ .suspect) →
      let r' : CycleRun := CycleRun.setCursor { r with positions := r.positions.set d.position (test d.position d.ref.fp) } l ⟨12, none⟩
      ∃ t, exec (.exchangeGrant l) s = .next t ∧ after s.seq.state r' t ∧ (∀ j, stores r r' t j) ∧ t.lane l = s.lane l ∧ t.roster = s.roster) ∧
    (∀ (l : Lane) (x : Exchange) (r : CycleRun) (i : Nat) (ref : EntryRef), s.arm.linkUp = true → (s.lane l).exch = some x →
      x.source = .cycle i → x.ref = some ref → x.kind = .data → x.target < 31 → s.seq.run = some r → i < 12 →
      r.positions[i]? = some (.pending l) →
      (∀ data : List Octet, x.phase = .receive → data.length ≤ 64 →
        ∃ t r', exec (.replyFrameEnd l (.tail (stuffedContent (octet x.target :: 0x93 :: data)))) s = .next t ∧
          walked l (i + 1) { r with positions := r.positions.set i (.done .fresh (data.take 4)) } r' ∧ after s.seq.state r' t ∧
          t.seq.entry i = (s.seq.entry i).map (fun c => { c with store := some ⟨data.take 4, ref.fp⟩ }) ∧ ∀ j, j ≠ i → stores r r' t j) ∧
      (x.phase = .wait → x.profile.retries < x.attempt → (s.lane ref.lane).options.recallCensus = false →
        ∃ t r', exec (.replyTimeout l) s = .next t ∧
          walked l (i + 1) { r with positions := r.positions.set i (test i ref.fp) } r' ∧ after s.seq.state r' t ∧ ∀ j, stores r r' t j))

/-! ## What every step keeps -/

/-- What a command leaves alone. A command that is no reset keeps the strap code, the part's clock and the reset pin; the settings of each block change
at the requests that write them alone; lane power at the commands of lane power alone; the receiver, the transmitter, the link state and the request
queue at their own events alone; the arbiter's turn and supervision's place at a grant alone. An exchange and its receiver change at the events of the tool buses and of
lane power; a Census Engine, an entry, the provisional cursor, a forward queue, the UNADDRESS items and the sequencer at those, at the requests that name them and, for the
sequencer and the forward queues, at arriving frames, the link timer and the period timer. LINK and LANE counters rise at their own events, and a drop at the offers; a notice is
queued by these alone or fetched. No command changes the queue of commands. -/
def Obligations.CommandsLeaveOtherBlocksAlone : Prop :=
  ∀ (c : Instr) (s t : State), exec c s = .next t → t.pending = s.pending ∧ (resets c = false →
    t.strap = s.strap ∧ t.now = s.now ∧ t.resetAsserted = s.resetAsserted ∧
    (c ≠ .overTemperatureSet → c ≠ .overTemperatureClear → t.overTemp = s.overTemp) ∧
    (c ≠ .writeProfile → t.profiles = s.profiles) ∧
    (c ≠ .mapWrite → c ≠ .mapClear → t.nameMap = s.nameMap) ∧
    (c ≠ .noticeMasksWrite → t.notices.masks = s.notices.masks) ∧
    (c ≠ .laneOptionsWrite → ∀ l, (t.lane l).options = (s.lane l).options) ∧
    (actsOnPower c = false → ∀ l, (t.lane l).power = (s.lane l).power) ∧
    (actsOnReceiver c = false → t.arm.rx = s.arm.rx) ∧
    (c ≠ .transmitStart → c ≠ .transmitTailBit → t.arm.tx = s.arm.tx) ∧
    ((∀ bits, c ≠ .armFrameReceived bits) → c ≠ .linkTimerExpiry → t.arm.linkUp = s.arm.linkUp ∧ t.arm.linkTimer = s.arm.linkTimer) ∧
    ((∀ bits, c ≠ .armFrameReceived bits) → requestRow c = none → t.arm.requests = s.arm.requests) ∧
    ((∀ l, c ≠ .exchangeGrant l) → ∀ l, (t.lane l).lastTurn = (s.lane l).lastTurn ∧ (t.lane l).lastServed = (s.lane l).lastServed) ∧
    (actsOnBus c = false → actsOnPower c = false → ∀ l, (t.lane l).exch = (s.lane l).exch ∧ (t.lane l).rx = (s.lane l).rx) ∧
    (endsExchange c = false → (∀ l, c ≠ .exchangeGrant l) → ∀ l, (t.lane l).echoToken = (s.lane l).echoToken ∧
      (c ≠ .readCounters → (t.lane l).counters = (s.lane l).counters)) ∧
    (actsOnCensus c = false → ∀ l, (t.lane l).census = (s.lane l).census) ∧
    (actsOnWork c = false → c ≠ .stopCensus → c ≠ .release → ∀ l, (t.lane l).unaddress = (s.lane l).unaddress) ∧
    (actsOnWork c = false → (∀ bits, c ≠ .armFrameReceived bits) → c ≠ .linkTimerExpiry → ∀ l, (t.lane l).forward = (s.lane l).forward) ∧
    (actsOnRoster c = false → t.roster = s.roster ∧ t.range = s.range) ∧
    (c ≠ .setProvisionalRange → t.range.low = s.range.low ∧ t.range.high = s.range.high) ∧
    (actsOnRoster c = false → actsOnCensus c = false → ∀ l, (t.lane l).complete = (s.lane l).complete) ∧
    (actsOnCycle c = false → t.seq = s.seq) ∧
    (c ≠ .cycleControlStart → c ≠ .cycleControlStop → c ≠ .cycleControlNone → t.seq.source = s.seq.source ∧ t.seq.period = s.seq.period) ∧
    (actsOnReceiver c = false → c ≠ .readCounters → t.arm.counters = { s.arm.counters with outboundDrops := t.arm.counters.outboundDrops }) ∧
    (actsOnReceiver c = false → actsOnWork c = false → requestRow c = none → c ≠ .periodTimerExpiry →
      t.arm.counters.outboundDrops = s.arm.counters.outboundDrops) ∧
    (actsOnRoster c = false → actsOnCensus c = false → c ≠ .fetchNotices → c ≠ .periodTimerExpiry → (∀ bits, c ≠ .armFrameReceived bits) →
      t.notices.queue = s.notices.queue))

/-- At reset every invariant below holds. -/
def Obligations.ResetIsSound : Prop :=
  let s := State.reset
  s.powerSound ∧ s.countersSound ∧ s.queuesSound ∧ s.tablesSound ∧ s.rosterLive ∧ (∀ l, s.busLive l) ∧ s.NamesDistinct ∧ s.DevicesDistinct ∧
    s.findsHome ∧ s.completeSound ∧ s.rangeSound ∧ (∀ l, s.workSound l) ∧ s.resetQuiet

/-- Every step keeps the applied limits between 0.1 A and the strap's ceiling, the fault counts with the states FAULT and LATCHED they lead to, and every timer in the power
states it belongs to. -/
def Obligations.StepKeepsPowerSound : Prop := ∀ s t : State, s.powerSound → step s = .next t → t.powerSound

/-- No step takes a counter beyond 65535, overfills the request queue, the outbound queue, a forward queue or the notice queue, moves the provisional range's
cursor out of it, or gives a work list more than 16 records or one of a depth outside 1..23. -/
def Obligations.StepKeepsBounds : Prop :=
  ∀ s t : State, step s = .next t →
    (s.countersSound → t.countersSound) ∧ (s.queuesSound → t.queuesSound) ∧ (s.rangeSound → t.rangeSound) ∧
      ((∀ l, s.workSound l) → ∀ l, t.workSound l)

/-- Every step keeps the tables at their sizes, and roster entries, runs and exchanges on LIVE lanes alone. -/
def Obligations.StepKeepsDevicesOnLiveLanes : Prop :=
  ∀ s t : State, s.tablesSound → s.rosterLive → (∀ l, s.busLive l) → step s = .next t → t.tablesSound ∧ t.rosterLive ∧ ∀ l, t.busLive l

/-- No step gives one name to two holders. -/
def Obligations.StepKeepsNamesDistinct : Prop := ∀ s t : State, s.NamesDistinct → step s = .next t → t.NamesDistinct

/-- No step puts a fingerprint, or a local address of one lane, into two entries, and addresses stay in 1..30. -/
def Obligations.StepKeepsDevicesDistinct : Prop := ∀ s t : State, s.DevicesDistinct → step s = .next t → t.DevicesDistinct
end

