-- ==== Sys2Proof/Laws/State.lean ====
section
/-! SUPPORT. Laws/State.lean: one lemma per field per update, so that no later proof unfolds a record update. -/

namespace Sys2Proof.Machine

/-! ## The lanes of a state -/

@[simp] theorem lane_a (s : State) : s.lane .a = s.laneA := rfl
@[simp] theorem lane_b (s : State) : s.lane .b = s.laneB := rfl

/-! ## setLane -/

@[simp] theorem setLane_pending (s : State) (l : Lane) (x : LaneState) : (s.setLane l x).pending = s.pending := by cases l <;> rfl
@[simp] theorem setLane_now (s : State) (l : Lane) (x : LaneState) : (s.setLane l x).now = s.now := by cases l <;> rfl
@[simp] theorem setLane_choices (s : State) (l : Lane) (x : LaneState) : (s.setLane l x).choices = s.choices := by cases l <;> rfl
@[simp] theorem setLane_resetAsserted (s : State) (l : Lane) (x : LaneState) : (s.setLane l x).resetAsserted = s.resetAsserted := by cases l <;> rfl
@[simp] theorem setLane_strap (s : State) (l : Lane) (x : LaneState) : (s.setLane l x).strap = s.strap := by cases l <;> rfl
@[simp] theorem setLane_overTemp (s : State) (l : Lane) (x : LaneState) : (s.setLane l x).overTemp = s.overTemp := by cases l <;> rfl
@[simp] theorem setLane_arm (s : State) (l : Lane) (x : LaneState) : (s.setLane l x).arm = s.arm := by cases l <;> rfl
@[simp] theorem setLane_profiles (s : State) (l : Lane) (x : LaneState) : (s.setLane l x).profiles = s.profiles := by cases l <;> rfl
@[simp] theorem setLane_roster (s : State) (l : Lane) (x : LaneState) : (s.setLane l x).roster = s.roster := by cases l <;> rfl
@[simp] theorem setLane_nameMap (s : State) (l : Lane) (x : LaneState) : (s.setLane l x).nameMap = s.nameMap := by cases l <;> rfl
@[simp] theorem setLane_range (s : State) (l : Lane) (x : LaneState) : (s.setLane l x).range = s.range := by cases l <;> rfl
@[simp] theorem setLane_seq (s : State) (l : Lane) (x : LaneState) : (s.setLane l x).seq = s.seq := by cases l <;> rfl
@[simp] theorem setLane_notices (s : State) (l : Lane) (x : LaneState) : (s.setLane l x).notices = s.notices := by cases l <;> rfl
@[simp] theorem setLane_lane (s : State) (l : Lane) (x : LaneState) : (s.setLane l x).lane l = x := by cases l <;> rfl
@[simp] theorem setLane_lane_other (s : State) (l : Lane) (x : LaneState) : (s.setLane l x).lane (otherLane l) = s.lane (otherLane l) := by cases l <;> rfl
@[simp] theorem setLane_lane_self (s : State) (l : Lane) : s.setLane l (s.lane l) = s := by cases l <;> rfl

/-! ## modLane -/

@[simp] theorem modLane_pending (l : Lane) (g : LaneState → LaneState) (s : State) : (modLane l g s).pending = s.pending := by cases l <;> rfl
@[simp] theorem modLane_now (l : Lane) (g : LaneState → LaneState) (s : State) : (modLane l g s).now = s.now := by cases l <;> rfl
@[simp] theorem modLane_choices (l : Lane) (g : LaneState → LaneState) (s : State) : (modLane l g s).choices = s.choices := by cases l <;> rfl
@[simp] theorem modLane_resetAsserted (l : Lane) (g : LaneState → LaneState) (s : State) : (modLane l g s).resetAsserted = s.resetAsserted := by cases l <;> rfl
@[simp] theorem modLane_strap (l : Lane) (g : LaneState → LaneState) (s : State) : (modLane l g s).strap = s.strap := by cases l <;> rfl
@[simp] theorem modLane_overTemp (l : Lane) (g : LaneState → LaneState) (s : State) : (modLane l g s).overTemp = s.overTemp := by cases l <;> rfl
@[simp] theorem modLane_arm (l : Lane) (g : LaneState → LaneState) (s : State) : (modLane l g s).arm = s.arm := by cases l <;> rfl
@[simp] theorem modLane_profiles (l : Lane) (g : LaneState → LaneState) (s : State) : (modLane l g s).profiles = s.profiles := by cases l <;> rfl
@[simp] theorem modLane_roster (l : Lane) (g : LaneState → LaneState) (s : State) : (modLane l g s).roster = s.roster := by cases l <;> rfl
@[simp] theorem modLane_nameMap (l : Lane) (g : LaneState → LaneState) (s : State) : (modLane l g s).nameMap = s.nameMap := by cases l <;> rfl
@[simp] theorem modLane_range (l : Lane) (g : LaneState → LaneState) (s : State) : (modLane l g s).range = s.range := by cases l <;> rfl
@[simp] theorem modLane_seq (l : Lane) (g : LaneState → LaneState) (s : State) : (modLane l g s).seq = s.seq := by cases l <;> rfl
@[simp] theorem modLane_notices (l : Lane) (g : LaneState → LaneState) (s : State) : (modLane l g s).notices = s.notices := by cases l <;> rfl
@[simp] theorem modLane_lane (l : Lane) (g : LaneState → LaneState) (s : State) : (modLane l g s).lane l = g (s.lane l) := by cases l <;> rfl
@[simp] theorem modLane_lane_other (l : Lane) (g : LaneState → LaneState) (s : State) :
    (modLane l g s).lane (otherLane l) = s.lane (otherLane l) := by cases l <;> rfl

/-- What a lane holds after an update of a lane, whichever of the two is asked for. -/
theorem modLane_lane_eq (l k : Lane) (g : LaneState → LaneState) (s : State) :
    (modLane l g s).lane k = if k = l then g (s.lane k) else s.lane k := by
  cases l <;> cases k <;> rfl


/-! ## modPower -/

@[simp] theorem modPower_pending (l : Lane) (g : Power → Power) (s : State) : (modPower l g s).pending = s.pending := by cases l <;> rfl
@[simp] theorem modPower_now (l : Lane) (g : Power → Power) (s : State) : (modPower l g s).now = s.now := by cases l <;> rfl
@[simp] theorem modPower_choices (l : Lane) (g : Power → Power) (s : State) : (modPower l g s).choices = s.choices := by cases l <;> rfl
@[simp] theorem modPower_resetAsserted (l : Lane) (g : Power → Power) (s : State) : (modPower l g s).resetAsserted = s.resetAsserted := by cases l <;> rfl
@[simp] theorem modPower_strap (l : Lane) (g : Power → Power) (s : State) : (modPower l g s).strap = s.strap := by cases l <;> rfl
@[simp] theorem modPower_overTemp (l : Lane) (g : Power → Power) (s : State) : (modPower l g s).overTemp = s.overTemp := by cases l <;> rfl
@[simp] theorem modPower_arm (l : Lane) (g : Power → Power) (s : State) : (modPower l g s).arm = s.arm := by cases l <;> rfl
@[simp] theorem modPower_profiles (l : Lane) (g : Power → Power) (s : State) : (modPower l g s).profiles = s.profiles := by cases l <;> rfl
@[simp] theorem modPower_roster (l : Lane) (g : Power → Power) (s : State) : (modPower l g s).roster = s.roster := by cases l <;> rfl
@[simp] theorem modPower_nameMap (l : Lane) (g : Power → Power) (s : State) : (modPower l g s).nameMap = s.nameMap := by cases l <;> rfl
@[simp] theorem modPower_range (l : Lane) (g : Power → Power) (s : State) : (modPower l g s).range = s.range := by cases l <;> rfl
@[simp] theorem modPower_seq (l : Lane) (g : Power → Power) (s : State) : (modPower l g s).seq = s.seq := by cases l <;> rfl
@[simp] theorem modPower_notices (l : Lane) (g : Power → Power) (s : State) : (modPower l g s).notices = s.notices := by cases l <;> rfl
@[simp] theorem modPower_lane (l : Lane) (g : Power → Power) (s : State) :
    (modPower l g s).lane l = { s.lane l with power := g (s.lane l).power } := by cases l <;> rfl
@[simp] theorem modPower_lane_other (l : Lane) (g : Power → Power) (s : State) :
    (modPower l g s).lane (otherLane l) = s.lane (otherLane l) := by cases l <;> rfl

/-- What a lane holds after `modPower`, whichever of the two is asked for. -/
theorem modPower_lane_eq (l k : Lane) (g : Power → Power) (s : State) :
    (modPower l g s).lane k = if k = l then { s.lane k with power := g (s.lane k).power } else s.lane k := by
  cases l <;> cases k <;> rfl


/-! ## modCensus -/

@[simp] theorem modCensus_pending (l : Lane) (g : Census → Census) (s : State) : (modCensus l g s).pending = s.pending := by cases l <;> rfl
@[simp] theorem modCensus_now (l : Lane) (g : Census → Census) (s : State) : (modCensus l g s).now = s.now := by cases l <;> rfl
@[simp] theorem modCensus_choices (l : Lane) (g : Census → Census) (s : State) : (modCensus l g s).choices = s.choices := by cases l <;> rfl
@[simp] theorem modCensus_resetAsserted (l : Lane) (g : Census → Census) (s : State) : (modCensus l g s).resetAsserted = s.resetAsserted := by cases l <;> rfl
@[simp] theorem modCensus_strap (l : Lane) (g : Census → Census) (s : State) : (modCensus l g s).strap = s.strap := by cases l <;> rfl
@[simp] theorem modCensus_overTemp (l : Lane) (g : Census → Census) (s : State) : (modCensus l g s).overTemp = s.overTemp := by cases l <;> rfl
@[simp] theorem modCensus_arm (l : Lane) (g : Census → Census) (s : State) : (modCensus l g s).arm = s.arm := by cases l <;> rfl
@[simp] theorem modCensus_profiles (l : Lane) (g : Census → Census) (s : State) : (modCensus l g s).profiles = s.profiles := by cases l <;> rfl
@[simp] theorem modCensus_roster (l : Lane) (g : Census → Census) (s : State) : (modCensus l g s).roster = s.roster := by cases l <;> rfl
@[simp] theorem modCensus_nameMap (l : Lane) (g : Census → Census) (s : State) : (modCensus l g s).nameMap = s.nameMap := by cases l <;> rfl
@[simp] theorem modCensus_range (l : Lane) (g : Census → Census) (s : State) : (modCensus l g s).range = s.range := by cases l <;> rfl
@[simp] theorem modCensus_seq (l : Lane) (g : Census → Census) (s : State) : (modCensus l g s).seq = s.seq := by cases l <;> rfl
@[simp] theorem modCensus_notices (l : Lane) (g : Census → Census) (s : State) : (modCensus l g s).notices = s.notices := by cases l <;> rfl
@[simp] theorem modCensus_lane (l : Lane) (g : Census → Census) (s : State) :
    (modCensus l g s).lane l = { s.lane l with census := g (s.lane l).census } := by cases l <;> rfl
@[simp] theorem modCensus_lane_other (l : Lane) (g : Census → Census) (s : State) :
    (modCensus l g s).lane (otherLane l) = s.lane (otherLane l) := by cases l <;> rfl

/-- What a lane holds after `modCensus`, whichever of the two is asked for. -/
theorem modCensus_lane_eq (l k : Lane) (g : Census → Census) (s : State) :
    (modCensus l g s).lane k = if k = l then { s.lane k with census := g (s.lane k).census } else s.lane k := by
  cases l <;> cases k <;> rfl


/-! ## modCounters -/

@[simp] theorem modCounters_pending (l : Lane) (g : LaneCounters → LaneCounters) (s : State) : (modCounters l g s).pending = s.pending := by cases l <;> rfl
@[simp] theorem modCounters_now (l : Lane) (g : LaneCounters → LaneCounters) (s : State) : (modCounters l g s).now = s.now := by cases l <;> rfl
@[simp] theorem modCounters_choices (l : Lane) (g : LaneCounters → LaneCounters) (s : State) : (modCounters l g s).choices = s.choices := by cases l <;> rfl
@[simp] theorem modCounters_resetAsserted (l : Lane) (g : LaneCounters → LaneCounters) (s : State) : (modCounters l g s).resetAsserted = s.resetAsserted := by cases l <;> rfl
@[simp] theorem modCounters_strap (l : Lane) (g : LaneCounters → LaneCounters) (s : State) : (modCounters l g s).strap = s.strap := by cases l <;> rfl
@[simp] theorem modCounters_overTemp (l : Lane) (g : LaneCounters → LaneCounters) (s : State) : (modCounters l g s).overTemp = s.overTemp := by cases l <;> rfl
@[simp] theorem modCounters_arm (l : Lane) (g : LaneCounters → LaneCounters) (s : State) : (modCounters l g s).arm = s.arm := by cases l <;> rfl
@[simp] theorem modCounters_profiles (l : Lane) (g : LaneCounters → LaneCounters) (s : State) : (modCounters l g s).profiles = s.profiles := by cases l <;> rfl
@[simp] theorem modCounters_roster (l : Lane) (g : LaneCounters → LaneCounters) (s : State) : (modCounters l g s).roster = s.roster := by cases l <;> rfl
@[simp] theorem modCounters_nameMap (l : Lane) (g : LaneCounters → LaneCounters) (s : State) : (modCounters l g s).nameMap = s.nameMap := by cases l <;> rfl
@[simp] theorem modCounters_range (l : Lane) (g : LaneCounters → LaneCounters) (s : State) : (modCounters l g s).range = s.range := by cases l <;> rfl
@[simp] theorem modCounters_seq (l : Lane) (g : LaneCounters → LaneCounters) (s : State) : (modCounters l g s).seq = s.seq := by cases l <;> rfl
@[simp] theorem modCounters_notices (l : Lane) (g : LaneCounters → LaneCounters) (s : State) : (modCounters l g s).notices = s.notices := by cases l <;> rfl
@[simp] theorem modCounters_lane (l : Lane) (g : LaneCounters → LaneCounters) (s : State) :
    (modCounters l g s).lane l = { s.lane l with counters := g (s.lane l).counters } := by cases l <;> rfl
@[simp] theorem modCounters_lane_other (l : Lane) (g : LaneCounters → LaneCounters) (s : State) :
    (modCounters l g s).lane (otherLane l) = s.lane (otherLane l) := by cases l <;> rfl

/-- What a lane holds after `modCounters`, whichever of the two is asked for. -/
theorem modCounters_lane_eq (l k : Lane) (g : LaneCounters → LaneCounters) (s : State) :
    (modCounters l g s).lane k = if k = l then { s.lane k with counters := g (s.lane k).counters } else s.lane k := by
  cases l <;> cases k <;> rfl


/-! ## modArm -/

@[simp] theorem modArm_pending (g : ArmLink → ArmLink) (s : State) : (modArm g s).pending = s.pending := rfl
@[simp] theorem modArm_now (g : ArmLink → ArmLink) (s : State) : (modArm g s).now = s.now := rfl
@[simp] theorem modArm_choices (g : ArmLink → ArmLink) (s : State) : (modArm g s).choices = s.choices := rfl
@[simp] theorem modArm_resetAsserted (g : ArmLink → ArmLink) (s : State) : (modArm g s).resetAsserted = s.resetAsserted := rfl
@[simp] theorem modArm_strap (g : ArmLink → ArmLink) (s : State) : (modArm g s).strap = s.strap := rfl
@[simp] theorem modArm_overTemp (g : ArmLink → ArmLink) (s : State) : (modArm g s).overTemp = s.overTemp := rfl
@[simp] theorem modArm_arm (g : ArmLink → ArmLink) (s : State) : (modArm g s).arm = g s.arm := rfl
@[simp] theorem modArm_laneA (g : ArmLink → ArmLink) (s : State) : (modArm g s).laneA = s.laneA := rfl
@[simp] theorem modArm_laneB (g : ArmLink → ArmLink) (s : State) : (modArm g s).laneB = s.laneB := rfl
@[simp] theorem modArm_profiles (g : ArmLink → ArmLink) (s : State) : (modArm g s).profiles = s.profiles := rfl
@[simp] theorem modArm_roster (g : ArmLink → ArmLink) (s : State) : (modArm g s).roster = s.roster := rfl
@[simp] theorem modArm_nameMap (g : ArmLink → ArmLink) (s : State) : (modArm g s).nameMap = s.nameMap := rfl
@[simp] theorem modArm_range (g : ArmLink → ArmLink) (s : State) : (modArm g s).range = s.range := rfl
@[simp] theorem modArm_seq (g : ArmLink → ArmLink) (s : State) : (modArm g s).seq = s.seq := rfl
@[simp] theorem modArm_notices (g : ArmLink → ArmLink) (s : State) : (modArm g s).notices = s.notices := rfl
@[simp] theorem modArm_lane (g : ArmLink → ArmLink) (s : State) (l : Lane) : (modArm g s).lane l = s.lane l := by cases l <;> rfl

/-! ## modSeq -/

@[simp] theorem modSeq_pending (g : Sequencer → Sequencer) (s : State) : (modSeq g s).pending = s.pending := rfl
@[simp] theorem modSeq_now (g : Sequencer → Sequencer) (s : State) : (modSeq g s).now = s.now := rfl
@[simp] theorem modSeq_choices (g : Sequencer → Sequencer) (s : State) : (modSeq g s).choices = s.choices := rfl
@[simp] theorem modSeq_resetAsserted (g : Sequencer → Sequencer) (s : State) : (modSeq g s).resetAsserted = s.resetAsserted := rfl
@[simp] theorem modSeq_strap (g : Sequencer → Sequencer) (s : State) : (modSeq g s).strap = s.strap := rfl
@[simp] theorem modSeq_overTemp (g : Sequencer → Sequencer) (s : State) : (modSeq g s).overTemp = s.overTemp := rfl
@[simp] theorem modSeq_arm (g : Sequencer → Sequencer) (s : State) : (modSeq g s).arm = s.arm := rfl
@[simp] theorem modSeq_laneA (g : Sequencer → Sequencer) (s : State) : (modSeq g s).laneA = s.laneA := rfl
@[simp] theorem modSeq_laneB (g : Sequencer → Sequencer) (s : State) : (modSeq g s).laneB = s.laneB := rfl
@[simp] theorem modSeq_profiles (g : Sequencer → Sequencer) (s : State) : (modSeq g s).profiles = s.profiles := rfl
@[simp] theorem modSeq_roster (g : Sequencer → Sequencer) (s : State) : (modSeq g s).roster = s.roster := rfl
@[simp] theorem modSeq_nameMap (g : Sequencer → Sequencer) (s : State) : (modSeq g s).nameMap = s.nameMap := rfl
@[simp] theorem modSeq_range (g : Sequencer → Sequencer) (s : State) : (modSeq g s).range = s.range := rfl
@[simp] theorem modSeq_seq (g : Sequencer → Sequencer) (s : State) : (modSeq g s).seq = g s.seq := rfl
@[simp] theorem modSeq_notices (g : Sequencer → Sequencer) (s : State) : (modSeq g s).notices = s.notices := rfl
@[simp] theorem modSeq_lane (g : Sequencer → Sequencer) (s : State) (l : Lane) : (modSeq g s).lane l = s.lane l := by cases l <;> rfl

/-! ## modLink -/

@[simp] theorem modLink_pending (g : LinkCounters → LinkCounters) (s : State) : (modLink g s).pending = s.pending := rfl
@[simp] theorem modLink_now (g : LinkCounters → LinkCounters) (s : State) : (modLink g s).now = s.now := rfl
@[simp] theorem modLink_choices (g : LinkCounters → LinkCounters) (s : State) : (modLink g s).choices = s.choices := rfl
@[simp] theorem modLink_resetAsserted (g : LinkCounters → LinkCounters) (s : State) : (modLink g s).resetAsserted = s.resetAsserted := rfl
@[simp] theorem modLink_strap (g : LinkCounters → LinkCounters) (s : State) : (modLink g s).strap = s.strap := rfl
@[simp] theorem modLink_overTemp (g : LinkCounters → LinkCounters) (s : State) : (modLink g s).overTemp = s.overTemp := rfl
@[simp] theorem modLink_laneA (g : LinkCounters → LinkCounters) (s : State) : (modLink g s).laneA = s.laneA := rfl
@[simp] theorem modLink_laneB (g : LinkCounters → LinkCounters) (s : State) : (modLink g s).laneB = s.laneB := rfl
@[simp] theorem modLink_profiles (g : LinkCounters → LinkCounters) (s : State) : (modLink g s).profiles = s.profiles := rfl
@[simp] theorem modLink_roster (g : LinkCounters → LinkCounters) (s : State) : (modLink g s).roster = s.roster := rfl
@[simp] theorem modLink_nameMap (g : LinkCounters → LinkCounters) (s : State) : (modLink g s).nameMap = s.nameMap := rfl
@[simp] theorem modLink_range (g : LinkCounters → LinkCounters) (s : State) : (modLink g s).range = s.range := rfl
@[simp] theorem modLink_seq (g : LinkCounters → LinkCounters) (s : State) : (modLink g s).seq = s.seq := rfl
@[simp] theorem modLink_notices (g : LinkCounters → LinkCounters) (s : State) : (modLink g s).notices = s.notices := rfl
@[simp] theorem modLink_arm (g : LinkCounters → LinkCounters) (s : State) :
    (modLink g s).arm = { s.arm with counters := g s.arm.counters } := rfl
@[simp] theorem modLink_lane (g : LinkCounters → LinkCounters) (s : State) (l : Lane) : (modLink g s).lane l = s.lane l := by cases l <;> rfl

/-! ## setEntry -/

@[simp] theorem setEntry_pending (i : Nat) (e : Option Entry) (s : State) : (setEntry i e s).pending = s.pending := rfl
@[simp] theorem setEntry_now (i : Nat) (e : Option Entry) (s : State) : (setEntry i e s).now = s.now := rfl
@[simp] theorem setEntry_choices (i : Nat) (e : Option Entry) (s : State) : (setEntry i e s).choices = s.choices := rfl
@[simp] theorem setEntry_resetAsserted (i : Nat) (e : Option Entry) (s : State) : (setEntry i e s).resetAsserted = s.resetAsserted := rfl
@[simp] theorem setEntry_strap (i : Nat) (e : Option Entry) (s : State) : (setEntry i e s).strap = s.strap := rfl
@[simp] theorem setEntry_overTemp (i : Nat) (e : Option Entry) (s : State) : (setEntry i e s).overTemp = s.overTemp := rfl
@[simp] theorem setEntry_arm (i : Nat) (e : Option Entry) (s : State) : (setEntry i e s).arm = s.arm := rfl
@[simp] theorem setEntry_laneA (i : Nat) (e : Option Entry) (s : State) : (setEntry i e s).laneA = s.laneA := rfl
@[simp] theorem setEntry_laneB (i : Nat) (e : Option Entry) (s : State) : (setEntry i e s).laneB = s.laneB := rfl
@[simp] theorem setEntry_profiles (i : Nat) (e : Option Entry) (s : State) : (setEntry i e s).profiles = s.profiles := rfl
@[simp] theorem setEntry_nameMap (i : Nat) (e : Option Entry) (s : State) : (setEntry i e s).nameMap = s.nameMap := rfl
@[simp] theorem setEntry_range (i : Nat) (e : Option Entry) (s : State) : (setEntry i e s).range = s.range := rfl
@[simp] theorem setEntry_seq (i : Nat) (e : Option Entry) (s : State) : (setEntry i e s).seq = s.seq := rfl
@[simp] theorem setEntry_notices (i : Nat) (e : Option Entry) (s : State) : (setEntry i e s).notices = s.notices := rfl
@[simp] theorem setEntry_roster (i : Nat) (e : Option Entry) (s : State) : (setEntry i e s).roster = s.roster.set i e := rfl
@[simp] theorem setEntry_lane (i : Nat) (e : Option Entry) (s : State) (l : Lane) : (setEntry i e s).lane l = s.lane l := by cases l <;> rfl

/-! ## setMap -/

@[simp] theorem setMap_pending (i : Nat) (m : Option MapEntry) (s : State) : (setMap i m s).pending = s.pending := rfl
@[simp] theorem setMap_now (i : Nat) (m : Option MapEntry) (s : State) : (setMap i m s).now = s.now := rfl
@[simp] theorem setMap_choices (i : Nat) (m : Option MapEntry) (s : State) : (setMap i m s).choices = s.choices := rfl
@[simp] theorem setMap_resetAsserted (i : Nat) (m : Option MapEntry) (s : State) : (setMap i m s).resetAsserted = s.resetAsserted := rfl
@[simp] theorem setMap_strap (i : Nat) (m : Option MapEntry) (s : State) : (setMap i m s).strap = s.strap := rfl
@[simp] theorem setMap_overTemp (i : Nat) (m : Option MapEntry) (s : State) : (setMap i m s).overTemp = s.overTemp := rfl
@[simp] theorem setMap_arm (i : Nat) (m : Option MapEntry) (s : State) : (setMap i m s).arm = s.arm := rfl
@[simp] theorem setMap_laneA (i : Nat) (m : Option MapEntry) (s : State) : (setMap i m s).laneA = s.laneA := rfl
@[simp] theorem setMap_laneB (i : Nat) (m : Option MapEntry) (s : State) : (setMap i m s).laneB = s.laneB := rfl
@[simp] theorem setMap_profiles (i : Nat) (m : Option MapEntry) (s : State) : (setMap i m s).profiles = s.profiles := rfl
@[simp] theorem setMap_roster (i : Nat) (m : Option MapEntry) (s : State) : (setMap i m s).roster = s.roster := rfl
@[simp] theorem setMap_range (i : Nat) (m : Option MapEntry) (s : State) : (setMap i m s).range = s.range := rfl
@[simp] theorem setMap_seq (i : Nat) (m : Option MapEntry) (s : State) : (setMap i m s).seq = s.seq := rfl
@[simp] theorem setMap_notices (i : Nat) (m : Option MapEntry) (s : State) : (setMap i m s).notices = s.notices := rfl
@[simp] theorem setMap_nameMap (i : Nat) (m : Option MapEntry) (s : State) : (setMap i m s).nameMap = s.nameMap.set i m := rfl

/-! ## restOf -/

@[simp] theorem restOf_now (s : State) (rest : List Instr) : (s.restOf rest).now = s.now := rfl
@[simp] theorem restOf_choices (s : State) (rest : List Instr) : (s.restOf rest).choices = s.choices := rfl
@[simp] theorem restOf_resetAsserted (s : State) (rest : List Instr) : (s.restOf rest).resetAsserted = s.resetAsserted := rfl
@[simp] theorem restOf_strap (s : State) (rest : List Instr) : (s.restOf rest).strap = s.strap := rfl
@[simp] theorem restOf_overTemp (s : State) (rest : List Instr) : (s.restOf rest).overTemp = s.overTemp := rfl
@[simp] theorem restOf_arm (s : State) (rest : List Instr) : (s.restOf rest).arm = s.arm := rfl
@[simp] theorem restOf_laneA (s : State) (rest : List Instr) : (s.restOf rest).laneA = s.laneA := rfl
@[simp] theorem restOf_laneB (s : State) (rest : List Instr) : (s.restOf rest).laneB = s.laneB := rfl
@[simp] theorem restOf_profiles (s : State) (rest : List Instr) : (s.restOf rest).profiles = s.profiles := rfl
@[simp] theorem restOf_roster (s : State) (rest : List Instr) : (s.restOf rest).roster = s.roster := rfl
@[simp] theorem restOf_nameMap (s : State) (rest : List Instr) : (s.restOf rest).nameMap = s.nameMap := rfl
@[simp] theorem restOf_range (s : State) (rest : List Instr) : (s.restOf rest).range = s.range := rfl
@[simp] theorem restOf_seq (s : State) (rest : List Instr) : (s.restOf rest).seq = s.seq := rfl
@[simp] theorem restOf_notices (s : State) (rest : List Instr) : (s.restOf rest).notices = s.notices := rfl
@[simp] theorem restOf_pending (s : State) (rest : List Instr) : (s.restOf rest).pending = rest := rfl

end Sys2Proof.Machine
end

