-- ==== Sys2Proof/Laws/Ops.lean ====
section
/-! SUPPORT. Laws/Ops.lean: what the shared operations can do: tables, notices, the outbound queue, and the relation `KeepsPower` that every operation
of the buses, the census, the roster, naming and the sequencer keeps. -/

namespace Sys2Proof.Machine

/-! ## Timers -/

/-- A timer that is not running has not run out. -/
@[simp] theorem ranOut_none (now : Nat) : ranOut now none = false := rfl

/-- A timer has run out exactly when it runs and its moment has come (so a timer restarted since does not count). -/
theorem ranOut_iff {now : Nat} {timer : Option Nat} : ranOut now timer = true ↔ ∃ moment, timer = some moment ∧ moment ≤ now := by
  cases timer <;> simp [ranOut]

/-! ## Tables -/

/-- A slot that was written reads back what was written. -/
theorem entry_setEntry_same {s : State} {i : Nat} (h : i < s.roster.length) (e : Option Entry) : (setEntry i e s).entry i = e := by
  simp [State.entry, List.getD, h]

/-- Another slot reads as before. -/
theorem entry_setEntry_ne {s : State} {i j : Nat} (h : i ≠ j) (e : Option Entry) : (setEntry i e s).entry j = s.entry j := by
  simp [State.entry, List.getD, List.getElem?_set_ne h]

/-- A slot beyond the roster holds nothing. -/
theorem entry_eq_none {s : State} {i : Nat} (h : s.roster.length ≤ i) : s.entry i = none := by
  simp [State.entry, List.getD, List.getElem?_eq_none h]

/-- An occupied slot lies in the roster. -/
theorem slot_lt_of_entry {s : State} {i : Nat} {e : Entry} (h : s.entry i = some e) : i < s.roster.length := by
  by_contra hn
  rw [entry_eq_none (by omega)] at h
  cases h

/-- What `firstFrom` finds stands in the table at that index and satisfies the test. -/
theorem firstFrom_some {α : Type} {p : α → Bool} {n i : Nat} {t : List (Option α)} {x : α} (h : firstFrom p n t = some (i, x)) :
    n ≤ i ∧ t[i - n]? = some (some x) ∧ p x = true := by
  induction t generalizing n with
  | nil => simp [firstFrom] at h
  | cons y rest ih =>
    cases y with
    | none =>
      obtain ⟨h1, h2, h3⟩ := ih (n := n + 1) h
      refine ⟨by omega, ?_, h3⟩
      rw [show i - n = (i - (n + 1)) + 1 by omega]
      exact h2
    | some y =>
      simp only [firstFrom] at h
      split at h
      · obtain ⟨rfl, rfl⟩ := Prod.mk.inj (Option.some.inj h)
        simp_all
      · obtain ⟨h1, h2, h3⟩ := ih (n := n + 1) h
        refine ⟨by omega, ?_, h3⟩
        rw [show i - n = (i - (n + 1)) + 1 by omega]
        exact h2

/-- Where `firstFrom` finds nothing, no entry of the table satisfies the test. -/
theorem firstFrom_none {α : Type} {p : α → Bool} {n : Nat} {t : List (Option α)} (h : firstFrom p n t = none) (i : Nat) (x : α)
    (hx : t[i]? = some (some x)) : p x = false := by
  induction t generalizing n i with
  | nil => simp at hx
  | cons y rest ih =>
    cases y with
    | none =>
      cases i with
      | zero => simp at hx
      | succ i => exact ih (n := n + 1) h i hx
    | some y =>
      simp only [firstFrom] at h
      split at h
      · cases h
      · next hp =>
        cases i with
        | zero =>
          simp at hx
          subst hx
          simpa using hp
        | succ i => exact ih h i hx

/-- A roster search finds an entry that stands in the slot it names. -/
theorem findEntry_some {s : State} {p : Entry → Bool} {i : Nat} {e : Entry} (h : s.findEntry p = some (i, e)) :
    s.entry i = some e ∧ p e = true := by
  obtain ⟨-, h2, h3⟩ := firstFrom_some h
  exact ⟨by simpa [State.entry, List.getD] using congrArg (Option.getD · none) h2, h3⟩

/-- A roster search that finds nothing says so of every slot. -/
theorem findEntry_none {s : State} {p : Entry → Bool} (h : s.findEntry p = none) {i : Nat} {e : Entry} (he : s.entry i = some e) :
    p e = false := by
  have hi := slot_lt_of_entry he
  refine firstFrom_none h i e ?_
  have : s.roster[i]? = some s.roster[i] := List.getElem?_eq_getElem hi
  simp only [State.entry, List.getD, this, Option.getD_some] at he
  rw [this, he]

/-! ## Counters -/

/-- A counter stays a 16-bit value (R194). -/
theorem addSat_le (n : Nat) : addSat n ≤ 65535 := by simp [addSat]

/-! ## Notices -/

/-- All that `notify` can do (R187 to R189): nothing for a masked notice; a record at the back while there is room; else the record takes the
newest one's place with its mark set. -/
theorem notify_cases (n : Notice) (s : State) :
    (s.notices.masks.passes n = false ∧ notify n s = s) ∨
    (s.notices.masks.passes n = true ∧ s.notices.queue.length < noticeCapacity ∧
      notify n s = { s with notices := { s.notices with queue := s.notices.queue ++ [⟨n, false⟩] } }) ∨
    (s.notices.masks.passes n = true ∧ noticeCapacity ≤ s.notices.queue.length ∧
      notify n s = { s with notices := { s.notices with queue := s.notices.queue.dropLast ++ [⟨n, true⟩] } }) := by
  unfold notify pushNotice
  by_cases h : s.notices.masks.passes n = true
  · by_cases hq : s.notices.queue.length < noticeCapacity
    · simp [h, hq]
    · simp [h, hq]; omega
  · simp at h; simp [h]

/-- `notify` touches the notice queue alone. -/
theorem notify_frame (n : Notice) (s : State) : notify n s = { s with notices := (notify n s).notices } := by
  unfold notify; split <;> rfl

@[simp] theorem notify_masks (n : Notice) (s : State) : (notify n s).notices.masks = s.notices.masks := by
  unfold notify; split <;> rfl

@[simp] theorem notify_lane (n : Notice) (s : State) (l : Lane) : (notify n s).lane l = s.lane l := by
  rw [notify_frame]; cases l <;> rfl

@[simp] theorem notify_entry (n : Notice) (s : State) (i : Nat) : (notify n s).entry i = s.entry i := by rw [notify_frame]; rfl

/-- The notice queue stays within its capacity (R188). -/
theorem notify_length {n : Notice} {s : State} (h : s.notices.queue.length ≤ noticeCapacity) :
    (notify n s).notices.queue.length ≤ noticeCapacity := by
  obtain ⟨-, h1⟩ | ⟨-, hq, h1⟩ | ⟨-, hq, h1⟩ := notify_cases n s <;> rw [h1] <;> simp [noticeCapacity] at * <;> omega

/-! ## The outbound queue -/

/-- All that `offer` can do (R15): the frame takes a place, or it is dropped and counted. -/
theorem offer_cases (f : ArmFrame) (s : State) :
    (s.arm.linkUp = true ∧ s.arm.outbound.length < outboundCapacity ∧
      offer f s = { s with arm := { s.arm with outbound := s.arm.outbound ++ [f] } }) ∨
    ((s.arm.linkUp = false ∨ outboundCapacity ≤ s.arm.outbound.length) ∧
      offer f s = { s with arm := { s.arm with counters :=
        { s.arm.counters with outboundDrops := addSat s.arm.counters.outboundDrops } } }) := by
  unfold offer
  by_cases hu : s.arm.linkUp = true <;> by_cases hq : s.arm.outbound.length < outboundCapacity
  · exact .inl ⟨hu, hq, by simp [hu, hq, modArm]⟩
  · exact .inr ⟨.inr (by omega), by rw [if_neg (by simp [hq])]; rfl⟩
  · exact .inr ⟨.inl (by simpa using hu), by rw [if_neg (by simp [hu])]; rfl⟩
  · exact .inr ⟨.inl (by simpa using hu), by rw [if_neg (by simp [hu])]; rfl⟩

/-- `offer` touches the arm link alone. -/
theorem offer_frame (f : ArmFrame) (s : State) : offer f s = { s with arm := (offer f s).arm } := by
  obtain ⟨-, -, h⟩ | ⟨-, h⟩ := offer_cases f s <;> rw [h]

@[simp] theorem offer_lane (f : ArmFrame) (s : State) (l : Lane) : (offer f s).lane l = s.lane l := by
  rw [offer_frame]; cases l <;> rfl

/-- The outbound queue stays within its capacity (R15). -/
theorem offer_length {f : ArmFrame} {s : State} (h : s.arm.outbound.length ≤ outboundCapacity) :
    (offer f s).arm.outbound.length ≤ outboundCapacity := by
  obtain ⟨-, hq, h1⟩ | ⟨-, h1⟩ := offer_cases f s <;> rw [h1] <;> simp <;> omega

/-! ## Cycle outcomes -/

/-- All that the outcome of a cycle exchange can do (R163): FRESH for OK, else the store test with the fingerprint of the reference; then the cursor walks on. -/
theorem cycleOutcome_cases (l : Lane) (i : Nat) (f : Fingerprint) (o : ExchangeOutcome) (payload : List Octet) (s : State) :
    (o = .ok ∧ cycleOutcome l i f o payload s = walkOn l (i + 1) (settleFresh i payload f s)) ∨
    (o ≠ .ok ∧ cycleOutcome l i f o payload s = walkOn l (i + 1) (storeTest i f s)) := by
  cases o <;> simp [cycleOutcome]

/-! ## Silence checks -/

/-- All that `silenceDue` can do (R113): nothing, or the check of a LIVE entry whose silence period has given none becomes pending and is given. -/
theorem silenceDue_cases (slot : Nat) (s : State) :
    silenceDue slot s = s ∨
    ∃ e, s.entry slot = some e ∧ e.state = .live ∧ e.checked = false ∧
      reached s.now (s.lane e.lane).options.silenceInterval e.silenceFrom = true ∧
      silenceDue slot s = setEntry slot (some { e with echo := true, checked := true }) s := by
  unfold silenceDue
  split
  · next e he =>
    split
    · next h => exact .inr ⟨e, he, by simpa [State.givesCheck, and_assoc] using h⟩
    · exact .inl rfl
  · exact .inl rfl

/-! ## Completeness -/

/-- All that `evalComplete` can do (R137, R138): nothing, or the value changes and a COMPLETE notice is produced. -/
theorem evalComplete_cases (l : Lane) (s : State) :
    (s.completeNow l = (s.lane l).complete ∧ evalComplete l s = s) ∨
    (s.completeNow l = !(s.lane l).complete ∧
      evalComplete l s = notify (.complete l (s.completeNow l) (s.unsatisfied l))
        (modLane l (fun x => { x with complete := s.completeNow l }) s)) := by
  unfold evalComplete
  by_cases h : s.completeNow l = (s.lane l).complete
  · exact .inl ⟨h, if_pos h⟩
  · exact .inr ⟨by cases hx : s.completeNow l <;> cases hy : (s.lane l).complete <;> simp_all, if_neg h⟩

end Sys2Proof.Machine
end

