-- ==== Sys2Proof/Laws/Census.lean ====
section
/-! SUPPORT. Laws/Census.lean: what the walk of a census can do, once and for all: how a run ends, how it goes on, and what becomes of its finds. -/

namespace Sys2Proof.Machine

/-- The end of a run is the state that R89 describes. -/
theorem endCensus_eq (l : Lane) (o : CensusOutcome) (s : State) : endCensus l o s = s.runEnded l o := by cases l <;> rfl

/-- The walk goes on as R75 step 3 and R80 say. -/
theorem nextRecord_eq (l : Lane) (s : State) : nextRecord l s = s.walkedOn l := by
  unfold nextRecord State.walkedOn
  rw [endCensus_eq]
  generalize hc : (s.lane l).census = c
  have key (p : Prefix) (f : Census → Census) : offerProbe l p 1 [] (modCensus l f s) =
      s.withCensus l { f c with hand := some ⟨p, 1, [], []⟩, offer := some (.probe p) } := by
    rw [← hc]; cases l <;> rfl
  simp only [key]
  rcases c with ⟨_, _, _ | ⟨q, w⟩⟩ <;> rfl

/-- Duplicates are declared one after another. -/
theorem declareDuplicate_foldl (l : Lane) (x : Bool) (fs : List Fingerprint) (s : State) :
    fs.foldl (fun s f => declareDuplicate l f x s) s = s.withDuplicates l x fs := by
  induction fs generalizing s with
  | nil => rfl
  | cons f fs ih =>
    rw [List.foldl_cons, ih, State.withDuplicates]
    cases l <;> rfl

/-- The slots a probe leaves open are declared as R79 says. -/
theorem declareOpen_eq (l : Lane) (h : ProbeInHand) (s : State) :
    declareOpen l h s = s.withDuplicates l false (h.openSlots.map (fun k => (h.prefx.forSlot k).bits)) := by
  rw [← declareDuplicate_foldl, List.foldl_map]
  rfl

/-- A run that goes keeps completeness off (R136). -/
theorem evalComplete_running {l : Lane} {s : State} (hr : (s.lane l).census.run ≠ .idle) (hc : (s.lane l).complete = false) :
    evalComplete l s = s := by
  have : s.completeNow l = false := by simp [State.completeNow, State.censusRunning, hr]
  rw [evalComplete, if_pos (this.trans hc.symm)]

/-! ## The lowest free slot and address -/

/-- The lowest free roster slot is found where there is one. -/
theorem freeSlot_eq {s : State} {slot : Nat} (hlt : slot < 32) (h : s.entry slot = none) (hlow : ∀ j, j < slot → s.entry j ≠ none) :
    s.freeSlot = some slot := by
  rw [State.freeSlot, List.find?_range_eq_some]
  exact ⟨by simp [h], List.mem_range.mpr hlt, fun j hj => by simpa [Option.isSome_iff_ne_none] using hlow j hj⟩

/-- No slot is found in a full roster. -/
theorem freeSlot_none {s : State} (h : ∀ j, j < 32 → s.entry j ≠ none) : s.freeSlot = none := by
  rw [State.freeSlot, List.find?_eq_none]
  intro j hj
  simpa [Option.isNone_iff_eq_none] using h j (List.mem_range.mp hj)

/-- The roster search for a lane's address finds nothing exactly when no entry of the lane has it. -/
theorem address_search {s : State} {l : Lane} {a : Nat} :
    (s.findEntry (fun e => e.lane == l && e.address == a)).isNone = true ↔ ∀ j e, s.entry j = some e → e.lane = l → e.address ≠ a := by
  rw [Option.isNone_iff_eq_none]
  constructor
  · intro h j e he hl ha
    have := findEntry_none h he
    simp [hl, ha] at this
  · intro h
    cases hf : s.findEntry (fun e => e.lane == l && e.address == a) with
    | none => rfl
    | some x =>
      obtain ⟨he, hp⟩ := findEntry_some (i := x.1) (e := x.2) hf
      simp at hp
      exact absurd hp.2 (h _ _ he hp.1)

/-- The lowest free address is found where there is one. -/
theorem freeAddress_eq {s : State} {l : Lane} {a : Nat} (h : s.addressLowest l a) : s.freeAddress l = some a := by
  obtain ⟨⟨h1, h2, h3⟩, hlow⟩ := h
  rw [State.freeAddress, List.find?_range'_eq_some]
  refine ⟨address_search.mpr h3, by simp; omega, fun j hj hja => ?_⟩
  rw [Bool.not_eq_true', ← Bool.not_eq_true, address_search]
  exact fun hn => hlow j hja ⟨hj, by omega, hn⟩

/-- No address is found where none is free. -/
theorem freeAddress_none {s : State} {l : Lane} (h : ∀ a, ¬ s.addressFree l a) : s.freeAddress l = none := by
  rw [State.freeAddress, List.find?_eq_none]
  intro a ha hs
  obtain ⟨h1, h2⟩ := List.mem_range'_1.mp ha
  exact h a ⟨h1, by omega, address_search.mp hs⟩

/-- The fingerprint search finds the one entry that holds it. -/
theorem entryWithFp_eq {s : State} {slot : Nat} {e : Entry} {f : Fingerprint} (he : s.entry slot = some e) (hf : e.fp = f)
    (hone : ∀ j y, s.entry j = some y → y.fp = f → j = slot) : s.entryWithFp f = some (slot, e) := by
  cases hs : s.entryWithFp f with
  | none => simpa [hf] using findEntry_none hs he
  | some x =>
    obtain ⟨hx, hp⟩ := findEntry_some (i := x.1) (e := x.2) hs
    obtain rfl := hone _ _ hx (by simpa using hp)
    rw [he] at hx
    cases hx
    rfl

/-- The fingerprint search finds nothing where no entry holds it. -/
theorem entryWithFp_none {s : State} {f : Fingerprint} (h : ∀ j e, s.entry j = some e → e.fp ≠ f) : s.entryWithFp f = none := by
  cases hs : s.entryWithFp f with
  | none => rfl
  | some x =>
    obtain ⟨hx, hp⟩ := findEntry_some (i := x.1) (e := x.2) hs
    exact absurd (by simpa using hp) (h _ _ hx)

/-! ## What naming and removal leave alone -/

/-- What identifies the device of an entry: its lane, address and fingerprint. -/
def Entry.device (e : Entry) : Lane × Nat × Fingerprint := (e.lane, e.address, e.fp)

/-- What no naming and no re-resolution touches: of a lane all but its completeness, which a going run keeps off; which device stands in which
slot; every entry but those in the slots that satisfy `P`; and the size of the roster. -/
structure KeepsDevices (P : Nat → Prop) (s t : State) : Prop where
  lane : ∀ k, t.lane k = { s.lane k with complete := (t.lane k).complete }
  off : ∀ k, (s.lane k).census.run ≠ .idle → (s.lane k).complete = false → (t.lane k).complete = false
  devices : ∀ j, (t.entry j).map Entry.device = (s.entry j).map Entry.device
  others : ∀ j, ¬ P j → t.entry j = s.entry j
  size : t.roster.length = s.roster.length

variable {P : Nat → Prop}

theorem KeepsDevices.refl (s : State) : KeepsDevices P s s := ⟨fun _ => rfl, fun _ _ h => h, fun _ => rfl, fun _ _ => rfl, rfl⟩

theorem KeepsDevices.trans {s t u : State} (h : KeepsDevices P s t) (k : KeepsDevices P t u) : KeepsDevices P s u where
  lane l := by rw [k.lane l, h.lane l]
  off l hr hc := k.off l (by rw [h.lane l]; exact hr) (h.off l hr hc)
  devices j := (k.devices j).trans (h.devices j)
  others j hj := (k.others j hj).trans (h.others j hj)
  size := k.size.trans h.size

/-- A lane with a run going and its completeness off keeps all it holds. -/
theorem KeepsDevices.laneSame {s t : State} (h : KeepsDevices P s t) {l : Lane} (hr : (s.lane l).census.run ≠ .idle)
    (hc : (s.lane l).complete = false) : t.lane l = s.lane l := by rw [h.lane l, h.off l hr hc, ← hc]

theorem notify_keepsDevices (n : Notice) (s : State) : KeepsDevices P s (notify n s) :=
  ⟨fun k => by rw [notify_lane], fun k _ hc => by rw [notify_lane]; exact hc, fun j => by rw [notify_entry], fun j _ => by rw [notify_entry],
    by rw [notify_frame]⟩

theorem setEntry_keepsDevices {slot : Nat} {e f : Entry} {s : State} (hP : P slot) (he : s.entry slot = some e) (hd : f.device = e.device) :
    KeepsDevices P s (setEntry slot (some f) s) := by
  refine ⟨fun k => by rw [setEntry_lane], fun k _ hc => by rw [setEntry_lane]; exact hc, fun j => ?_, fun j hj => ?_, by simp⟩
  · by_cases h : slot = j
    · subst h
      rw [entry_setEntry_same (slot_lt_of_entry he), he, Option.map_some, Option.map_some, hd]
    · rw [entry_setEntry_ne h]
  · exact entry_setEntry_ne (fun h : slot = j => hj (h ▸ hP)) _

theorem evalComplete_keepsDevices (l : Lane) (s : State) : KeepsDevices P s (evalComplete l s) := by
  obtain ⟨-, h⟩ | ⟨-, h⟩ := evalComplete_cases l s <;> rw [h]
  · exact .refl s
  · refine ⟨fun k => by rw [notify_lane, modLane_lane_eq]; split <;> rfl, fun k hr hc => ?_, fun j => ?_, fun j _ => ?_, ?_⟩
    · have hoff : s.completeNow k = false := by simp [State.completeNow, State.censusRunning, hr]
      rw [notify_lane, modLane_lane_eq]
      split
      · next hk => rw [← hk]; exact hoff
      · exact hc
    · rw [notify_entry]; cases l <;> rfl
    · rw [notify_entry]; cases l <;> rfl
    · rw [notify_frame]; cases l <;> rfl

theorem moveEntry_keepsDevices {f : Entry → Entry} (hf : ∀ e, (f e).device = e.device) {slot : Nat} (hP : P slot) (d : DeviceDetail)
    (c : DeviceCause) (s : State) : KeepsDevices P s (moveEntry slot f d c s) := by
  unfold moveEntry; split
  · next e he => exact (setEntry_keepsDevices hP he (hf e)).trans (notify_keepsDevices ..)
  · exact .refl s

theorem modEntry_keepsDevices {f : Entry → Entry} (hf : ∀ e, (f e).device = e.device) {slot : Nat} (hP : P slot) (s : State) :
    KeepsDevices P s (modEntry slot f s) := by
  unfold modEntry; split
  · next e he => exact setEntry_keepsDevices hP he (hf e)
  · exact .refl s

theorem enterProving_keepsDevices {slot : Nat} (hP : P slot) (c : DeviceCause) (s : State) : KeepsDevices P s (enterProving slot c s) := by
  refine (moveEntry_keepsDevices (f := Entry.toProving c) (fun _ => rfl) hP .proving c s).trans ?_
  unfold enterProving proveOrEcho; split
  · next e he =>
    split
    · exact moveEntry_keepsDevices (f := Entry.toLive _) (fun _ => rfl) hP ..
    · exact setEntry_keepsDevices hP he rfl
  · exact .refl _

theorem holdEntry_keepsDevices {slot : Nat} (hP : P slot) (w : HeldReason) (s : State) : KeepsDevices P s (holdEntry slot w s) := by
  unfold holdEntry; split
  · next e he =>
    split
    · exact setEntry_keepsDevices hP he rfl
    · refine moveEntry_keepsDevices ?_ hP ..
      exact fun _ => rfl
  · exact .refl s

theorem notifyNamed_keepsDevices (slot : Nat) (c : Carried) (s : State) : KeepsDevices P s (notifyNamed slot c s) := by
  unfold notifyNamed; split
  · exact notify_keepsDevices ..
  · exact .refl s

theorem nameAndProve_keepsDevices {slot : Nat} (hP : P slot) (l : Lane) (c : Carried) (cause : DeviceCause) (s : State) :
    KeepsDevices P s (nameAndProve slot l c cause s) := by
  refine KeepsDevices.trans (t := giveName slot c s) ?_ ((enterProving_keepsDevices hP ..).trans ((notifyNamed_keepsDevices ..).trans
    (evalComplete_keepsDevices ..)))
  refine modEntry_keepsDevices ?_ hP s
  exact fun _ => rfl

theorem setRange_keepsDevices (r : NameRange) (s : State) : KeepsDevices P s { s with range := r } :=
  ⟨fun k => by cases k <;> rfl, fun k _ hc => by cases k <;> exact hc, fun _ => rfl, fun _ _ => rfl, rfl⟩

theorem resolveEntry_keepsDevices {slot : Nat} (hP : P slot) (cause : DeviceCause) (s : State) :
    KeepsDevices P s (resolveEntry slot cause s) := by
  unfold resolveEntry; split
  · split
    · exact (setRange_keepsDevices ..).trans (nameAndProve_keepsDevices hP ..)
    · exact (holdEntry_keepsDevices hP ..).trans (evalComplete_keepsDevices ..)
  · exact .refl s

/-- Re-resolution changes HELD entries alone (R132). -/
theorem reresolveHeld_keepsDevices (s : State) : KeepsDevices (fun j => s.slotHeld j = true) s (reresolveHeld s) := by
  suffices h : ∀ (P : Nat → Prop) (js : List Nat) (s : State), (∀ j, s.slotHeld j = true → P j) → KeepsDevices P s (js.foldl reresolveSlot s) from
    h _ _ s (fun _ h => h)
  intro P js
  induction js with
  | nil => exact fun s _ => .refl s
  | cons j js ih =>
    intro s hP
    have hj : KeepsDevices P s (reresolveSlot s j) := by
      unfold reresolveSlot; split
      · next h => exact resolveEntry_keepsDevices (hP j h) ..
      · exact .refl s
    refine hj.trans (ih _ fun i hi => ?_)
    by_contra hn
    rw [State.slotHeld, hj.others i hn] at hi
    exact hn (hP i hi)

/-- What the removal of an entry leaves alone (R115): the slot is free, a lane keeps all but its completeness, and every other entry but a HELD
one is as before; which device stands in any other slot too. -/
theorem removeEntry_spec {slot : Nat} {e : Entry} {s : State} (he : s.entry slot = some e) (cause : DeviceCause) :
    let t := removeEntry slot cause s
    t.entry slot = none ∧
      (∀ k, (s.lane k).census.run ≠ .idle → (s.lane k).complete = false → t.lane k = s.lane k) ∧
      (∀ j, j ≠ slot → (t.entry j).map Entry.device = (s.entry j).map Entry.device) ∧
      (∀ j y, j ≠ slot → s.entry j = some y → y.state ≠ .held → t.entry j = some y) ∧ t.roster.length = s.roster.length := by
  have h0 := entry_setEntry_same (slot_lt_of_entry he) (s := s) none
  have hk : KeepsDevices (fun j => (setEntry slot none s).slotHeld j = true) (notify (deviceNotice e .departed cause) (setEntry slot none s))
      (removeEntry slot cause s) := by
    rw [removeEntry, he]
    have := reresolveHeld_keepsDevices (notify (deviceNotice e .departed cause) (setEntry slot none s))
    simp only [State.slotHeld, notify_entry] at this
    exact this.trans ((evalComplete_keepsDevices ..).trans (evalComplete_keepsDevices ..))
  refine ⟨?_, fun k hr hc => ?_, fun j hj => ?_, fun j y hj hy hs => ?_, ?_⟩
  · simpa [h0] using hk.devices slot
  · simpa using hk.laneSame (l := k) (by simpa using hr) (by simpa using hc)
  · simpa [entry_setEntry_ne hj.symm] using hk.devices j
  · have := hk.others j (by simp [State.slotHeld, entry_setEntry_ne hj.symm, hy, hs])
    simpa [entry_setEntry_ne hj.symm, hy] using this
  · rw [hk.size, notify_frame]; simp

/-! ## The walk -/

/-- Sets the probe in hand. -/
def setHand (l : Lane) (x : Option ProbeInHand) (s : State) : State := modCensus l (fun c => { c with hand := x }) s

/-- The probe in hand makes no difference to how the walk goes on. -/
theorem walkedOn_setHand (l : Lane) (x : Option ProbeInHand) (s : State) : (setHand l x s).walkedOn l = s.walkedOn l := by
  have hw : ((setHand l x s).lane l).census.work = (s.lane l).census.work := by cases l <;> rfl
  have hc : ((setHand l x s).lane l).census.confirming = (s.lane l).census.confirming := by cases l <;> rfl
  simp only [State.walkedOn, hw, hc]
  split
  · cases l <;> rfl
  · split <;> cases l <;> rfl

/-- A notice does not depend on a Census Engine. -/
theorem notify_setHand (l : Lane) (x : Option ProbeInHand) (n : Notice) (s : State) :
    notify n (setHand l x s) = setHand l x (notify n s) := by
  simp only [notify, setHand, modCensus_notices]
  split <;> cases l <;> rfl

/-- The probe in hand makes no difference to duplicates. -/
theorem withDuplicates_setHand (l : Lane) (x : Option ProbeInHand) (b : Bool) (fs : List Fingerprint) (s : State) :
    (setHand l x s).withDuplicates l b fs = setHand l x (s.withDuplicates l b fs) := by
  induction fs generalizing s with
  | nil => rfl
  | cons f fs ih =>
    rw [State.withDuplicates, State.withDuplicates, ← ih, ← notify_setHand]
    cases l <;> rfl

/-- What the declaration of duplicates leaves alone. -/
theorem withDuplicates_frame (l : Lane) (b : Bool) (fs : List Fingerprint) (s : State) :
    let t := s.withDuplicates l b fs
    (t.lane l).census.run = (s.lane l).census.run ∧ (t.lane l).complete = (s.lane l).complete ∧ t.roster = s.roster := by
  induction fs generalizing s with
  | nil => exact ⟨rfl, rfl, rfl⟩
  | cons f fs ih =>
    obtain ⟨h1, h2, h3⟩ := ih (notify (.duplicate l f b (min 255 ((s.lane l).census.dups + 1))) (s.setLane l { s.lane l with
      census := { (s.lane l).census with dups := min 255 ((s.lane l).census.dups + 1) }
      counters := { (s.lane l).counters with duplicates := addSat (s.lane l).counters.duplicates } }))
    refine ⟨h1.trans ?_, h2.trans ?_, h3.trans ?_⟩
    · rw [notify_lane, setLane_lane]
    · rw [notify_lane, setLane_lane]
    · rw [notify_frame]; cases l <;> rfl

/-- What the walk does with the finds and the open slots of the probe in hand, whichever finds that probe carries so far. -/
theorem takeFinds_goesOn (l : Lane) (h : ProbeInHand) (fs x : List Fingerprint) (s : State) (hr : (s.lane l).census.run ≠ .idle)
    (hc : (s.lane l).complete = false) :
    State.ProbeGoesOn l h fs s (takeFinds l fs (setHand l (some { h with finds := x }) s)) := by
  induction fs generalizing s with
  | nil =>
    have hhand : ((setHand l (some { h with finds := x }) s).lane l).census.hand = some { h with finds := x } := by simp [setHand]
    have hconf : ((setHand l (some { h with finds := x }) s).lane l).census.confirming = (s.lane l).census.confirming := by simp [setHand]
    have hwork : ((setHand l (some { h with finds := x }) s).lane l).census.work = (s.lane l).census.work := by simp [setHand]
    have hend (o : CensusOutcome) : endCensus l o (setHand l (some { h with finds := x }) s) = s.runEnded l o := by cases l <;> rfl
    simp only [takeFinds, afterFinds, hhand, hconf]
    refine ⟨fun h0 h3 => by rw [if_pos ⟨h0, h3⟩, hend], fun hd h3 => ?_, fun hd => ⟨fun ho => ?_, fun ho hn => ?_, fun ho hn => ?_⟩⟩
    · rw [if_neg (by omega), if_pos (show h.prefx.depth < maxDepth from hd), pushChildren, hwork]
      refine ⟨fun hl => ?_, fun hl => by rw [if_neg (by simpa [workCapacity] using hl), hend]⟩
      rw [if_pos (by simpa [workCapacity] using hl), nextRecord_eq]
      exact (by cases l <;> rfl : _ = (setHand l (some { h with finds := x }) _).walkedOn l).trans (walkedOn_setHand ..)
    · rw [if_neg (by omega), if_neg (by simp [maxDepth]; omega), if_pos ho, nextRecord_eq, walkedOn_setHand]
    · rw [if_neg (by omega), if_neg (by simp [maxDepth]; omega), if_neg ho, if_neg (by simp [ProbeInHand.isThird]; omega)]
      cases l <;> rfl
    · rw [if_neg (by omega), if_neg (by simp [maxDepth]; omega), if_neg ho, if_pos (by simp [ProbeInHand.isThird, maxDepth, hd, hn]),
        nextRecord_eq, declareOpen_eq, withDuplicates_setHand, walkedOn_setHand]
  | cons f rest ih =>
    have hentry (j : Nat) : (setHand l (some { h with finds := x }) s).entry j = s.entry j := by cases l <;> rfl
    have hend (o : CensusOutcome) (w : State) (hw : w = setHand l (some { h with finds := x }) s ∨ ∃ g, w = takeInHand l g rest
        (setHand l (some { h with finds := x }) s)) : endCensus l o w = s.runEnded l o := by
      obtain rfl | ⟨g, rfl⟩ := hw <;> cases l <;> rfl
    have hlowest {a : Nat} (w : State) (hw : ∀ j, w.entry j = s.entry j) (ha : s.addressLowest l a) : w.freeAddress l = some a :=
      freeAddress_eq (by simpa [State.addressLowest, State.addressFree, hw] using ha)
    have hnofree (w : State) (hw : ∀ j, w.entry j = s.entry j) (ha : ∀ a, ¬ s.addressFree l a) : w.freeAddress l = none :=
      freeAddress_none (by simpa [State.addressFree, hw] using ha)
    have htake (g : Find) (j : Nat) : (takeInHand l g rest (setHand l (some { h with finds := x }) s)).entry j = s.entry j := by
      cases l <;> rfl
    have hlane (g : Find) : let w := takeInHand l g rest (setHand l (some { h with finds := x }) s)
        w.lane l = { s.lane l with census := { (s.lane l).census with find := some g, hand := some { h with finds := rest } } } := by
      cases l <;> rfl
    refine ⟨fun hnone => ?_, fun slot e he hf hone => ?_⟩
    · have hd : (setHand l (some { h with finds := x }) s).decideFind l f = .new := by
        rw [State.decideFind, entryWithFp_none (by simpa [hentry] using hnone)]
      simp only [takeFinds, hd, createEntry]
      refine ⟨fun slot a hlt h0 hlow ha => ?_, fun hfull => ?_⟩
      · rw [freeSlot_eq hlt ((htake _ _).trans h0) (fun j hj => by rw [htake]; exact hlow j hj), hlowest _ (htake _) ha]
        simp only
        rw [evalComplete_running (by rw [setEntry_lane, hlane]; exact hr) (by rw [setEntry_lane, hlane]; exact hc)]
        cases l <;> rfl
      · have hnot : (takeInHand l ⟨f, .new, none⟩ rest (setHand l (some { h with finds := x }) s)).freeSlot = none ∨
            (takeInHand l ⟨f, .new, none⟩ rest (setHand l (some { h with finds := x }) s)).freeAddress l = none :=
          hfull.imp (fun h1 => freeSlot_none (fun j hj => by rw [htake]; exact h1 j hj)) (hnofree _ (htake _))
        split
        · next h1 h2 => simp [h1, h2] at hnot
        · exact hend _ _ (.inr ⟨_, rfl⟩)
    · have hwith : (setHand l (some { h with finds := x }) s).entryWithFp f = some (slot, e) :=
        entryWithFp_eq ((hentry _).trans he) hf (by simpa [hentry] using hone)
      refine ⟨fun hl => ?_, fun hl => ?_⟩
      · have hd : (setHand l (some { h with finds := x }) s).decideFind l f = .rejoin e.address := by
          simp only [State.decideFind, hwith, hl, if_true]
        simp only [takeFinds, hd]
        cases l <;> rfl
      · have hre : (setHand l (some { h with finds := x }) s).rejoining (otherLane l) f = true ↔
            ∃ g, (s.lane (otherLane l)).census.find = some g ∧ g.fp = f ∧ g.kind = .rejoin := by
          have : ((setHand l (some { h with finds := x }) s).lane (otherLane l)) = s.lane (otherLane l) := modCensus_lane_other ..
          rw [State.rejoining, this]
          cases (s.lane (otherLane l)).census.find <;> simp
        refine ⟨fun hs hno => ?_, fun hs => ?_⟩
        · have hd : (setHand l (some { h with finds := x }) s).decideFind l f = .move slot e := by
            simp only [State.decideFind, hwith]
            rw [if_neg hl, if_pos ⟨hs, by rw [← Bool.not_eq_true, hre]; exact hno⟩]
          simp only [takeFinds, hd]
          refine ⟨fun ha => ?_, fun a hlt ha => ?_⟩
          · rw [hnofree _ hentry ha]
            exact (hend _ _ (.inl rfl)).symm ▸ rfl
          · rw [hlowest _ hentry ha]
            obtain ⟨h0, hkeep, hdev, hoth, hsize⟩ := removeEntry_spec ((htake ⟨f, .move, e.carried⟩ slot).trans he) .moved
            generalize hu : removeEntry slot .moved (takeInHand l ⟨f, .move, e.carried⟩ rest (setHand l (some { h with finds := x }) s)) = u at *
            simp only [htake] at hdev hoth
            have hul : u.lane l = _ := (hkeep l (by rw [hlane]; exact hr) (by rw [hlane]; exact hc)).trans (hlane _)
            have hlen : slot < u.roster.length := by rw [hsize]; exact slot_lt_of_entry ((htake _ _).trans he)
            have hback {j : Nat} {y : Entry} (hj : u.entry j = some y) : j ≠ slot ∧ ∃ y', s.entry j = some y' ∧ y'.device = y.device := by
              have hjs : j ≠ slot := by rintro rfl; rw [h0] at hj; cases hj
              have := hdev j hjs
              rw [hj] at this
              cases hsj : s.entry j with
              | none => rw [hsj] at this; cases this
              | some y' => rw [hsj] at this; exact ⟨hjs, y', rfl, (Option.some.inj this).symm⟩
            have hua (b : Nat) : u.addressFree l b ↔ s.addressFree l b := by
              refine and_congr_right fun _ => and_congr_right fun _ => ⟨fun hb j y hy hyl => ?_, fun hb j y hy hyl => ?_⟩
              · have hjs : j ≠ slot := by rintro rfl; rw [he] at hy; cases hy; exact hl hyl
                have := hdev j hjs
                rw [hy] at this
                cases huj : u.entry j with
                | none => rw [huj] at this; cases this
                | some y' =>
                  rw [huj] at this
                  simp only [Option.map_some, Entry.device, Option.some.injEq, Prod.mk.injEq] at this
                  rw [← this.2.1]
                  exact hb j y' huj (this.1.trans hyl)
              · obtain ⟨-, y', hy', hd'⟩ := hback hy
                simp only [Entry.device, Prod.mk.injEq] at hd'
                rw [← hd'.2.1]
                exact hb j y' hy' (hd'.1.trans hyl)
            have hka : u.freeAddress l = some a := freeAddress_eq (by simpa [State.addressLowest, hua] using ha)
            obtain ⟨k, hk⟩ : ∃ k, u.freeSlot = some k := by
              cases hk : u.freeSlot with
              | some k => exact ⟨k, rfl⟩
              | none => simpa [h0] using (List.find?_eq_none.mp hk) slot (List.mem_range.mpr hlt)
            obtain ⟨hk0, -, hklow⟩ := List.find?_range_eq_some.mp hk
            rw [Option.isNone_iff_eq_none] at hk0
            have hkl : k < u.roster.length := by
              by_contra hn
              have := hklow slot (by omega)
              simp [h0] at this
            simp only [createEntry, hk, hka]
            rw [evalComplete_running (by rw [setEntry_lane, hul]; exact hr) (by rw [setEntry_lane, hul]; exact hc)]
            have hte (j : Nat) : (setOffer l (some (.assign f a)) (setEntry k (some (.assigned l a f)) u)).entry j =
                if j = k then some (.assigned l a f) else u.entry j := by
              rw [show (setOffer l (some (.assign f a)) (setEntry k (some (.assigned l a f)) u)).entry j =
                (setEntry k (some (.assigned l a f)) u).entry j by cases l <;> rfl]
              split
              · next hj => rw [hj, entry_setEntry_same hkl]
              · next hj => rw [entry_setEntry_ne (fun h => hj h.symm)]
            refine ⟨?_, ⟨k, by rw [hte, if_pos rfl]; rfl, fun j hj => ?_, fun j y hy hyf => ?_⟩, fun j y hj hy hyh => ?_⟩
            · rw [setOffer, modCensus_lane, setEntry_lane, hul]
              rfl
            · rw [hte, if_neg (by omega)]
              simpa [Option.isSome_iff_ne_none] using hklow j hj
            · by_contra hjk
              rw [hte, if_neg hjk] at hy
              obtain ⟨hjs, y', hy', hd'⟩ := hback hy
              simp only [Entry.device, Prod.mk.injEq] at hd'
              exact hjs (hone j y' hy' (hd'.2.2.trans hyf))
            · have huj := hoth j y hj hy hyh
              rw [hte, if_neg (by rintro rfl; rw [hk0] at huj; cases huj), huj]
        · have hd : (setHand l (some { h with finds := x }) s).decideFind l f = .crossLane := by
            simp only [State.decideFind, hwith]
            rw [if_neg hl, if_neg]
            rintro ⟨h1, h2⟩
            obtain hs | hs := hs
            · exact hs h1
            · rw [← hre, h2] at hs
              exact absurd hs (by simp)
          simp only [takeFinds, hd]
          have hone : declareDuplicate l f true (setHand l (some { h with finds := x }) s) =
              setHand l (some { h with finds := x }) (s.withDuplicates l true [f]) := by
            rw [← withDuplicates_setHand, ← declareDuplicate_foldl]; rfl
          rw [hone]
          obtain ⟨h1, h2, -⟩ := withDuplicates_frame l true [f] s
          exact ih _ (by rw [h1]; exact hr) (by rw [h2]; exact hc)

/-- How a run goes on when an exchange of it has been applied. -/
theorem continueRun_goesOn (l : Lane) (s : State) (hc : (s.lane l).complete = false) : s.RunGoesOn l (continueRun l s) := by
  refine ⟨fun hs => by rw [continueRun, hs]; exact endCensus_eq .., fun hr => ⟨fun h hh => ?_, fun hh => ⟨fun a more ht => ?_, fun ht => ?_⟩⟩⟩
  · have hself : setHand l (some h) s = s := by rw [setHand, ← hh]; cases l <;> rfl
    have := takeFinds_goesOn l h h.finds h.finds s (by rw [hr]; exact RunState.noConfusion) hc
    rw [show ({ h with finds := h.finds } : ProbeInHand) = h from rfl, hself] at this
    simpa only [continueRun, hr, hh] using this
  · have : continueRun l s = setOffer l (some (.taken a)) s := by simp only [continueRun, hr, hh, offerOpening, ht]
    exact this.trans (by cases l <;> rfl)
  · have : continueRun l s = offerProbe l .root 1 [] s := by simp only [continueRun, hr, hh, offerOpening, ht]
    exact this.trans (by cases l <;> rfl)

end Sys2Proof.Machine
end

