-- ==== Sys2Proof/Laws/Frame.lean ====
section
/-! SUPPORT. Laws/Frame.lean: `KeepsPower`: what no operation of the buses, the census, the roster, naming, forwarding or the sequencer touches, with one
lemma per operation. -/

namespace Sys2Proof.Machine

/-- The queue of commands, the clock, the free values, the reset pin, the strap, the flag, the profiles, the name map, and each lane's power
and options are as before. -/
structure KeepsPower (s t : State) : Prop where
  pending : t.pending = s.pending
  now : t.now = s.now
  choices : t.choices = s.choices
  resetAsserted : t.resetAsserted = s.resetAsserted
  strap : t.strap = s.strap
  overTemp : t.overTemp = s.overTemp
  profiles : t.profiles = s.profiles
  nameMap : t.nameMap = s.nameMap
  power : ∀ l, (t.lane l).power = (s.lane l).power
  options : ∀ l, (t.lane l).options = (s.lane l).options

namespace KeepsPower

theorem refl (s : State) : KeepsPower s s := ⟨rfl, rfl, rfl, rfl, rfl, rfl, rfl, rfl, fun _ => rfl, fun _ => rfl⟩

theorem trans {s t u : State} (h : KeepsPower s t) (k : KeepsPower t u) : KeepsPower s u :=
  ⟨k.pending.trans h.pending, k.now.trans h.now, k.choices.trans h.choices, k.resetAsserted.trans h.resetAsserted,
   k.strap.trans h.strap, k.overTemp.trans h.overTemp, k.profiles.trans h.profiles, k.nameMap.trans h.nameMap,
   fun l => (k.power l).trans (h.power l), fun l => (k.options l).trans (h.options l)⟩

/-- A lane is LIVE after as before. -/
theorem laneLive {s t : State} (h : KeepsPower s t) (l : Lane) : t.laneLive l = s.laneLive l := by
  simp [State.laneLive, h.power l]

/-- A fold of operations that each keep power keeps power. -/
theorem foldl {α : Type} {f : State → α → State} (h : ∀ s x, KeepsPower s (f s x)) (xs : List α) (s : State) :
    KeepsPower s (xs.foldl f s) := by
  induction xs generalizing s with
  | nil => exact refl s
  | cons x xs ih => exact (h s x).trans (ih _)

end KeepsPower

/-! ## Primitive updates -/

theorem modLane_keepsPower {g : LaneState → LaneState} (hp : ∀ x, (g x).power = x.power) (ho : ∀ x, (g x).options = x.options)
    (l : Lane) (s : State) : KeepsPower s (modLane l g s) := by
  constructor <;> try simp
  · intro k; rw [modLane_lane_eq]; split <;> simp [hp]
  · intro k; rw [modLane_lane_eq]; split <;> simp [ho]

theorem modCensus_keepsPower (l : Lane) (g : Census → Census) (s : State) : KeepsPower s (modCensus l g s) :=
  modLane_keepsPower (g := fun x => { x with census := g x.census }) (fun _ => rfl) (fun _ => rfl) l s

theorem modCounters_keepsPower (l : Lane) (g : LaneCounters → LaneCounters) (s : State) : KeepsPower s (modCounters l g s) :=
  modLane_keepsPower (g := fun x => { x with counters := g x.counters }) (fun _ => rfl) (fun _ => rfl) l s

theorem modArm_keepsPower (g : ArmLink → ArmLink) (s : State) : KeepsPower s (modArm g s) := by
  constructor <;> intros <;> simp

theorem modSeq_keepsPower (g : Sequencer → Sequencer) (s : State) : KeepsPower s (modSeq g s) := by
  constructor <;> intros <;> simp

theorem setEntry_keepsPower (i : Nat) (e : Option Entry) (s : State) : KeepsPower s (setEntry i e s) := by
  constructor <;> intros <;> simp

theorem setRange_keepsPower (r : NameRange) (s : State) : KeepsPower s { s with range := r } := by
  constructor <;> intros <;> rfl

theorem notify_keepsPower (n : Notice) (s : State) : KeepsPower s (notify n s) := by
  refine ⟨?_, ?_, ?_, ?_, ?_, ?_, ?_, ?_, fun l => by simp, fun l => by simp⟩ <;> rw [notify_frame]

theorem offer_keepsPower (f : ArmFrame) (s : State) : KeepsPower s (offer f s) := by
  refine ⟨?_, ?_, ?_, ?_, ?_, ?_, ?_, ?_, fun l => by simp, fun l => by simp⟩ <;> rw [offer_frame]

/-! ## Naming and the roster -/

theorem evalComplete_keepsPower (l : Lane) (s : State) : KeepsPower s (evalComplete l s) := by
  obtain ⟨-, h⟩ | ⟨-, h⟩ := evalComplete_cases l s <;> rw [h]
  · exact .refl s
  · exact (modLane_keepsPower (g := fun x => { x with complete := s.completeNow l }) (fun _ => rfl) (fun _ => rfl) l s).trans (notify_keepsPower _ _)

theorem modEntry_keepsPower (slot : Nat) (f : Entry → Entry) (s : State) : KeepsPower s (modEntry slot f s) := by
  unfold modEntry; split
  · exact setEntry_keepsPower _ _ s
  · exact .refl s

theorem moveEntry_keepsPower (slot : Nat) (f : Entry → Entry) (d : DeviceDetail) (c : DeviceCause) (s : State) :
    KeepsPower s (moveEntry slot f d c s) := by
  unfold moveEntry; split
  · exact (setEntry_keepsPower _ _ s).trans (notify_keepsPower _ _)
  · exact .refl s

theorem enterLive_keepsPower (slot : Nat) (c : DeviceCause) (s : State) : KeepsPower s (enterLive slot c s) :=
  moveEntry_keepsPower ..

theorem proveOrEcho_keepsPower (slot : Nat) (c : DeviceCause) (s : State) : KeepsPower s (proveOrEcho slot c s) := by
  unfold proveOrEcho; split
  · split
    · exact enterLive_keepsPower ..
    · exact setEntry_keepsPower ..
  · exact .refl s

theorem enterProving_keepsPower (slot : Nat) (c : DeviceCause) (s : State) : KeepsPower s (enterProving slot c s) :=
  (moveEntry_keepsPower ..).trans (proveOrEcho_keepsPower ..)

theorem holdEntry_keepsPower (slot : Nat) (w : HeldReason) (s : State) : KeepsPower s (holdEntry slot w s) := by
  unfold holdEntry; split
  · split
    · exact setEntry_keepsPower ..
    · exact moveEntry_keepsPower ..
  · exact .refl s

theorem giveName_keepsPower (slot : Nat) (c : Carried) (s : State) : KeepsPower s (giveName slot c s) := modEntry_keepsPower ..

theorem notifyNamed_keepsPower (slot : Nat) (c : Carried) (s : State) : KeepsPower s (notifyNamed slot c s) := by
  unfold notifyNamed; split
  · exact notify_keepsPower ..
  · exact .refl s

theorem nameAndProve_keepsPower (slot : Nat) (l : Lane) (c : Carried) (cause : DeviceCause) (s : State) :
    KeepsPower s (nameAndProve slot l c cause s) :=
  (giveName_keepsPower ..).trans ((enterProving_keepsPower ..).trans ((notifyNamed_keepsPower ..).trans (evalComplete_keepsPower ..)))

theorem resolveEntry_keepsPower (slot : Nat) (cause : DeviceCause) (s : State) : KeepsPower s (resolveEntry slot cause s) := by
  unfold resolveEntry; split
  · split
    · exact (setRange_keepsPower ..).trans (nameAndProve_keepsPower ..)
    · exact (holdEntry_keepsPower ..).trans (evalComplete_keepsPower ..)
  · exact .refl s

theorem reresolveSlot_keepsPower (s : State) (slot : Nat) : KeepsPower s (reresolveSlot s slot) := by
  unfold reresolveSlot; split
  · exact resolveEntry_keepsPower ..
  · exact .refl s

theorem reresolveHeld_keepsPower (s : State) : KeepsPower s (reresolveHeld s) := .foldl reresolveSlot_keepsPower _ s

theorem removeEntry_keepsPower (slot : Nat) (cause : DeviceCause) (s : State) : KeepsPower s (removeEntry slot cause s) := by
  unfold removeEntry; split
  · exact (setEntry_keepsPower ..).trans ((notify_keepsPower ..).trans ((reresolveHeld_keepsPower _).trans
      ((evalComplete_keepsPower ..).trans (evalComplete_keepsPower ..))))
  · exact .refl s

theorem removeLane_keepsPower (l : Lane) (cause : DeviceCause) (s : State) : KeepsPower s (removeLane l cause s) := by
  refine .foldl (fun s slot => ?_) _ s
  unfold removeIfOn; split
  · split
    · exact removeEntry_keepsPower ..
    · exact .refl s
  · exact .refl s

/-! ## Cycles -/

theorem modRun_keepsPower (f : CycleRun → CycleRun) (s : State) : KeepsPower s (modRun f s) := modSeq_keepsPower ..

theorem settle_keepsPower (i : Nat) (o : CycleOutcome) (d : List Octet) (s : State) : KeepsPower s (settle i o d s) := modRun_keepsPower ..

theorem settleFresh_keepsPower (i : Nat) (p : List Octet) (f : Fingerprint) (s : State) : KeepsPower s (settleFresh i p f s) :=
  (modSeq_keepsPower ..).trans (settle_keepsPower ..)

theorem storeTest_keepsPower (i : Nat) (f : Fingerprint) (s : State) : KeepsPower s (storeTest i f s) := by
  unfold storeTest; split
  · split
    · exact settle_keepsPower ..
    · exact (modSeq_keepsPower ..).trans (settle_keepsPower ..)
  · exact settle_keepsPower ..

theorem walkFrom_keepsPower (l : Lane) (is : List Nat) (s : State) : KeepsPower s (walkFrom l is s) := by
  induction is generalizing s with
  | nil => exact modRun_keepsPower ..
  | cons i rest ih =>
    unfold walkFrom; split
    · split
      · exact (settle_keepsPower ..).trans (ih _)
      · split
        · exact (settle_keepsPower ..).trans (ih _)
        · split
          · exact modRun_keepsPower ..
          · exact (storeTest_keepsPower ..).trans (ih _)
    · exact ih s

theorem finishCycle_keepsPower (s : State) : KeepsPower s (finishCycle s) := by
  unfold finishCycle; repeat' split
  all_goals first | exact .refl s | exact (modSeq_keepsPower ..).trans (offer_keepsPower ..)

theorem walkOn_keepsPower (l : Lane) (i : Nat) (s : State) : KeepsPower s (walkOn l i s) := by
  unfold walkOn; exact (walkFrom_keepsPower ..).trans (finishCycle_keepsPower _)

theorem takeBackDue_keepsPower (l : Lane) (s : State) : KeepsPower s (takeBackDue l s) := by
  unfold takeBackDue; split
  · exact walkOn_keepsPower ..
  · exact .refl s

theorem giveBackDue_keepsPower (l : Lane) (d : Due) (s : State) : KeepsPower s (giveBackDue l d s) :=
  (storeTest_keepsPower ..).trans (walkOn_keepsPower ..)

theorem cycleOutcome_keepsPower (l : Lane) (i : Nat) (f : Fingerprint) (o : ExchangeOutcome) (p : List Octet) (s : State) :
    KeepsPower s (cycleOutcome l i f o p s) := by
  unfold cycleOutcome
  cases o
  · exact (settleFresh_keepsPower ..).trans (walkOn_keepsPower ..)
  all_goals exact (storeTest_keepsPower ..).trans (walkOn_keepsPower ..)

theorem trigger_keepsPower (t : Trigger) (s : State) : KeepsPower s (trigger t s) := by
  unfold trigger; split
  · exact .refl s
  · exact (modSeq_keepsPower ..).trans ((walkFrom_keepsPower ..).trans ((walkFrom_keepsPower ..).trans (finishCycle_keepsPower _)))
  · exact (modSeq_keepsPower ..).trans (notify_keepsPower ..)

theorem stopSequencer_keepsPower (s : State) : KeepsPower s (stopSequencer s) := by
  unfold stopSequencer; split
  · exact .refl s
  · exact modSeq_keepsPower ..
  · exact modSeq_keepsPower ..

/-! ## The census run -/

theorem offerAll_keepsPower (fs : List ArmFrame) (s : State) : KeepsPower s (offerAll fs s) :=
  .foldl (fun s f => offer_keepsPower f s) fs s

theorem refuseForward_keepsPower (l : Lane) (why : Reason) (s : State) : KeepsPower s (refuseForward l why s) :=
  (modLane_keepsPower (g := fun x => { x with forward := [] }) (fun _ => rfl) (fun _ => rfl) l s).trans (offerAll_keepsPower ..)

theorem setOffer_keepsPower (l : Lane) (o : Option CensusOffer) (s : State) : KeepsPower s (setOffer l o s) := modCensus_keepsPower ..

theorem offerProbe_keepsPower (l : Lane) (p : Prefix) (n : Nat) (ks : List Nat) (s : State) : KeepsPower s (offerProbe l p n ks s) :=
  modCensus_keepsPower ..

theorem offerOpening_keepsPower (l : Lane) (s : State) : KeepsPower s (offerOpening l s) := by
  unfold offerOpening; split
  · exact setOffer_keepsPower ..
  · exact offerProbe_keepsPower ..

theorem startCensus_keepsPower (l : Lane) (m : CensusMode) (s : State) : KeepsPower s (startCensus l m s) := by
  have h : KeepsPower s (takeBackDue l (modCensus l (Census.started m) s)) := (modCensus_keepsPower ..).trans (takeBackDue_keepsPower ..)
  cases m
  · exact h.trans ((removeLane_keepsPower ..).trans ((refuseForward_keepsPower ..).trans
      ((modLane_keepsPower (g := fun x => { x with unaddress := [] }) (fun _ => rfl) (fun _ => rfl) ..).trans
        ((evalComplete_keepsPower ..).trans (setOffer_keepsPower ..)))))
  · exact h.trans ((refuseForward_keepsPower ..).trans
      ((modLane_keepsPower (g := fun x => { x with census := { x.census with taken := x.unaddress }, unaddress := [] })
        (fun _ => rfl) (fun _ => rfl) ..).trans ((evalComplete_keepsPower ..).trans (offerOpening_keepsPower ..))))

theorem endCensus_keepsPower (l : Lane) (o : CensusOutcome) (s : State) : KeepsPower s (endCensus l o s) := by
  unfold endCensus
  exact (modLane_keepsPower (g := fun x => { x with census := x.census.ended o, unaddress := x.census.taken ++ x.unaddress })
    (fun _ => rfl) (fun _ => rfl) ..).trans ((notify_keepsPower ..).trans (evalComplete_keepsPower ..))

/-! ## Supervision -/

theorem recallCensus_keepsPower (l : Lane) (s : State) : KeepsPower s (recallCensus l s) := by
  unfold recallCensus; split
  · exact startCensus_keepsPower ..
  · exact .refl s

theorem enterLost_keepsPower (slot : Nat) (l : Lane) (c : DeviceCause) (s : State) : KeepsPower s (enterLost slot l c s) :=
  (moveEntry_keepsPower ..).trans ((evalComplete_keepsPower ..).trans (recallCensus_keepsPower ..))

theorem enterSuspect_keepsPower (slot : Nat) (l : Lane) (c : DeviceCause) (s : State) : KeepsPower s (enterSuspect slot l c s) :=
  (moveEntry_keepsPower ..).trans (evalComplete_keepsPower ..)

theorem applyOk_keepsPower (slot : Nat) (e : Entry) (s : State) : KeepsPower s (applyOk slot e s) := by
  unfold applyOk; split
  · exact (setEntry_keepsPower ..).trans ((proveOrEcho_keepsPower ..).trans (evalComplete_keepsPower ..))
  · exact setEntry_keepsPower ..
  · exact (enterLive_keepsPower ..).trans (evalComplete_keepsPower ..)
  · exact (enterProving_keepsPower ..).trans (evalComplete_keepsPower ..)
  · exact .refl s
  · exact .refl s

theorem lostOrEcho_keepsPower (slot : Nat) (e : Entry) (c : DeviceCause) (s : State) : KeepsPower s (lostOrEcho slot e c s) := by
  unfold lostOrEcho; split
  · exact (setEntry_keepsPower ..).trans (enterLost_keepsPower ..)
  · exact setEntry_keepsPower ..

theorem applyFailure_keepsPower (slot : Nat) (e : Entry) (o : ExchangeOutcome) (s : State) :
    KeepsPower s (applyFailure slot e o s) := by
  unfold applyFailure; split
  · exact lostOrEcho_keepsPower ..
  · split
    · exact (enterProving_keepsPower ..).trans (evalComplete_keepsPower ..)
    · split
      · exact (setEntry_keepsPower ..).trans (enterLost_keepsPower ..)
      · exact enterSuspect_keepsPower ..
  · split
    · exact (enterProving_keepsPower ..).trans (evalComplete_keepsPower ..)
    · exact lostOrEcho_keepsPower ..
  all_goals exact .refl s

theorem applyOutcome_keepsPower (r : EntryRef) (o : ExchangeOutcome) (st : Option Octet) (s : State) :
    KeepsPower s (applyOutcome r o st s) := by
  unfold applyOutcome; split
  · exact .refl s
  · split
    · exact .refl s
    · split
      · exact .refl s
      · exact (setEntry_keepsPower ..).trans (applyOk_keepsPower ..)
      · exact applyFailure_keepsPower ..
      · exact applyFailure_keepsPower ..

theorem silenceDue_keepsPower (slot : Nat) (s : State) : KeepsPower s (silenceDue slot s) := by
  obtain h | ⟨e, -, -, -, -, h⟩ := silenceDue_cases slot s <;> rw [h]
  · exact .refl s
  · exact setEntry_keepsPower ..

theorem recallDue_keepsPower (slot : Nat) (s : State) : KeepsPower s (recallDue slot s) := by
  unfold recallDue; split
  · split
    · exact setEntry_keepsPower ..
    · exact .refl s
  · exact .refl s

/-! ## The census walk -/

theorem nextRecord_keepsPower (l : Lane) (s : State) : KeepsPower s (nextRecord l s) := by
  unfold nextRecord; split
  · exact (modCensus_keepsPower ..).trans (offerProbe_keepsPower ..)
  · split
    · exact (modCensus_keepsPower ..).trans (offerProbe_keepsPower ..)
    · exact endCensus_keepsPower ..

theorem declareDuplicate_keepsPower (l : Lane) (f : Fingerprint) (x : Bool) (s : State) : KeepsPower s (declareDuplicate l f x s) :=
  (modCensus_keepsPower ..).trans ((modCounters_keepsPower ..).trans (notify_keepsPower ..))

theorem pushChildren_keepsPower (l : Lane) (p : Prefix) (ks : List Nat) (s : State) : KeepsPower s (pushChildren l p ks s) := by
  unfold pushChildren; split
  · exact (modCensus_keepsPower ..).trans (nextRecord_keepsPower ..)
  · exact endCensus_keepsPower ..

theorem declareOpen_keepsPower (l : Lane) (h : ProbeInHand) (s : State) : KeepsPower s (declareOpen l h s) :=
  .foldl (fun s _ => declareDuplicate_keepsPower l _ false s) _ s

theorem lastDuplicates_keepsPower (l : Lane) (h : ProbeInHand) (s : State) : KeepsPower s (lastDuplicates l h s) := by
  unfold lastDuplicates; split
  · exact declareOpen_keepsPower ..
  · exact .refl s

theorem afterFinds_keepsPower (l : Lane) (s : State) : KeepsPower s (afterFinds l s) := by
  unfold afterFinds; split
  · exact nextRecord_keepsPower ..
  · split
    · exact endCensus_keepsPower ..
    · split
      · exact pushChildren_keepsPower ..
      · split
        · exact nextRecord_keepsPower ..
        · split
          · exact (declareOpen_keepsPower ..).trans (nextRecord_keepsPower ..)
          · exact offerProbe_keepsPower ..

theorem takeInHand_keepsPower (l : Lane) (x : Find) (rest : List Fingerprint) (s : State) : KeepsPower s (takeInHand l x rest s) :=
  modCensus_keepsPower ..

theorem createEntry_keepsPower (l : Lane) (f : Fingerprint) (s : State) : KeepsPower s (createEntry l f s) := by
  unfold createEntry; split
  · exact (setEntry_keepsPower ..).trans ((evalComplete_keepsPower ..).trans (setOffer_keepsPower ..))
  · exact endCensus_keepsPower ..

theorem takeFinds_keepsPower (l : Lane) (fs : List Fingerprint) (s : State) : KeepsPower s (takeFinds l fs s) := by
  induction fs generalizing s with
  | nil => exact afterFinds_keepsPower l s
  | cons f rest ih =>
    unfold takeFinds; split
    · exact (takeInHand_keepsPower ..).trans (setOffer_keepsPower ..)
    · split
      · exact endCensus_keepsPower ..
      · exact (takeInHand_keepsPower ..).trans ((removeEntry_keepsPower ..).trans (createEntry_keepsPower ..))
    · exact (declareDuplicate_keepsPower ..).trans (ih _)
    · exact (takeInHand_keepsPower ..).trans (createEntry_keepsPower ..)

theorem continueRun_keepsPower (l : Lane) (s : State) : KeepsPower s (continueRun l s) := by
  unfold continueRun; split
  · exact endCensus_keepsPower ..
  · split
    · exact takeFinds_keepsPower ..
    · exact offerOpening_keepsPower ..

theorem rejoinOk_keepsPower (l : Lane) (slot : Nat) (e : Entry) (s : State) : KeepsPower s (rejoinOk l slot e s) := by
  unfold rejoinOk; split
  · exact resolveEntry_keepsPower ..
  · exact (enterProving_keepsPower ..).trans (evalComplete_keepsPower ..)

theorem rejoinFailed_keepsPower (l : Lane) (slot : Nat) (e : Entry) (s : State) : KeepsPower s (rejoinFailed l slot e s) := by
  unfold rejoinFailed; split <;> first | exact enterLost_keepsPower .. | exact .refl s

theorem assignOk_keepsPower (l : Lane) (slot : Nat) (x : Find) (s : State) : KeepsPower s (assignOk l slot x s) := by
  unfold assignOk; split
  · exact nameAndProve_keepsPower ..
  · exact resolveEntry_keepsPower ..

theorem assignFailed_keepsPower (l : Lane) (slot : Nat) (e : Entry) (o : ExchangeOutcome) (s : State) :
    KeepsPower s (assignFailed l slot e o s) :=
  (modCensus_keepsPower ..).trans ((removeEntry_keepsPower ..).trans ((notify_keepsPower ..).trans (setOffer_keepsPower ..)))

theorem assignOutcome_keepsPower (l : Lane) (o : ExchangeOutcome) (s : State) : KeepsPower s (assignOutcome l o s) := by
  unfold assignOutcome; split
  · exact continueRun_keepsPower ..
  · split
    · exact (modCensus_keepsPower ..).trans (continueRun_keepsPower ..)
    · split
      · refine KeepsPower.trans ?_ ((modCensus_keepsPower ..).trans (continueRun_keepsPower ..))
        split
        · exact (modEntry_keepsPower ..).trans ((modCensus_keepsPower ..).trans (rejoinOk_keepsPower ..))
        · exact rejoinFailed_keepsPower ..
      · split
        · exact (modEntry_keepsPower ..).trans ((modCensus_keepsPower ..).trans ((assignOk_keepsPower ..).trans
            ((modCensus_keepsPower ..).trans (continueRun_keepsPower ..))))
        · exact assignFailed_keepsPower ..

theorem countCollided_keepsPower (l : Lane) (s : State) : KeepsPower s (countCollided l s) := by
  unfold countCollided; exact modCounters_keepsPower ..

theorem countCollisions_keepsPower (l : Lane) (n : Nat) (s : State) : KeepsPower s (countCollisions l n s) := by
  unfold countCollisions
  induction n generalizing s with
  | zero => exact .refl s
  | succ n ih => exact (ih s).trans (countCollided_keepsPower l _)

theorem probeResult_keepsPower (l : Lane) (g : Nat) (slots : List SlotObs) (s : State) : KeepsPower s (probeResult l g slots s) := by
  unfold probeResult; split
  · exact continueRun_keepsPower ..
  · dsimp only
    split
    · exact (countCollisions_keepsPower ..).trans ((lastDuplicates_keepsPower ..).trans (endCensus_keepsPower ..))
    · split
      · exact (countCollisions_keepsPower ..).trans (endCensus_keepsPower ..)
      · exact (countCollisions_keepsPower ..).trans ((modCensus_keepsPower ..).trans (takeFinds_keepsPower ..))

theorem censusOutcome_keepsPower (l : Lane) (k : BusKind) (g : Nat) (slots : List SlotObs) (o : ExchangeOutcome) (s : State) :
    KeepsPower s (censusOutcome l k g slots o s) := by
  unfold censusOutcome; split
  · exact .refl s
  · split
    · exact .refl s
    · split
      · exact assignOutcome_keepsPower ..
      · split
        · exact probeResult_keepsPower ..
        · exact endCensus_keepsPower ..
      · split
        · exact continueRun_keepsPower ..
        · exact endCensus_keepsPower ..

/-! ## Exchanges -/

theorem clearExchange_keepsPower (l : Lane) (s : State) : KeepsPower s (clearExchange l s) :=
  modLane_keepsPower (g := fun y => { y with exch := none, rx := .hunt }) (fun _ => rfl) (fun _ => rfl) l s

theorem setExchange_keepsPower (l : Lane) (x : Exchange) (s : State) : KeepsPower s (setExchange l x s) :=
  modLane_keepsPower (g := fun y => { y with exch := some x }) (fun _ => rfl) (fun _ => rfl) l s

theorem setRx_keepsPower (l : Lane) (r : RxState) (s : State) : KeepsPower s (setRx l r s) :=
  modLane_keepsPower (g := fun y => { y with rx := r }) (fun _ => rfl) (fun _ => rfl) l s

theorem countOutcome_keepsPower (l : Lane) (o : ExchangeOutcome) (s : State) : KeepsPower s (countOutcome l o s) := by
  unfold countOutcome; split <;> first | exact .refl s | exact modCounters_keepsPower ..

theorem forwardAnswer_keepsPower (n : Nat) (tag : Octet) (r : EntryRef) (o : ExchangeOutcome) (p : List Octet) (s : State) :
    KeepsPower s (forwardAnswer n tag r o p s) := by
  unfold forwardAnswer; split <;> exact offer_keepsPower ..

theorem toSource_keepsPower (l : Lane) (x : Exchange) (o : ExchangeOutcome) (p : List Octet) (slots : List SlotObs) (s : State) :
    KeepsPower s (toSource l x o p slots s) := by
  unfold toSource; split
  · exact censusOutcome_keepsPower ..
  · exact cycleOutcome_keepsPower ..
  · exact .refl s
  · exact forwardAnswer_keepsPower ..
  · exact .refl s
  · exact .refl s

theorem toSupervision_keepsPower (x : Exchange) (o : ExchangeOutcome) (p : List Octet) (s : State) :
    KeepsPower s (toSupervision x o p s) := by
  unfold toSupervision; split
  · exact applyOutcome_keepsPower ..
  · exact .refl s

/-- The end of an exchange does not touch lane power. -/
theorem endExchange_keepsPower (l : Lane) (x : Exchange) (o : ExchangeOutcome) (p : List Octet) (slots : List SlotObs) (s : State) :
    KeepsPower s (endExchange l x o p slots s) :=
  (clearExchange_keepsPower ..).trans ((countOutcome_keepsPower ..).trans ((toSource_keepsPower ..).trans (toSupervision_keepsPower ..)))

theorem enterGuard_keepsPower (l : Lane) (x : Exchange) (s : State) : KeepsPower s (enterGuard l x s) := by
  unfold enterGuard; dsimp only; split
  · refine modLane_keepsPower ?_ ?_ l s <;> intro y <;> rfl
  · exact setExchange_keepsPower ..

/-- A failed attempt does not touch lane power. -/
theorem failAttempt_keepsPower (l : Lane) (x : Exchange) (o : ExchangeOutcome) (s : State) : KeepsPower s (failAttempt l x o s) := by
  unfold failAttempt; split
  · exact enterGuard_keepsPower ..
  · exact endExchange_keepsPower ..

theorem beginExchange_keepsPower (l : Lane) (x : Exchange) (s : State) : KeepsPower s (beginExchange l x s) :=
  (modCounters_keepsPower ..).trans ((enterGuard_keepsPower ..).trans (setRx_keepsPower ..))

theorem grantCensus_keepsPower (l : Lane) (s : State) : KeepsPower s (grantCensus l s) := by
  unfold grantCensus; split
  · exact (modCensus_keepsPower ..).trans (beginExchange_keepsPower ..)
  · exact .refl s

theorem grantCycle_keepsPower (l : Lane) (d : Due) (s : State) : KeepsPower s (grantCycle l d s) := by
  unfold grantCycle; split
  · exact (modRun_keepsPower ..).trans (beginExchange_keepsPower ..)
  · exact giveBackDue_keepsPower ..

theorem takeForward_keepsPower (l : Lane) (rest : List ForwardRecord) (s : State) : KeepsPower s (takeForward l rest s) :=
  modLane_keepsPower (g := fun y => { y with forward := rest, lastTurn := .forward }) (fun _ => rfl) (fun _ => rfl) l s

theorem grantForward_keepsPower (l : Lane) (r : ForwardRecord) (rest : List ForwardRecord) (s : State) :
    KeepsPower s (grantForward l r rest s) := by
  unfold grantForward; split
  · exact (takeForward_keepsPower ..).trans (beginExchange_keepsPower ..)
  · split
    · exact (takeForward_keepsPower ..).trans (offer_keepsPower ..)
    · split
      · exact (takeForward_keepsPower ..).trans (beginExchange_keepsPower ..)
      · exact (takeForward_keepsPower ..).trans (offer_keepsPower ..)

theorem turnSupervision_keepsPower (l : Lane) (s : State) : KeepsPower s (turnSupervision l s) :=
  modLane_keepsPower (g := fun y => { y with lastTurn := .supervision }) (fun _ => rfl) (fun _ => rfl) l s

theorem grantEcho_keepsPower (l : Lane) (slot : Nat) (e : Entry) (s : State) : KeepsPower s (grantEcho l slot e s) :=
  (turnSupervision_keepsPower ..).trans ((setEntry_keepsPower ..).trans
    ((modLane_keepsPower (g := fun y => { y with lastServed := slot }) (fun _ => rfl) (fun _ => rfl) ..).trans
      (beginExchange_keepsPower ..)))

theorem grantSupervision_keepsPower (l : Lane) (s : State) : KeepsPower s (grantSupervision l s) := by
  unfold grantSupervision; split
  · next a rest _ =>
    exact (turnSupervision_keepsPower l s).trans
      ((modLane_keepsPower (g := fun y => { y with unaddress := rest }) (fun _ => rfl) (fun _ => rfl) l _).trans
        (beginExchange_keepsPower ..))
  · split
    · split
      · exact grantEcho_keepsPower ..
      · exact .refl s
    · exact .refl s

theorem grantOnce_keepsPower (l : Lane) (s : State) : KeepsPower s (grantOnce l s) := by
  unfold grantOnce grantInTurn
  repeat' split
  all_goals first
    | exact grantCensus_keepsPower .. | exact grantCycle_keepsPower .. | exact grantSupervision_keepsPower ..
    | exact grantForward_keepsPower .. | exact .refl s

/-- The arbiter does not touch lane power. -/
theorem grantLoop_keepsPower (l : Lane) (n : Nat) (s : State) : KeepsPower s (grantLoop l n s) := by
  induction n generalizing s with
  | zero => exact .refl s
  | succ n ih =>
    unfold grantLoop; split
    · exact .refl s
    · exact (grantOnce_keepsPower ..).trans (ih _)

end Sys2Proof.Machine
end

