-- ==== Sys2Proof/Laws/Framing.lean ====
section
/-! SUPPORT. Laws/Framing.lean: octets and their bits. -/

namespace Sys2Proof.Machine

@[simp] theorem length_octetBits (o : Octet) : (octetBits o).length = 8 := rfl

@[simp] theorem contentBits_nil : contentBits [] = [] := rfl

@[simp] theorem contentBits_cons (o : Octet) (os : List Octet) : contentBits (o :: os) = octetBits o ++ contentBits os := rfl

theorem contentBits_append (xs ys : List Octet) : contentBits (xs ++ ys) = contentBits xs ++ contentBits ys := by
  simp [contentBits]

@[simp] theorem length_contentBits (os : List Octet) : (contentBits os).length = 8 * os.length := by
  induction os with
  | nil => rfl
  | cons o os ih => simp [ih]; omega

set_option maxRecDepth 8000 in
theorem octet_of_bits (o : Octet) : octet (128 * bitNat (o.getLsbD 7) + 64 * bitNat (o.getLsbD 6) + 32 * bitNat (o.getLsbD 5)
      + 16 * bitNat (o.getLsbD 4) + 8 * bitNat (o.getLsbD 3) + 4 * bitNat (o.getLsbD 2) + 2 * bitNat (o.getLsbD 1)
      + bitNat (o.getLsbD 0)) = o := by
  have h : ∀ n : Fin 256, (fun o : Octet => octet (128 * bitNat (o.getLsbD 7) + 64 * bitNat (o.getLsbD 6)
      + 32 * bitNat (o.getLsbD 5) + 16 * bitNat (o.getLsbD 4) + 8 * bitNat (o.getLsbD 3) + 4 * bitNat (o.getLsbD 2)
      + 2 * bitNat (o.getLsbD 1) + bitNat (o.getLsbD 0)) = o) (BitVec.ofFin n) := by decide
  exact h o.toFin

/-- The bits of an octet spell it again. -/
theorem octetsOf_octetBits (o : Octet) (rest : List Bool) : octetsOf (octetBits o ++ rest) = o :: octetsOf rest := by
  have h : octetsOf (octetBits o ++ rest) = octet (128 * bitNat (o.getLsbD 7) + 64 * bitNat (o.getLsbD 6) + 32 * bitNat (o.getLsbD 5)
      + 16 * bitNat (o.getLsbD 4) + 8 * bitNat (o.getLsbD 3) + 4 * bitNat (o.getLsbD 2) + 2 * bitNat (o.getLsbD 1)
      + bitNat (o.getLsbD 0)) :: octetsOf rest := rfl
  rw [h, octet_of_bits]

/-- The bits of octets spell them again. -/
@[simp] theorem octetsOf_contentBits (os : List Octet) : octetsOf (contentBits os) = os := by
  induction os with
  | nil => rfl
  | cons o os ih => rw [contentBits_cons, octetsOf_octetBits, ih]

end Sys2Proof.Machine
end

