-- ==== Sys2Proof/Laws/Requests.lean ====
section
/-! SUPPORT. Laws/Requests.lean: what the taking of a request comes to once its conditions hold, and what a refusal leaves. -/

namespace Sys2Proof.Machine

/-- The state in which an accepted request's action runs: the request gone, its RESPONSE's place held. -/
def State.taken (s : State) (tag : Octet) (payload : List Octet) : State :=
  appendFrame ⟨0, .response, tag, [requestCode payload, 0, 0]⟩ (popRequest s)

/-- A row whose request stands first acts on the state that holds the RESPONSE's place, and the RESPONSE then takes that place. -/
theorem takeRequest_asked {row : RequestRow} {act : List Octet → State → Done} {s : State} {tag : Octet} {payload : List Octet}
    {rest : List Request} (h : s.Asked tag payload rest) (hr : rowOf payload = row) :
    takeRequest row act s = placeFrame s.arm.outbound.length
      (responseTo ⟨tag, payload⟩ (actOn act payload (s.taken tag payload)).1 (actOn act payload (s.taken tag payload)).2.waiting)
      (actOn act payload (s.taken tag payload)).2 := by
  obtain ⟨h1, h2, h3, h4⟩ := h
  simp [takeRequest, State.nextRequest, State.taken, h1, h2, h3, h4, outboundCapacity, hr, answerRequest, responseTo, Status.code, octet]

/-- A row whose request does not stand first changes nothing. -/
theorem takeRequest_other {row : RequestRow} {act : List Octet → State → Done} {s : State}
    (h : ∀ r, s.nextRequest = some r → rowOf r.payload ≠ row) : takeRequest row act s = s := by
  unfold takeRequest
  split
  · rename_i r hr
    rw [if_neg (h r hr)]
  · rfl

/-- The held place, once filled, makes the state an answer. -/
theorem placeFrame_taken {s : State} {tag : Octet} {payload : List Octet} {rest : List Request} (h : s.Asked tag payload rest) (st : Status)
    (data : List Octet) :
    placeFrame s.arm.outbound.length (responseTo ⟨tag, payload⟩ ⟨st, data⟩ s.notices.queue.length) (s.taken tag payload) =
      s.answered rest tag (requestCode payload) st data := by
  simp [placeFrame, State.taken, appendFrame, popRequest, modArm, State.answered, responseTo, h.front]

/-- A request that is refused is answered, and nothing else changes. -/
theorem takeRequest_refused {row : RequestRow} {act : List Octet → State → Done} {s : State} {tag : Octet} {payload : List Octet}
    {rest : List Request} (h : s.Asked tag payload rest) (hr : rowOf payload = row) {st : Status}
    (ha : actOn act payload (s.taken tag payload) = refuse st (s.taken tag payload)) :
    takeRequest row act s = s.answered rest tag (requestCode payload) st [] := by
  rw [takeRequest_asked h hr, ha]
  exact placeFrame_taken h st []

end Sys2Proof.Machine
end

