-- ==== Sys2Proof/Tests/Slice0.lean ====
section
/-! SUPPORT. Slice0.lean: ill-formed commands refused, small tests of single steps with results from the manual, and for every statement of
Obligations.lean with hypotheses a state and operands that meet them. -/

namespace Sys2Proof.Tests

open Sys2Proof Sys2Proof.Machine

/-! ## Small states -/

/-- The part after reset with its power states and a lane's fields changed. -/
def onPower (f : Power → Power) : State := modPower .a f State.reset

/-- Lane A in a power state with a fault count. -/
def powered (st : PowerState) (n : Nat) : State := onPower (fun p => { p with state := st, faultCount := n })

/-- A state with a request at the front of an otherwise empty queue, and the link UP. -/
def asking (s : State) (payload : List Octet) : State :=
  { s with resetAsserted := false, arm := { s.arm with linkUp := true, requests := [⟨7, payload⟩], outbound := [] } }

theorem asking_asked (s : State) (payload : List Octet) : (asking s payload).Asked 7 payload [] := ⟨rfl, rfl, Nat.zero_lt_succ 23, rfl⟩

/-- A comparison of two numbers that evaluate. -/
theorem le_by {m n : Nat} (h : Nat.ble m n = true) : m ≤ n := Nat.le_of_ble_eq_true h

/-- The fingerprint of the tests. -/
def print1 : Fingerprint := fpOf 0xAA 0xBB 0xCC 0x01 0x02 0x03

/-- An entry on lane A at address 5. -/
def member (st : EntryState) (name : Option Nat) : Entry := { Entry.assigned .a 5 print1 with state := st, name := name }

/-- One entry in slot 31 of an otherwise empty roster. -/
def holding (e : Entry) (s : State) : State := setEntry 31 (some e) s

/-- The entry of the only slot taken. -/
def only31 (e : Entry) (j : Nat) : Option Entry := if j = 31 then some e else none

theorem reset_entry (j : Nat) : State.reset.entry j = none := by
  have h : State.reset.roster = List.replicate 32 none := rfl
  rw [State.entry, h, List.getD_eq_getElem?_getD, List.getElem?_replicate]
  split <;> rfl

/-- A state with the roster of the tests. -/
theorem holding_entry {s : State} (h : s.roster = State.reset.roster) (e : Entry) (j : Nat) : (holding e s).entry j = only31 e j := by
  have hr : s.entry j = none := by rw [← reset_entry j]; simp [State.entry, h]
  by_cases hj : j = 31
  · subst hj
    simp [holding, only31, entry_setEntry_same (s := s) (i := 31) (by rw [h]; decide)]
  · have hs : (setEntry 31 (some e) s).entry j = s.entry j := entry_setEntry_ne (fun x => hj x.symm) _
    simp [holding, only31, hj, hs, hr]

/-- The reference to that entry. -/
def ref31 : EntryRef := ⟨.a, 31, print1⟩

/-- An exchange of attempt 1 in a phase. -/
def inFlight (src : Source) (k : BusKind) (r : Option EntryRef) (ph : Phase) (payload : List Octet) : Exchange :=
  { Exchange.request src k 5 r .initial payload with phase := ph }

/-- Lane A LIVE with an exchange. -/
def busy (x : Exchange) (s : State) : State := modLane .a (fun y => { y with exch := some x }) s

/-- The arm-link receiver in a state. -/
def hearing (r : RxState) : State := setArmRx r State.reset

/-! ## Ill-formed commands -/

theorem test_wf_strap_code : (Instr.powerOn (.resistor 8) false).wf = false := by decide
theorem test_wf_release_strap_code : (Instr.resetRelease (.resistor 8) false).wf = false := by decide
theorem test_wf_seven_ones : (Instr.armFrameReceived (List.replicate 7 true)).wf = false := by decide
theorem test_wf_frame_octets : frameLegal 1 (List.replicate 16 false) = false := by decide
theorem test_wf_break_bits : (Instr.frameBreak 568).wf = false := by decide
theorem test_wf_probe_current : (Instr.probeCurrentChange .a 20001).wf = false := by decide
theorem test_wf_reply_break : (Instr.replyFrameEnd .a (.brk 552)).wf = false := by decide
theorem test_wf_guard_break : (Instr.guardIdleLost .a (.frameEnd (.brk 552))).wf = false ∧ (Instr.guardIdleLost .a (.frameEnd (.brk 0))).wf = true := by
  decide
theorem test_wf_silence_slot : (Instr.silenceCheckDue 32).wf = false := by decide
theorem test_wf_recall_slot : (Instr.recallEchoDue 32).wf = false := by decide
theorem test_wf_reply_frame : (Instr.replyFrameEnd .a (.tail (List.replicate 7 true))).wf = false := by decide
theorem test_wf_slot_moment : (Instr.slotObservation .b (.zero 141)).wf = false := by decide
theorem test_wf_delimiter_moment : (Instr.slotObservation .b (.delimiter 141)).wf = false := by decide
theorem test_wf_accepts : (Instr.powerOn (.resistor 7) true).wf = true ∧ (Instr.slotObservation .a (.zero 140)).wf = true := by decide

/-! ## Single steps, with results from the manual -/

/-- R9: code 6 gives 10 Mbit/s and 1.5 A. -/
theorem test_strap_ceiling : ceilingOf 6 = 15 ∧ armRate 6 = 10 ∧ armRate 3 = 5 ∧ ceilingOf 3 = 20 := by decide

/-- R2: six 1s are followed by an inserted 0. -/
theorem test_bit_insertion : insertBits (List.replicate 7 true) = [true, true, true, true, true, true, false, true] := by decide

/-- R36: with strap code 0 a request of 25 steps gives 0.5 A. -/
theorem test_limit_clamped : clampLimit (ceilingOf 0) 25 = 5 ∧ clampLimit (ceilingOf 0) 0 = 1 := by decide

/-- R42, R44: the bit time of code 5 is 16 periods, of code 0 512. -/
theorem test_bit_periods : (⟨5, 4, 20, 2⟩ : Profile).bitPeriods = 16 ∧ (⟨0, 4, 20, 2⟩ : Profile).bitPeriods = 512 := by decide

/-- R70: the child of the root for slot 2 begins with the bits 10. -/
theorem test_child : Prefix.root.child 2 = ⟨1, 0x800000000000⟩ := by decide

/-- R61: the arbiter wraps from slot 31 to slot 0 for the next echo. -/
theorem test_echo_order : (echoOrder 31).head? = some 0 ∧ (echoOrder 3).head? = some 4 := by decide

/-- R129: the cursor goes from high to low. -/
theorem test_cursor_wraps : (⟨192, 254, 254⟩ : NameRange).cursorAfter 254 = 192 := by decide

/-- R188, R189: at a full queue the newest record is overwritten and marked. -/
theorem test_notice_overwritten :
    (pushNotice (.cycleOverrun .frame 1) (List.replicate 16 ⟨.cycleOverrun .frame 0, false⟩)).getLast? =
      some ⟨.cycleOverrun .frame 1, true⟩ := by decide

/-- R10, R1: a REFUSAL for tag 1 from name 9 with reason 8 goes out as destination 0, source 9, kind 83H, tag 1, 8. -/
theorem test_arm_body : (refusal 9 1 .badKind).body = [0, 9, 0x83, 1, 8] := by decide

/-- R196: a request's content is its target address, its kind code and its payload. -/
theorem test_bus_body : (Exchange.request .supervision .unaddress 30 none .initial []).body = [30, 0x14] := by decide

/-- R5: a break after seven content bits gives no class, after eight BROKEN. -/
theorem test_break_class : breakClass 7 = .dropped ∧ breakClass 8 = .broken := by decide

/-- The link of a part after reset is DOWN, so it drops and counts what it is offered (R15). -/
theorem test_offer_down : (offer (refusal 9 1 .badKind) State.reset).arm.counters.outboundDrops = 1 := by decide

/-! ## States and operands that meet the hypotheses of the statements, clause by clause -/

theorem witness_StepRunsFrontCommand : ∃ (c : Instr) (rest : List Instr) (s : State), s.pending = c :: rest :=
  ⟨.pinReset, [], { State.reset with pending := [.pinReset] }, rfl⟩

theorem witness_IdleStepPassesOneMillisecond : State.reset.pending = [] := rfl

theorem witness_ResetsSetEveryBlock : ∃ (s : State) (code : Nat), code = 7 ∧ code < 8 ∧ s.resetAsserted = true :=
  ⟨{ State.reset with resetAsserted := true }, 7, rfl, by decide, rfl⟩

theorem witness_NothingActsUnderReset : ∃ s t : State, s.resetAsserted = true ∧ actsUnderReset .identify = false ∧ s.resetQuiet ∧ step s = .next t :=
  ⟨{ State.reset with resetAsserted := true }, _, rfl, rfl,
    fun _ => ⟨fun l => by cases l <;> rfl, rfl, rfl, rfl, rfl, rfl⟩, rfl⟩

theorem witness_SoftReset :
    (asking State.reset [0x18]).Asked 7 [0x18] [] ∧ (asking State.reset [0x18, 0]).Asked 7 (0x18 :: 0 :: []) [] ∧
      (let s := asking (powered .live 0) [0x18]
       s.Asked 7 [0x18] [] ∧ (s.lane .a).power.state = .live ∧ (s.lane (otherLane .a)).power.state = .off) ∧
      (let s := asking (powered .ramping 2) [0x18]
       s.Asked 7 [0x18] [] ∧ (s.lane .a).power.state = .ramping ∧ (s.lane (otherLane .a)).power.state = .off) :=
  ⟨asking_asked _ _, asking_asked _ _, ⟨asking_asked _ _, rfl, rfl⟩, asking_asked _ _, rfl, rfl⟩

theorem witness_SentFrameIsValid :
    (4 ≤ (List.replicate 68 (0xFF : Octet)).length ∧ (List.replicate 68 (0xFF : Octet)).length ≤ 68) ∧
      (2 ≤ (List.replicate 66 (0xFF : Octet)).length ∧ (List.replicate 66 (0xFF : Octet)).length ≤ 66) ∧
      4 ≤ ([0, 1, 2, 3] : List Octet).length ∧ 2 ≤ ([0, 1] : List Octet).length := by simp

theorem witness_ReceiverReadsSentFrames : ∀ b ∈ [List.replicate 68 (0xFF : Octet), []], b.length ≤ 68 := by simp

set_option maxRecDepth 4000 in
theorem witness_ArmLinkEvents :
    ((hearing .hunt).resetAsserted = false ∧ (hearing .hunt).arm.rx = .hunt) ∧
      ((hearing .frame).arm.rx = .frame ∧ checkContent armMin armMax (List.replicate 48 false) = .corrupt ∧
        checkContent armMin armMax (List.replicate 9 false) = .misaligned ∧ checkContent armMin armMax [] = .short ∧
        8 ≤ 8 ∧ 7 < 8) ∧
      (hearing .discard).arm.rx = .discard ∧
      (let s := appendFrame (refusal 9 1 .badKind) State.reset
       s.arm.tx = none ∧ s.arm.outbound = [refusal 9 1 .badKind]) ∧
      ((modArm (fun a => { a with tx := some [] }) State.reset).arm.tx.isSome = true ∧ State.reset.arm.outbound = []) ∧
      (let s := { asking State.reset [] with now := 100, arm := { (asking State.reset []).arm with linkTimer := some 100 } }
       s.resetAsserted = false ∧ s.arm.linkUp = true ∧ s.arm.linkTimer = some 100 ∧ 100 ≤ s.now ∧ { s with now := 99 }.now < 100) := by decide

/-- The sequencer in a state with a source, the list empty. -/
def sequencing (st : SeqState) (src : Trigger) (s : State) : State := modSeq (fun q => { q with state := st, source := src }) s

theorem no_cycle_entry {q : Sequencer} (h : q.list = List.replicate 12 none) (i : Nat) : q.entry i = none := by
  rw [Sequencer.entry, h, List.getD_eq_getElem?_getD, List.getElem?_replicate]
  split <;> rfl

theorem witness_ArrivingFrames :
    (let s := hearing .frame
     s.resetAsserted = false ∧ s.arm.rx = .frame ∧ (List.replicate 64 (0 : Octet)).length ≤ 64 ∧ s.arm.requests.length < 4 ∧
       s.arm.outbound.length < 24 ∧ s.seq.state = .stopped) ∧
      (let s := modArm (fun a => { a with requests := List.replicate 4 ⟨0, []⟩, outbound := List.replicate 24 (refusal 9 1 .badKind) }) (hearing .frame)
       s.resetAsserted = false ∧ s.arm.rx = .frame ∧ 4 ≤ s.arm.requests.length ∧ 24 ≤ s.arm.outbound.length) ∧
      (∀ (st : SeqState) (src : Trigger), let s := sequencing st src (hearing .frame)
       s.resetAsserted = false ∧ s.arm.rx = .frame ∧ s.seq.state = st ∧ s.seq.source = src ∧ (∀ i, s.seq.entry i = none) ∧
         s.seq.stopPending = false ∧ s.arm.outbound.length < 24) ∧
      ((255 : Octet) ≠ 0 ∧ (0x81 : Octet) ≠ 0x01 ∧ (0x81 : Octet) ≠ 0x02 ∧ (0x81 : Octet) ≠ 0x03) :=
  ⟨by decide, by decide, fun _ _ => ⟨rfl, rfl, rfl, rfl, no_cycle_entry rfl, rfl, Nat.zero_lt_succ 23⟩, by decide⟩

theorem witness_DataToADevice :
    (let s := hearing .frame
     s.resetAsserted = false ∧ s.arm.rx = .frame ∧ s.arm.outbound.length < 24 ∧ s.entryNamed 254 = none) ∧
      (let s := holding (member .proving (some 9)) (hearing .frame)
       s.arm.rx = .frame ∧ s.entryNamed 9 = some (31, member .proving (some 9))) ∧
      (let s := modCensus .a (fun c => { c with run := .stopping }) (holding (member .live (some 9)) (hearing .frame))
       s.entryNamed 9 = some (31, member .live (some 9)) ∧ (s.lane .a).census.run ≠ .idle) ∧
      (let s := modLane .a (fun x => { x with forward := List.replicate 6 (.broadcast 0 []) }) (holding (member .suspect (some 1)) (hearing .frame))
       s.entryNamed 1 = some (31, member .suspect (some 1)) ∧ (s.lane .a).census.run = .idle ∧ 6 ≤ (s.lane .a).forward.length) ∧
      (let s := modLane .a (fun x => { x with forward := List.replicate 5 (.broadcast 0 []) }) (holding (member .live (some 254)) (hearing .frame))
       s.entryNamed 254 = some (31, member .live (some 254)) ∧ (s.lane .a).census.run = .idle ∧ (s.lane .a).forward.length < 6) ∧
      (let s := modPower .a (fun p => { p with state := .live }) (holding (member .suspect (some 9)) (hearing .frame))
       s.resetAsserted = false ∧ s.arm.rx = .frame ∧ s.arm.outbound.length < 24 ∧ (s.lane .a).power.state = .live ∧
         (s.lane .b).power.state ≠ .live ∧ (s.lane .a).census.run = .idle ∧ (s.lane .a).forward.length < 6 ∧
         s.entry 31 = some (member .suspect (some 9)) ∧
         6 ≤ ((modLane .a (fun x => { x with forward := List.replicate 6 (.broadcast 0 []) }) s).lane .a).forward.length) ∧
      (let s := hearing .frame
       (s.lane .a).power.state ≠ .live ∧ (s.lane .b).power.state ≠ .live) := by decide

theorem witness_NoticesAndOffers :
    (let s := { State.reset with notices := ⟨List.replicate 16 ⟨.cycleOverrun .frame 0, false⟩, .initial⟩ }
     s.notices.masks.passes (.cycleOverrun .frame 1) = true ∧ 16 ≤ s.notices.queue.length) ∧
      (State.reset.notices.masks.passes (.cycleOverrun .frame 1) = true ∧ State.reset.notices.queue.length < 16) ∧
      (⟨0, 0, 0, 0⟩ : Masks).passes (.cycleOverrun .frame 1) = false ∧ State.reset.arm.linkUp = false ∧
      (asking State.reset []).arm.linkUp = true ∧ (asking State.reset []).arm.outbound.length < 24 := by decide

theorem witness_ResponseStandsAtItsPlace :
    (asking State.reset [0x10, 0, 0, 0, 0, 0, 0]).Asked 7 [0x10, 0, 0, 0, 0, 0, 0] [] ∧ requestRow .release = some .release ∧
      rowOf [0x10, 0, 0, 0, 0, 0, 0] = .release ∧ RequestRow.release ≠ .resetPart ∧
      (24 ≤ (List.replicate 24 (refusal 9 1 .badKind)).length ∧ (requestRow .identify).isSome = true) :=
  ⟨asking_asked _ _, rfl, rfl, by decide, by decide⟩

/-- A part whose link is DOWN, with a request still in the queue. -/
def askingDown (s : State) (payload : List Octet) : State := modArm (fun a => { a with linkUp := false }) (asking s payload)

theorem witness_ResponseWhileTheLinkIsDown :
    (∀ (f : Power → Power) (payload : List Octet), let s := askingDown (onPower f) payload
      s.resetAsserted = false ∧ s.arm.linkUp = false ∧ s.arm.outbound = [] ∧ s.arm.requests = [⟨7, payload⟩] ∧ s.overTemp = false ∧
        s.seq.state = .stopped ∧ s.seq.source = .frame ∧ ∀ slot e, s.entry slot = some e → e.state ≠ .held) ∧
      (requestRow .identify = some .identify ∧ rowOf [0x01] = .identify ∧ RequestRow.identify ≠ .resetPart) ∧
      (3 : Octet).toNat ≤ 3 ∧ (State.reset.lane .a).power.state = .off ∧ (1 ≤ (5 : Octet).toNat ∧ (5 : Octet).toNat ≤ 5) ∧
      ((1 : Octet) ≠ 0 ∧ (254 : Octet) ≠ 255 ∧ (1 : Octet).toNat ≤ (254 : Octet).toNat) :=
  ⟨fun _ _ => ⟨rfl, rfl, rfl, rfl, rfl, rfl, rfl, fun slot e h => by cases (reset_entry slot).symm.trans h⟩,
    ⟨rfl, rfl, by decide⟩, by decide, rfl, by decide, by decide⟩

theorem witness_ResponseOfARefusedRequest : ∃ (s t : State) (f : ArmFrame), s.Asked 7 [0x01, 0] [] ∧ requestRow .identify = some .identify ∧
    rowOf [0x01, 0] = .identify ∧ exec .identify s = .next t ∧ t.arm.outbound[s.arm.outbound.length]? = some f ∧ f.payload[1]? = some 4 :=
  ⟨asking State.reset [0x01, 0], _, ⟨0, .response, 7, [1, 4, 0]⟩, asking_asked _ _, rfl, rfl, rfl, by decide, rfl⟩

theorem witness_WrongFormsAreRefused :
    ((asking State.reset [0x05, 0, 0, 0, 0]).Asked 7 (0x05 :: [0, 0, 0, 0]) [] ∧ requestRow .writeProfile = some .writeProfile ∧
      rowOf (0x05 :: [0, 0, 0, 0]) = .writeProfile ∧ acceptsLength 0x05 4 = false) ∧
      ((asking State.reset [0x03, 3, 4]).Asked 7 (0x03 :: [3, 4]) [] ∧ requestRow .laneControlNone = some .laneControlNone ∧
        rowOf (0x03 :: [3, 4]) = .laneControlNone ∧ acceptsLength 0x03 2 = true ∧ 3 < (4 : Octet).toNat) ∧
      ((asking State.reset [0x07, 1, 3]).Asked 7 (0x07 :: [1, 3]) [] ∧ rowOf (0x07 :: [1, 3]) = .startCensus) ∧
      ((asking State.reset [0x09, 32, 0]).Asked 7 (0x09 :: [32, 0]) [] ∧ 31 < (32 : Octet).toNat) ∧
      ((asking State.reset [0x0A, 3, 255]).Asked 7 (0x0A :: [3, 255]) [] ∧ (asking State.reset [0x0A, 1, 255]).Asked 7 (0x0A :: [1, 255]) []) ∧
      ((asking State.reset [0x14, 3, 3, 0, 10]).Asked 7 (0x14 :: [3, 3, 0, 10]) [] ∧ 2 < (3 : Octet).toNat ∧ acceptsLength 0x14 4 = true) :=
  ⟨⟨asking_asked _ _, rfl, rfl, rfl⟩, ⟨asking_asked _ _, rfl, rfl, rfl, by decide⟩, ⟨asking_asked _ _, rfl⟩, ⟨asking_asked _ _, by decide⟩,
    ⟨asking_asked _ _, asking_asked _ _⟩, asking_asked _ _, by decide, rfl⟩

theorem witness_IdentityOptionsAndUnknownRequests :
    (asking State.reset [0x01]).Asked 7 [0x01] [] ∧ (asking State.reset [0x01, 0]).Asked 7 (0x01 :: 0 :: []) [] ∧
      (asking State.reset []).Asked 7 [] [] ∧ (asking State.reset [0x19]).Asked 7 (0x19 :: []) [] ∧ 0x18 < (0x19 : Octet).toNat ∧
      (asking State.reset [0x04, octet (laneCode .b)]).Asked 7 [0x04, octet (laneCode .b)] [] ∧
      (asking State.reset [0x04, 3]).Asked 7 [0x04, 3] [] ∧ (3 : Octet) ≠ 1 ∧ (3 : Octet) ≠ 2 :=
  ⟨asking_asked _ _, asking_asked _ _, asking_asked _ _, asking_asked _ _, by decide, asking_asked _ _, asking_asked _ _, by decide, by decide⟩

theorem witness_ReadStatus :
    (asking State.reset [0x02]).Asked 7 [0x02] [] ∧ (State.reset.lane .a).power.state ∉ [PowerState.waiting, .ramping, .live] ∧
      (∀ (st : PowerState) (i : Nat), let s := asking (onPower (fun p => { p with state := st, laneCurrent := i, probeCurrent := i })) [0x02]
       s.Asked 7 [0x02] [] ∧ (s.lane .a).power.state = st ∧ (s.lane .a).power.laneCurrent = i ∧ (s.lane .a).power.probeCurrent = i) :=
  ⟨asking_asked _ _, by decide, fun _ _ => ⟨asking_asked _ _, rfl, rfl, rfl⟩⟩

theorem witness_RosterReads :
    (let e := member .live (some 9)
     let s := asking (holding e State.reset) [0x09, 31, 0]
     s.roster.length = 32 ∧ s.Asked 7 [0x09, 31, 0] [] ∧ (31 : Octet).toNat ≤ 31 ∧ s.entry 31 = some e ∧ (0 : Octet).getLsbD 7 = false) ∧
      (let e := member .live (some 9)
       let s := asking (holding e State.reset) [0x09, 0, 0x80]
       s.Asked 7 [0x09, 0, 0x80] [] ∧ (0x80 : Octet).getLsbD 7 = true ∧ s.entry 31 = some e ∧ ∀ i, 0 ≤ i → i < 31 → s.entry i = none) ∧
      ((asking State.reset [0x09, 0, 0x80]).Asked 7 [0x09, 0, 0x80] [] ∧ ∀ i, (asking State.reset [0x09, 0, 0x80]).entry i = none) ∧
      (let e := member .lost (some 254)
       let s := asking (holding e State.reset) [0x0A, 1, 254]
       s.Asked 7 [0x0A, 1, 254] [] ∧ s.entry 31 = some e ∧ e.name = some (254 : Octet).toNat ∧
         ∀ j f, s.entry j = some f → f.name = some 254 → j = 31) ∧
      (let e := member .held none
       let s := asking (holding e State.reset) [0x0A, 2, 0xAA, 0xBB, 0xCC, 0x01, 0x02, 0x03]
       s.Asked 7 [0x0A, 2, 0xAA, 0xBB, 0xCC, 0x01, 0x02, 0x03] [] ∧ s.entry 31 = some e ∧ e.fp = fpOf 0xAA 0xBB 0xCC 0x01 0x02 0x03 ∧
         ∀ j y, s.entry j = some y → y.fp = fpOf 0xAA 0xBB 0xCC 0x01 0x02 0x03 → j = 31) := by
  have one (e : Entry) (j : Nat) (f : Entry) (h : (holding e State.reset).entry j = some f) : j = 31 := by
    rw [holding_entry rfl, only31] at h
    by_contra hj
    simp [hj] at h
  have zero (e : Entry) (j : Nat) (hj : j < 31) : (holding e State.reset).entry j = none := by
    rw [holding_entry rfl, only31, if_neg (by omega)]
  exact ⟨⟨rfl, asking_asked _ _, by decide, rfl, rfl⟩, ⟨asking_asked _ _, rfl, rfl, fun i _ hi => zero _ i hi⟩,
    ⟨asking_asked _ _, reset_entry⟩, ⟨asking_asked _ _, rfl, rfl, fun j f h _ => one _ j f h⟩,
    asking_asked _ _, rfl, rfl, fun j y h _ => one _ j y h⟩

theorem witness_Profiles :
    (asking State.reset [0x05, 3, 6, 1, 0, 4]).Asked 7 [0x05, 3, 6, 1, 0, 4] [] ∧ (3 : Octet).toNat ≤ 3 ∧
      (asking State.reset [0x05, 4, 0, 2, 1, 0]).Asked 7 [0x05, 4, 0, 2, 1, 0] [] ∧ 3 < (4 : Octet).toNat ∧
      (asking State.reset [0x06, 3]).Asked 7 [0x06, 3] [] ∧ (asking State.reset [0x06, 3]).profiles[3]? = some Profile.initial :=
  ⟨asking_asked _ _, by decide, asking_asked _ _, by decide, asking_asked _ _, rfl⟩

theorem witness_LaneOptionsWrite :
    (let s := asking (holding { member .live (some 9) with silenceFrom := some 0 } { State.reset with now := 250 })
       [0x04, octet (laneCode .a), 0xE0, 0, 8, 0, 250, 3]
     s.Asked 7 [0x04, octet (laneCode .a), 0xE0, 0, 8, 0, 250, 3] [] ∧ s.roster.length = 32 ∧ (3 : Octet).toNat ≤ 3 ∧
       s.entry 31 = some { member .live (some 9) with silenceFrom := some 0 } ∧ (member .live (some 9)).checked = false ∧ 250 ≤ s.now - 0) ∧
      (let s := asking (holding { member .lost (some 9) with recallFrom := some 1 } { State.reset with now := 250 })
         [0x04, octet (laneCode .a), 0xE0, 0, 8, 0, 250, 3]
       s.entry 31 = some { member .lost (some 9) with recallFrom := some 1 } ∧ ¬ 250 ≤ s.now - 1) ∧
      (let s := asking (holding { member .proving (some 9) with clean := 2 } State.reset) [0x04, octet (laneCode .a), 0xE0, 2, 8, 0, 250, 3]
       s.entry 31 = some { member .proving (some 9) with clean := 2 } ∧ (2 : Octet).toNat ≤ 2) ∧
      ((asking State.reset [0x04, octet (laneCode .b), 0, 0, 1, 0, 0, 4]).Asked 7 [0x04, octet (laneCode .b), 0, 0, 1, 0, 0, 4] [] ∧
        3 < (4 : Octet).toNat) :=
  ⟨⟨asking_asked _ _, rfl, by decide, rfl, rfl, by decide⟩, ⟨rfl, by decide⟩, ⟨rfl, by decide⟩, asking_asked _ _, by decide⟩

theorem witness_NoticeRequests :
    (asking State.reset [0x15, 6]).Asked 7 [0x15, 6] [] ∧ (asking State.reset [0x15, 0]).Asked 7 [0x15, 0] [] ∧
      (asking State.reset [0x16]).Asked 7 [0x16] [] ∧ (asking State.reset [0x16, 255, 255, 255, 255]).Asked 7 [0x16, 255, 255, 255, 255] [] :=
  ⟨asking_asked _ _, asking_asked _ _, asking_asked _ _, asking_asked _ _⟩

theorem witness_ReadCounters :
    (asking State.reset [0x17, 0, 0x80]).Asked 7 [0x17, 0, 0x80] [] ∧
      (asking State.reset [0x17, octet (laneCode .b), 0]).Asked 7 [0x17, octet (laneCode .b), 0] [] ∧
      (asking State.reset [0x17, 3, 0]).Asked 7 [0x17, 3, 0] [] ∧ 2 < (3 : Octet).toNat :=
  ⟨asking_asked _ _, asking_asked _ _, asking_asked _ _, by decide⟩

theorem witness_CycleList :
    (let s := asking State.reset (0x11 :: 11 :: 254 :: List.replicate 8 0)
     s.Asked 7 (0x11 :: 11 :: 254 :: List.replicate 8 0) [] ∧ (List.replicate 8 (0 : Octet)).length ≤ 8 ∧ (11 : Octet).toNat ≤ 11 ∧
       s.seq.state = .stopped) ∧
      (asking State.reset (0x11 :: 12 :: 0 :: List.replicate 9 0)).Asked 7 (0x11 :: 12 :: 0 :: List.replicate 9 0) [] ∧
      (let s := asking (modSeq (fun q => { q with state := .armed }) State.reset) [0x12, 255]
       s.Asked 7 [0x12, 255] [] ∧ s.seq.state ≠ .stopped) ∧
      (asking State.reset [0x12, 12]).Asked 7 [0x12, 12] [] ∧
      (let s := asking (setCycleEntry 11 (some ⟨9, [1], some ⟨[2], print1⟩⟩) State.reset) [0x13, 11]
       s.Asked 7 [0x13, 11] [] ∧ s.seq.entry 11 = some ⟨9, [1], some ⟨[2], print1⟩⟩ ∧ s.seq.entry 10 = none) ∧
      (let s := asking (setCycleEntry 0 (some ⟨9, [], none⟩) State.reset) [0x13, 0]
       s.Asked 7 [0x13, 0] [] ∧ s.seq.entry 0 = some ⟨9, [], none⟩) :=
  ⟨⟨asking_asked _ _, by decide, by decide, rfl⟩, asking_asked _ _, ⟨asking_asked _ _, by decide⟩, asking_asked _ _,
    ⟨asking_asked _ _, rfl, rfl⟩, asking_asked _ _, rfl⟩

theorem witness_CycleControl :
    (asking State.reset [0x14, 0]).Asked 7 [0x14, 0] [] ∧ (asking State.reset [0x14, 1]).Asked 7 [0x14, 1] [] ∧
      (asking State.reset [0x14, 2]).Asked 7 [0x14, 2] [] ∧
      (∀ a : Octet, (asking State.reset [0x14, a, octet Trigger.period.code, 3, 233]).Asked 7 [0x14, a, octet Trigger.period.code, 3, 233] []) :=
  ⟨asking_asked _ _, asking_asked _ _, asking_asked _ _, fun _ => asking_asked _ _⟩

theorem witness_EntryToAPowerState : ∀ st : PowerState, ∃ p : Power, p.overSupply = true ∧ p.timers.backfeed = none ∧ p.laneCurrent < 2000 ∧ st = st :=
  fun _ => ⟨{ Power.initial 5 with overSupply := true }, rfl, rfl, Nat.zero_lt_succ 1999, rfl⟩

theorem witness_LaneControlEnable :
    (let s := asking (powered .off 1) [0x03, octet (laneCode .a), 1]
     s.Asked 7 [0x03, octet (laneCode .a), 1] [] ∧ (s.lane .a).power.state = .off ∧ s.overTemp = false) ∧
      (let s := asking { powered .off 1 with overTemp := true } [0x03, octet (laneCode .a), 1]
       s.Asked 7 [0x03, octet (laneCode .a), 1] [] ∧ (s.lane .a).power.state = .off ∧ s.overTemp = true ∧ (s.lane .a).power.faultCount < 2) ∧
      (let s := asking { powered .off 2 with overTemp := true } [0x03, octet (laneCode .a), 1]
       s.Asked 7 [0x03, octet (laneCode .a), 1] [] ∧ (s.lane .a).power.state = .off ∧ s.overTemp = true ∧ 2 ≤ (s.lane .a).power.faultCount) ∧
      (let s := asking (powered .discharging 0) [0x03, octet (laneCode .a), 1]
       s.Asked 7 [0x03, octet (laneCode .a), 1] [] ∧ (s.lane .a).power.state ≠ .off) :=
  ⟨⟨asking_asked _ _, rfl, rfl⟩, ⟨asking_asked _ _, rfl, rfl, by decide⟩, ⟨asking_asked _ _, rfl, rfl, by decide⟩, asking_asked _ _, by decide⟩

theorem witness_LaneControlDisable :
    ∀ st : PowerState, let s := asking (powered st 3) [0x03, octet (laneCode .a), 2]
      s.Asked 7 [0x03, octet (laneCode .a), 2] [] ∧ (s.lane .a).power.state = st ∧ s.roster.length = 32 :=
  fun _ => ⟨asking_asked _ _, rfl, rfl⟩

theorem witness_LaneControlClearLatch :
    (∀ st : PowerState, let s := asking (powered st 3) [0x03, octet (laneCode .a), 3]
      s.Asked 7 [0x03, octet (laneCode .a), 3] [] ∧ (s.lane .a).power.state = st ∧ s.overTemp = false) ∧
      (let s := asking { powered .latched 3 with overTemp := true } [0x03, octet (laneCode .a), 3]
       s.Asked 7 [0x03, octet (laneCode .a), 3] [] ∧ (s.lane .a).power.state = .latched ∧ s.overTemp = true) :=
  ⟨fun _ => ⟨asking_asked _ _, rfl, rfl⟩, asking_asked _ _, rfl, rfl⟩

theorem witness_RequestedLimit :
    (asking State.reset [0x03, octet (laneCode .a), 0]).Asked 7 [0x03, octet (laneCode .a), 0] [] ∧
      (∀ i : Nat, let s := asking (onPower (fun p => { p with state := .live, laneCurrent := i })) [0x03, octet (laneCode .a), 0, 25]
        s.Asked 7 [0x03, octet (laneCode .a), 0, 25] [] ∧ (s.lane .a).power.state = .live ∧ (s.lane .a).power.laneCurrent = i) ∧
      min (5 * (State.reset.strap % 4 + 1)) (max 1 (25 : Octet).toNat) = 5 ∧ 499999 < 100000 * 5 ∧
      (100000 * 5 ≤ 500000 ∧ 999999 < 200000 * 5) ∧ 200000 * 5 ≤ 1000000 ∧
      (∀ (st : PowerState) (a : Octet), let s := asking (powered st 3) [0x03, octet (laneCode .a), a, 0]
        s.Asked 7 [0x03, octet (laneCode .a), a, 0] [] ∧ (s.lane .a).power.state = st ∧ s.overTemp = false) ∧
      (let s := asking (powered .off 0) [0x03, octet (laneCode .a), 0, 0]
       s.Asked 7 [0x03, octet (laneCode .a), 0, 0] [] ∧ (s.lane .a).power.state ≠ .ramping ∧ (s.lane .a).power.state ≠ .live) :=
  ⟨asking_asked _ _, fun _ => ⟨asking_asked _ _, rfl, rfl⟩, by decide, by decide, by decide, by decide,
    fun _ _ => ⟨asking_asked _ _, rfl, rfl⟩, asking_asked _ _, by decide, by decide⟩

theorem witness_StartCensus :
    ∀ m : CensusMode, let p : List Octet := [0x07, octet (laneCode .a), octet (modeCode (some m))]
      ((asking State.reset p).Asked 7 p [] ∧ ((asking State.reset p).lane .a).power.state ≠ .live) ∧
      (let s := asking (modCensus .a (fun c => { c with run := .stopping }) (powered .live 0)) p
       s.Asked 7 p [] ∧ (s.lane .a).power.state = .live ∧ (s.lane .a).census.run ≠ .idle) ∧
      (let s := asking (modLane .a (fun x => { x with unaddress := [30], forward := List.replicate 6 (.broadcast 0 []) })
           (holding (member .live (some 9)) (powered .live 0))) p
       s.Asked 7 p [] ∧ (s.lane .a).power.state = .live ∧ (s.lane .a).census.run = .idle ∧ s.roster.length = 32 ∧ s.seq.run = none ∧
         s.arm.outbound.length + 1 + (s.lane .a).forward.length ≤ 24) := by
  intro m
  cases m <;> exact ⟨⟨asking_asked _ _, by decide⟩, ⟨asking_asked _ _, rfl, by decide⟩, asking_asked _ _, rfl, rfl, rfl, rfl, by decide⟩

/-- A running census with an UNADDRESS of a source in flight. -/
def stopping (src : Source) : State :=
  busy (inFlight src .unaddress none .send []) (modCensus .a (fun c => { c with run := .running }) (powered .live 0))

theorem witness_StopCensus :
    (∀ src : Source, let s := asking (stopping src) [0x08, octet (laneCode .a)]
       s.Asked 7 [0x08, octet (laneCode .a)] [] ∧ (s.lane .a).census.run = .running ∧
         (s.lane .a).exch = some (inFlight src .unaddress none .send []) ∧ (inFlight src .unaddress none .send []).source = src) ∧
      ((asking State.reset [0x08, octet (laneCode .a)]).Asked 7 [0x08, octet (laneCode .a)] [] ∧ (State.reset.lane .a).census.run ≠ .running) :=
  ⟨fun _ => ⟨asking_asked _ _, rfl, rfl, rfl⟩, asking_asked _ _, by decide⟩

theorem witness_MapWrite :
    (let p : List Octet := 0x0B :: [63, 2, 1, 2, 3, 0, 0, 0, 3, 254, 16, 3, 1]
     (asking State.reset p).Asked 7 p [] ∧ (asking State.reset p).roster.length = 32 ∧
       ¬ (63 < (63 : Octet).toNat ∨ (254 : Octet) = 0 ∨ (254 : Octet) = 255 ∨ 3 < (3 : Octet).toNat)) ∧
      (let p : List Octet := 0x0B :: [64, 1, 1, 2, 3, 0, 0, 0, 1, 9, 1, 0, 0] ++ [16]
       (asking State.reset p).Asked 7 p [] ∧ 63 < (64 : Octet).toNat) ∧
      (asking State.reset [0x0D, 64]).Asked 7 [0x0D, 64] [] ∧
      ((asking State.reset [0x0D, 63]).Asked 7 [0x0D, 63] [] ∧ (asking State.reset [0x0D, 63]).mapEntry 63 = none) ∧
      (let m : MapEntry := ⟨.exact, 1, 2, none, 9, 1, 0, some 15, true⟩
       let s := asking (setMap 0 (some m) State.reset) [0x0D, 0]
       s.Asked 7 [0x0D, 0] [] ∧ s.mapEntry 0 = some m) :=
  ⟨⟨asking_asked _ _, rfl, by decide⟩, ⟨asking_asked _ _, by decide⟩, asking_asked _ _, ⟨asking_asked _ _, rfl⟩, asking_asked _ _, rfl⟩

theorem witness_MapClear :
    (∀ i : Octet, (asking State.reset [0x0C, i]).Asked 7 [0x0C, i] [] ∧ (asking State.reset [0x0C, i]).roster.length = 32) ∧
      (63 < (64 : Octet).toNat ∧ (64 : Octet) ≠ 255) ∧ (63 : Octet).toNat ≤ 63 :=
  ⟨fun _ => ⟨asking_asked _ _, rfl⟩, by decide, by decide⟩

theorem witness_SetProvisionalRange :
    (∀ a b : Octet, (asking State.reset [0x0E, a, b]).Asked 7 [0x0E, a, b] [] ∧ ∀ slot e, (asking State.reset [0x0E, a, b]).entry slot = some e → e.state ≠ .held) ∧
      (254 : Octet).toNat < (255 : Octet).toNat ∧ (1 : Octet) ≠ 0 ∧ ¬ (254 : Octet).toNat < (1 : Octet).toNat :=
  ⟨fun _ _ => ⟨asking_asked _ _, fun slot e h => by simpa using (reset_entry slot).symm.trans h⟩, by decide, by decide, by decide⟩

/-- The payload of a NAME DEVICE for the device of the tests. -/
def naming (n : Octet) : List Octet := [0x0F, 0xAA, 0xBB, 0xCC, 0x01, 0x02, 0x03, n]

theorem holding_one {s : State} (h : s.roster = State.reset.roster) (e : Entry) (j : Nat) (f : Entry) (hf : (holding e s).entry j = some f) :
    j = 31 ∧ f = e := by
  rw [holding_entry h, only31] at hf
  by_cases hj : j = 31
  · simp [hj] at hf
    exact ⟨hj, hf.symm⟩
  · simp [hj] at hf

theorem witness_NameDevice :
    ((asking State.reset (naming 255)).Asked 7 (naming 255) [] ∧ ∀ j y, (asking State.reset (naming 255)).entry j = some y → y.fp ≠ print1) ∧
      (∀ st : EntryState, let s := asking (holding (member st none) State.reset) (naming 254)
        s.Asked 7 (naming 254) [] ∧ s.entry 31 = some (member st none) ∧ (member st none).fp = print1 ∧
          (∀ j y, s.entry j = some y → y.fp = print1 → j = 31) ∧
          ¬ (s.carriedName .a = some 254 ∨ s.carriedName .b = some 254 ∨ ∃ j y, j ≠ 31 ∧ s.entry j = some y ∧ y.name = some 254) ∧
          0 < (s.lane .a).options.passThreshold) ∧
      (let s := asking (modCensus .b (fun c => { c with find := some ⟨0, .move, some ⟨254, .request, none⟩⟩ })
          (holding (member .live none) State.reset)) (naming 254)
       s.entry 31 = some (member .live none) ∧ s.carriedName .b = some 254) := by
  refine ⟨⟨asking_asked _ _, fun j y h => by simpa using (reset_entry j).symm.trans h⟩, fun st => ?_, rfl, rfl⟩
  refine ⟨asking_asked _ _, rfl, rfl, fun j y h _ => (holding_one rfl (member st none) j y h).1, ?_, Nat.zero_lt_succ 2⟩
  rintro (h | h | ⟨j, y, hj, h, _⟩)
  · cases h
  · cases h
  · exact hj (holding_one rfl (member st none) j y h).1

theorem witness_Release :
    let p : List Octet := [0x10, 0xAA, 0xBB, 0xCC, 0x01, 0x02, 0x03]
    ((asking State.reset p).Asked 7 p [] ∧ ∀ j y, (asking State.reset p).entry j = some y → y.fp ≠ print1) ∧
      (∀ run : RunState, let s := asking (modCensus .a (fun c => { c with run := run }) (holding (member .lost (some 9)) State.reset)) p
        s.Asked 7 p [] ∧ s.entry 31 = some (member .lost (some 9)) ∧ (member .lost (some 9)).fp = print1 ∧
          (∀ j y, s.entry j = some y → y.fp = print1 → j = 31) ∧ (s.lane .a).census.run = run) :=
  ⟨⟨asking_asked _ _, fun j y h => by simpa using (reset_entry j).symm.trans h⟩,
    fun _ => ⟨asking_asked _ _, rfl, rfl, fun j y h _ => (holding_one rfl _ j y h).1, rfl⟩⟩

/-- A name map with one entry, at index 0. -/
def mapped (m : MapEntry) (s : State) : State := setMap 0 (some m) s

theorem mapped_one (m : MapEntry) (i : Nat) (x : MapEntry) (h : (mapped m State.reset).mapEntry i = some x) : i = 0 ∧ x = m := by
  have hm : (mapped m State.reset).nameMap = some m :: List.replicate 63 none := rfl
  rw [State.mapEntry, hm, List.getD_eq_getElem?_getD] at h
  cases i with
  | zero => exact ⟨rfl, (Option.some.inj h).symm⟩
  | succ i =>
    rw [List.getElem?_cons_succ, List.getElem?_replicate] at h
    split at h <;> cases h

theorem reset_map (i : Nat) : State.reset.mapEntry i = none := by
  have h : State.reset.nameMap = List.replicate 64 none := rfl
  rw [State.mapEntry, h, List.getD_eq_getElem?_getD, List.getElem?_replicate]
  split <;> rfl

/-- The entry that pins the name of the tests' device, and a MODEL entry with a block of one name for it. -/
def exact9 : MapEntry := ⟨.exact, 0xAABBCC, 0x010203, none, 9, 1, 0, none, true⟩
def model254 : MapEntry := ⟨.model, 0xAABBCC, 0, some .a, 254, 1, 0, none, true⟩

theorem witness_NameResolution :
    State.reset.rangeSound ∧
      (let s := mapped exact9 State.reset
       s.mapEntry 0 = some exact9 ∧ exact9.makerModel = print1.extractLsb' 24 24 ∧ exact9.serial = print1.extractLsb' 0 24 ∧
         (∀ j k, s.mapEntry j = some k → 0 ≤ j) ∧ s.nameHeld exact9.base = false ∧
         (holding (member .live (some 9)) s).nameHeld exact9.base = true) ∧
      (let s := mapped model254 State.reset
       s.mapEntry 0 = some model254 ∧ model254.makerModel = print1.extractLsb' 24 24 ∧ (∀ j k, s.mapEntry j = some k → k.kind ≠ .exact ∧ j = 0) ∧
         model254.base ≤ 254 ∧ 254 < model254.base + model254.span ∧ s.nameHeld 254 = false) ∧
      ((∀ i, State.reset.mapEntry i = none) ∧ State.reset.range.cursor ≤ 192 ∧ 192 ≤ State.reset.range.high ∧ State.reset.nameHeld 192 = false) ∧
      (let s := mapped { model254 with base := 192, span := 16 } { holding (member .live (some 254)) State.reset with range := ⟨254, 254, 254⟩ }
       s.nameHeld 254 = true ∧ ∀ n, s.range.low ≤ n → n ≤ s.range.high → n = 254) := by
  refine ⟨⟨by decide, by decide, by decide, by decide⟩, ⟨rfl, by decide, by decide, fun j _ _ => Nat.zero_le j, by decide, by decide⟩,
    ⟨rfl, by decide, fun j k h => ?_, by decide, by decide, by decide⟩, ⟨reset_map, by decide, by decide, by decide⟩, by decide, ?_⟩
  · obtain ⟨rfl, rfl⟩ := mapped_one _ _ _ h
    decide
  · exact fun n h h' => Nat.le_antisymm h' h

theorem witness_NameResolutionOfAHeldEntry :
    let e := { member .held none with held := some .noName }
    let s := asking (holding e State.reset) [0x0E, 1, 254]
    s.Asked 7 [0x0E, 1, 254] [] ∧ ((1 : Octet) ≠ 0 ∧ (254 : Octet) ≠ 255 ∧ (1 : Octet).toNat ≤ (254 : Octet).toNat) ∧ s.roster.length = 32 ∧
      s.entry 31 = some e ∧ e.state = .held ∧ ∀ j y, s.entry j = some y → y.state = .held → 31 ≤ j :=
  ⟨asking_asked _ _, by decide, rfl, rfl, rfl, fun j y h _ => Nat.le_of_eq (holding_one rfl _ j y h).1.symm⟩

theorem witness_Completeness :
    (State.reset.roster.length = 32 ∧ State.reset.nameMap.length = 64 ∧ (([] : List Nat).Nodup ∧ ∀ i, i ∈ ([] : List Nat) ↔
      ∃ m : MapEntry, State.reset.mapEntry i = some m ∧ m.required = true)) ∧
      (∃ s t : State, s.tablesSound ∧ s.DevicesDistinct ∧ s.findsHome ∧ s.completeSound ∧ step s = .next t) := by
  refine ⟨⟨rfl, rfl, List.nodup_nil, fun i => ⟨fun h => (by cases h), fun ⟨m, h, _⟩ => (by cases (reset_map i).symm.trans h)⟩⟩,
    State.reset, _, ⟨rfl, rfl, rfl, rfl⟩, ⟨fun i j e f he => ?_, fun i j e f he => ?_, fun i e he => ?_⟩, fun l g h => ?_, fun l => ?_, rfl⟩
  · cases (reset_entry i).symm.trans he
  · cases (reset_entry i).symm.trans he
  · cases (reset_entry i).symm.trans he
  · cases l <;> cases h
  · cases l <;> rfl

theorem witness_CouplingAndRamping :
    (State.reset.resetAsserted = false ∧ (State.reset.lane .a).power.state ≠ .ramping ∧ (State.reset.lane .a).power.state ≠ .live) ∧
      (let s := onPower (fun p => { p with state := .waiting, timers := { p.timers with qualify := some 0 } })
       s.resetAsserted = false ∧ (s.lane .a).power.timers.qualify = some 0 ∧ 0 ≤ s.now ∧ (s.lane .a).power.state = .waiting) ∧
      (let s := onPower (fun p => { p with state := .ramping, faultCount := 2, timers := { p.timers with ramp := some 0 } })
       s.resetAsserted = false ∧ (s.lane .a).power.state = .ramping ∧ (s.lane .a).options.autoCensus = true ∧
         (s.lane .a).power.timers.ramp = some 0 ∧ 0 ≤ s.now ∧
         ((setOptions .a ⟨false, false, false, 3, 3, 250, 0⟩ s).lane .a).options.autoCensus = false) := by decide

theorem witness_LeavingByTheTool :
    (let x := inFlight (.forward 9 4) .data (some ref31) .wait [1]
     let s := modLane .a (fun y => { y with exch := some x, forward := List.replicate 6 (.broadcast 0 []) }) (asking (holding (member .live (some 9))
       (onPower (fun p => { p with state := .live, timers := { p.timers with removal := some 0 } }))) [])
     s.resetAsserted = false ∧ s.roster.length = 32 ∧ (s.lane .a).power.state = .live ∧ (s.lane .a).power.timers.removal = some 0 ∧ 0 ≤ s.now ∧
       s.arm.linkUp = true ∧ s.seq.run = none ∧ s.arm.outbound.length + 1 + (s.lane .a).forward.length ≤ 24) ∧
      (let s := { holding (member .live (some 9)) (powered .live 0) with notices := ⟨[], ⟨0xFD, 0xFC, 0, 0⟩⟩ }
       s.resetAsserted = false ∧ s.roster.length = 32 ∧ (s.lane .a).power.state = .live ∧ (s.lane .a).exch = none ∧ (s.lane .a).census.run = .idle ∧
         (∀ slot e, s.entry slot = some e → e.state ≠ .held) ∧ s.notices.masks.kinds.getLsbD 1 = false) ∧
      ((powered .ramping 0).resetAsserted = false ∧ ((powered .ramping 0).lane .a).power.state = .ramping ∧
        (powered .ramping 0).roster.length = 32) := by
  refine ⟨by decide, ⟨rfl, rfl, rfl, rfl, rfl, fun slot e h => ?_, rfl⟩, by decide⟩
  obtain ⟨-, rfl⟩ := holding_one (s := powered .live 0) rfl _ slot e h
  decide

theorem witness_LaneCurrentAndMasks :
    (∀ st : PowerState, (powered st 2).resetAsserted = false ∧ ((powered st 2).lane .a).power.state = st ∧
      ((powered st 2).lane .a).power.limit = 5 ∧ (powered st 2).roster.length = 32) ∧
      (999999 < 200000 * 5 ∧ 200000 * 5 ≤ 1000000) ∧
      (∀ st : PowerState, let s := onPower (fun p => { p with
         state := st, timers := { p.timers with overcurrent := some 0, backfeed := some 0 } })
       s.resetAsserted = false ∧ (s.lane .a).power.state = st ∧ s.roster.length = 32 ∧ (s.lane .a).power.timers.overcurrent = some 0 ∧
         (s.lane .a).power.timers.backfeed = some 0 ∧ 0 ≤ s.now) :=
  ⟨fun _ => ⟨rfl, rfl, rfl, rfl⟩, by decide, fun _ => ⟨rfl, rfl, rfl, rfl, rfl, Nat.le_refl 0⟩⟩

theorem witness_RecoveryTimers :
    (let s := onPower (fun p => { p with state := .live, timers := { p.timers with stability := some 0 } })
     s.resetAsserted = false ∧ (s.lane .a).power.timers.stability = some 0 ∧ 0 ≤ s.now) ∧
      (let s := onPower (fun p => { p with state := .discharging, timers := { p.timers with discharge := some 0 } })
       (s.lane .a).power.timers.discharge = some 0 ∧ (s.lane .a).power.state = .discharging) ∧
      (let s := onPower (fun p => { p with state := .fault, timers := { p.timers with cooldown := some 0 } })
       (s.lane .a).power.timers.cooldown = some 0 ∧ (s.lane .a).power.state = .fault ∧ s.overTemp = false ∧ (s.lane .a).power.overSupply = false) ∧
      (let s := onPower (fun p => { p with state := .fault, overSupply := true, timers := { p.timers with cooldown := some 0 } })
       (s.lane .a).power.timers.cooldown = some 0 ∧ (s.lane .a).power.state = .fault ∧ (s.lane .a).power.overSupply = true) ∧
      (State.reset.resetAsserted = false ∧ (Instr.rampTimerExpiry .a, (State.reset.lane .a).power.timers.ramp) = (Instr.rampTimerExpiry .a, none)) ∧
      (let s := onPower (fun p => { p with state := .live, timers := { p.timers with stability := some 1 } })
       ∀ m, (s.lane .a).power.timers.stability = some m → s.now < m) :=
  ⟨by decide, by decide, by decide, by decide, ⟨rfl, rfl⟩, fun _ h => Option.some.inj h ▸ Nat.zero_lt_one⟩

theorem witness_OverTemperature :
    ∀ st : PowerState, (powered st 2).resetAsserted = false ∧ (powered st 2).overTemp = false ∧ ((powered st 2).lane .a).power.state = st :=
  fun _ => ⟨rfl, rfl, rfl⟩

theorem five : (5 : Nat) ≠ 31 := by decide

/-- Lane A's receiver in a state. -/
def laneHearing (r : RxState) (s : State) : State := modLane .a (fun y => { y with rx := r }) s

/-- A census probe in SLOTS. -/
def probing (p : ProbeRecord) : Exchange := { inFlight .census .probe none .slots [] with probe := some p }

theorem witness_ExchangePhases :
    (∀ (k : BusKind) (ph : Phase) (r : RxState), let x := inFlight .supervision k none ph []
      let s := laneHearing r (busy x State.reset)
      s.resetAsserted = false ∧ (s.lane .a).exch = some x ∧ x.phase = ph ∧ x.kind = k ∧ (s.lane .a).rx = r ∧ x.target ≠ 31 ∧
        x.source = .supervision ∧ x.ref = none) ∧
      (let x := { inFlight (.forward 255 7) .data none .send [1] with target := 31 }
       ((busy x State.reset).lane .a).exch = some x ∧ x.phase = .send ∧ x.ref = none ∧ x.kind = .data ∧ x.target = 31 ∧
         ∃ name tag, x.source = .forward name tag) ∧
      (∀ (p : ProbeRecord) (r : RxState), let s := laneHearing r (busy (probing p) State.reset)
       s.resetAsserted = false ∧ (s.lane .a).exch = some (probing p) ∧ (probing p).phase = .slots ∧ (probing p).probe = some p ∧ (s.lane .a).rx = r) ∧
      (ProbeRecord.start.place = .turnaround ∧ { ProbeRecord.start with inFrame := some .turnaround }.inFrame = some .turnaround) ∧
      (let p := { ProbeRecord.start with place := .slot 2 }
       2 < 3 ∧ p.place = .slot 2 ∧ p.slots[2]? = some ⟨none, []⟩) ∧
      (let p := { ProbeRecord.start with place := .slot 3, slots := List.replicate 4 ⟨some 0, []⟩ }
       p.place = .slot 3 ∧ p.slots[3]? = some ⟨some 0, []⟩) ∧
      (let p := { ProbeRecord.start with place := .slot 1, inFrame := some (.slot 0), slots := List.replicate 4 ⟨some 0, [⟨8, none⟩]⟩ }
       p.inFrame = some (.slot 0) ∧ p.slots[0]? = some ⟨some 0, [⟨8, none⟩]⟩ ∧ [(⟨8, none⟩ : SlotFrame)] = [] ++ [⟨8, none⟩]) :=
  ⟨fun _ _ _ => ⟨rfl, rfl, rfl, rfl, rfl, five, rfl, rfl⟩, ⟨rfl, rfl, rfl, rfl, rfl, 255, 7, rfl⟩, fun _ _ => ⟨rfl, rfl, rfl, rfl, rfl⟩, ⟨rfl, rfl⟩, by decide, by decide, by decide⟩

set_option maxRecDepth 4000 in
theorem witness_FailedAttemptIsRepeated :
    (∀ (k : BusKind) (ph : Phase), let x := { inFlight .supervision k none ph [] with attempt := 2 }
      (busy x State.reset).resetAsserted = false ∧ ((busy x State.reset).lane .a).exch = some x ∧ x.attempt ≤ x.profile.retries ∧ x.phase = ph ∧
        x.kind = k ∧ x.target ≠ 31) ∧
      (∀ body, checkContent busMin busMax (List.replicate 48 false) ≠ .valid body) ∧
      (FrameEnd.tail (List.replicate 48 false) = .tail (List.replicate 48 false) ∧ FrameEnd.brk 7 = .brk 7) :=
  have hc : checkContent busMin busMax (List.replicate 48 false) = .corrupt := by decide
  ⟨fun _ _ => ⟨rfl, rfl, Nat.le_refl 2, rfl, rfl, five⟩, fun body h => (by cases hc.symm.trans h), rfl, rfl⟩

/-- A supervision ECHO on its last attempt. -/
def lastEcho (ph : Phase) : Exchange := { inFlight .supervision .echo (some ref31) ph [0, 1] with attempt := 3 }

theorem witness_FailureMovesTheEntry :
    (∀ (st : EntryState) (ph : Phase), let e := { member st (some 9) with fail := 1 }
     let s := busy (lastEcho ph) (holding e (powered .live 0))
     s.resetAsserted = false ∧ (s.lane .a).exch = some (lastEcho ph) ∧ (lastEcho ph).profile.retries < (lastEcho ph).attempt ∧
       (lastEcho ph).ref = some ref31 ∧ (lastEcho ph).phase = ph ∧ s.entry ref31.slot = some e ∧ e.fp = ref31.fp ∧ e.lane = ref31.lane ∧ e.state = st ∧
       1 < (s.lane .a).options.failureLimit ∧ min 7 (e.fail + 1) < (s.lane .a).options.failureLimit ∧ (s.lane .a).options.strictProving = false ∧
       (s.lane .a).options.recallCensus = true ∧ (s.lane .a).power.state = .live ∧ (s.lane .a).census.run = .idle) ∧
      (∀ (st : EntryState) (ph : Phase) (census strict : Bool), let e := { member st (some 9) with fail := 1 }
       let s := setOptions .a ⟨true, census, strict, 0, 1, 250, 0⟩ (busy (lastEcho ph) (holding e (powered .live 0)))
       s.resetAsserted = false ∧ (s.lane .a).exch = some (lastEcho ph) ∧ s.entry ref31.slot = some e ∧ (s.lane .a).options.failureLimit ≤ 1 ∧
         (s.lane .a).options.failureLimit ≤ min 7 (e.fail + 1) ∧ (s.lane .a).options.strictProving = strict ∧
         (s.lane .a).options.recallCensus = census ∧ (s.lane .a).power.state = .live ∧ (s.lane .a).census.run = .idle) :=
  ⟨fun _ _ => ⟨rfl, rfl, Nat.lt_succ_self 2, rfl, rfl, rfl, rfl, rfl, rfl, le_by rfl, le_by rfl, rfl, rfl, rfl, rfl⟩,
    fun _ _ _ _ => ⟨rfl, rfl, rfl, le_by rfl, le_by rfl, rfl, rfl, rfl, rfl⟩⟩

theorem witness_EchoReplyIsTaken :
    (∀ st : EntryState, let e := { member st (some 9) with clean := 1 }
     let s := busy (lastEcho .receive) (holding e (powered .live 0))
     s.resetAsserted = false ∧ (s.lane .a).exch = some (lastEcho .receive) ∧ (lastEcho .receive).payload.length = 2 ∧
       s.entry ref31.slot = some e ∧ e.fp = ref31.fp ∧ e.lane = ref31.lane ∧ e.state = st ∧ min 15 (e.clean + 1) < s.thresholdInUse e) ∧
      (let e := { member .proving (some 9) with clean := 2 }
       let s := busy (lastEcho .receive) (holding e (powered .live 0))
       s.entry ref31.slot = some e ∧ s.thresholdInUse e ≤ min 15 (e.clean + 1)) :=
  ⟨fun st => ⟨rfl, rfl, rfl, rfl, rfl, rfl, rfl, by cases st <;> decide⟩, rfl, by decide⟩

theorem witness_ForwardedReply :
    (∀ ph : Phase, let x := { inFlight (.forward 9 4) .data (some ref31) ph [1, 2] with attempt := 3 }
     (let s := modArm (fun a => { a with linkUp := true }) (busy x (holding (member .live (some 10)) (powered .live 0)))
      s.resetAsserted = false ∧ (s.lane .a).exch = some x ∧ x.phase = ph ∧ x.profile.retries < x.attempt ∧ x.target < 31 ∧ s.arm.linkUp = true ∧
        s.arm.outbound.length < 24 ∧ s.entry ref31.slot = some (member .live (some 10)) ∧ (member .live (some 10)).fp = ref31.fp) ∧
       (let s := modArm (fun a => { a with linkUp := true }) (busy x (powered .live 0))
        (s.lane .a).exch = some x ∧ ∀ e, s.entry ref31.slot = some e → e.fp ≠ ref31.fp ∨ e.lane ≠ ref31.lane)) :=
  fun _ => ⟨⟨rfl, rfl, rfl, Nat.lt_succ_self 2, le_by rfl, rfl, Nat.zero_lt_succ 23, rfl, rfl⟩, rfl, fun e h => by cases h⟩

/-- A run with a due entry of lane A at position 11, for the tests' device. -/
def dueRun : CycleRun := ⟨List.replicate 11 (.done .unused []) ++ [.pending .a], ⟨11, some ⟨11, ref31, 5, [1]⟩⟩, ⟨12, none⟩⟩

theorem witness_Grants :
    (State.reset.resetAsserted = false ∧ (State.reset.lane .a).power.state ≠ .live) ∧
      (∀ o : Option CensusOffer, let s := modCensus .a (fun c => { c with run := .running, offer := o }) (powered .live 0)
       (s.lane .a).power.state = .live ∧ (s.lane .a).exch = none ∧ (s.lane .a).census.run = .running ∧ (s.lane .a).census.offer = o) ∧
      (let s := modSeq (fun q => { q with run := some dueRun }) (holding (member .suspect (some 9)) (powered .live 0))
       (s.lane .a).power.state = .live ∧ (s.lane .a).exch = none ∧ (s.lane .a).census.run = .idle ∧ s.due .a = some ⟨11, ref31, 5, [1]⟩ ∧
         s.entry ref31.slot = some (member .suspect (some 9))) ∧
      (let s := modLane .a (fun x => { x with forward := [.entry 31 print1 9 4 [1]] }) (holding (member .live (some 9)) (powered .live 0))
       (s.lane .a).power.state = .live ∧ (s.lane .a).exch = none ∧ (s.lane .a).census.run = .idle ∧ s.due .a = none ∧
         (s.lane .a).forward = [.entry 31 (member .live (some 9)).fp 9 4 [1]] ∧ s.entry 31 = some (member .live (some 9)) ∧
         (s.lane .a).lastTurn = .supervision) ∧
      (let s := modLane .a (fun x => { x with forward := [.broadcast 4 [1]], unaddress := [30], lastTurn := .forward }) (powered .live 0)
       (s.lane .a).power.state = .live ∧ (s.lane .a).exch = none ∧ s.due .a = none ∧ (s.lane .a).unaddress = [30] ∧
         (s.lane .a).lastTurn = .forward ∧ ({ s.lane .a with lastTurn := .supervision } : LaneState).lastTurn = .supervision) ∧
      (let e := { member .lost (some 9) with echo := true }
       let s := holding e (powered .live 0)
       (s.lane .a).forward = [] ∧ (s.lane .a).unaddress = [] ∧ 31 < 32 ∧ 31 = ((s.lane .a).lastServed + 1 + 31) % 32 ∧ s.entry 31 = some e ∧
         ∀ j f, j < 31 → s.entry (((s.lane .a).lastServed + 1 + j) % 32) = some f → f.lane = .a → f.echo = false) := by
  refine ⟨by decide, fun _ => ⟨rfl, rfl, rfl, rfl⟩, by decide, by decide, by decide, rfl, rfl, by decide, rfl, rfl, fun j f hj h _ => ?_⟩
  have hl : (((holding { member .lost (some 9) with echo := true } (powered .live 0)).lane .a).lastServed + 1 + j) % 32 = j := by
    show (31 + 1 + j) % 32 = j
    omega
  rw [hl] at h
  exact absurd (holding_one rfl _ j f h).1 (by omega)

theorem witness_GrantsRefused :
    (∀ st : EntryState, let s := modLane .a (fun x => { x with forward := [.entry 31 print1 9 4 [1]] }) (asking (holding (member st (some 9))
       (powered .live 0)) [])
     s.resetAsserted = false ∧ (s.lane .a).power.state = .live ∧ (s.lane .a).exch = none ∧ (s.lane .a).census.run = .idle ∧ s.due .a = none ∧
       (s.lane .a).unaddress = [] ∧ s.arm.linkUp = true ∧ s.arm.outbound.length < 24 ∧ s.entry 31 = some (member st (some 9)) ∧
       ∀ slot e, s.entry slot = some e → e.lane = .a → e.echo = false) ∧
      (let s := modLane .a (fun x => { x with forward := [.entry 31 print1 9 4 [1]] }) (asking (powered .live 0) [])
       (s.lane .a).forward = [.entry 31 print1 9 4 [1]] ∧ ∀ e, s.entry 31 ≠ some e) := by
  refine ⟨fun st => ⟨rfl, rfl, rfl, rfl, rfl, rfl, rfl, Nat.zero_lt_succ 23, rfl, fun slot e h _ => ?_⟩, rfl, fun e h => by cases h⟩
  obtain ⟨-, rfl⟩ := holding_one (s := powered .live 0) rfl _ slot e h
  rfl

/-- A probe in hand of lane A's running census at the end of its last slot. -/
def atSlotsEnd (run : RunState) (confirming : Nat) (work : List Prefix) (h : ProbeInHand) (p : ProbeRecord) (s : State) : State :=
  busy (probing p) (modCensus .a (fun c => { c with run := run, confirming := confirming, work := work, hand := some h }) s)

/-- Four slots, silent or with a 0 alone; and the tests' device as the one answer, in slot 2 of a root probe. -/
def silent : ProbeRecord := { ProbeRecord.start with place := .slot 3 }
def noisy : ProbeRecord := { silent with slots := List.replicate 4 ⟨some 0, []⟩ }
def answered : ProbeRecord := { silent with slots :=
  [⟨none, []⟩, ⟨none, []⟩, ⟨some 4, [⟨12, some (.tail (stuffedContent (0 :: 0x90 :: fpOctets print1)))⟩]⟩, ⟨none, []⟩] }

theorem silent_slot (q : Prefix) (k : Nat) : classifySlot q 4 k ⟨none, []⟩ = .empty := rfl

theorem noisy_slot (q : Prefix) (k : Nat) : classifySlot q 4 k ⟨some 0, []⟩ = .collided := rfl

set_option maxRecDepth 8000 in
theorem answered_slot : classifySlot .root 4 2 ⟨some 4, [⟨12, some (.tail (stuffedContent (0 :: 0x90 :: fpOctets print1)))⟩]⟩ = .single print1 := by
  decide

/-- Each clause: a run, a probe in hand and four slots, whose classes the three lemmas above give. -/
theorem witness_CensusWalk :
    (∀ (run : RunState) (n : Nat) (work : List Prefix) (h : ProbeInHand), ∀ p ∈ [silent, noisy, answered], ∀ e : Entry,
      ∀ s ∈ [powered .live 0, holding e (powered .live 0)],
      let t := atSlotsEnd run n work h p s
      t.resetAsserted = false ∧ (t.lane .a).exch = some (probing p) ∧ (probing p).phase = .slots ∧ (probing p).kind = .probe ∧
        (probing p).source = .census ∧ (probing p).ref = none ∧ (probing p).probe = some p ∧ p.place = .slot 3 ∧ (t.lane .a).census.run = run ∧
        (t.lane .a).census.hand = some h ∧ (t.lane .a).census.confirming = n ∧ (t.lane .a).census.work = work ∧ (t.lane .a).complete = false) ∧
      ((23 ≤ 23 ∧ 3 ≤ 3) ∧ ¬ (23 ≤ 0 ∧ 3 ≤ 1)) ∧ (Prefix.root.depth = 0 ∧ 0 < 1 ∧ 3 ≤ 3 ∧ 2 < 3) ∧ (0 < 22 ∧ 22 < 23) ∧
      (12 + [0, 1, 2, 3].length ≤ 16 ∧ 16 < 13 + [0, 1, 2, 3].length) ∧
      ((powered .live 0).roster.length = 32 ∧ (∀ slot, (powered .live 0).entry slot = none) ∧ (powered .live 0).freeAddress .a = some 1) ∧
      (let e := member .held none
       (holding e (powered .live 0)).entry 31 = some e ∧ e.fp = print1 ∧ e.lane = .a ∧
         ∀ j y, (holding e (powered .live 0)).entry j = some y → y.fp = print1 → j = 31) ∧
      (∀ st : EntryState, let e := { member st (some 9) with lane := .b }
       (holding e (powered .live 0)).entry 31 = some e ∧ e.fp = print1 ∧ e.lane ≠ .a ∧ e.state = st ∧
         ((holding e (powered .live 0)).lane (otherLane .a)).census.find = none) := by
  refine ⟨fun run n work h p hp e s hs => ?_, by decide, by decide, by decide, by decide, ⟨rfl, reset_entry, rfl⟩,
    ⟨rfl, rfl, rfl, fun j y h _ => (holding_one rfl _ j y h).1⟩, fun _ => ⟨rfl, rfl, by simp, rfl, rfl⟩⟩
  have hplace : p.place = .slot 3 := by
    rcases List.mem_cons.mp hp with rfl | hp
    · rfl
    · rcases List.mem_cons.mp hp with rfl | hp
      · rfl
      · rcases List.mem_singleton.mp hp with rfl
        rfl
  rcases List.mem_cons.mp hs with rfl | hs
  · exact ⟨rfl, rfl, rfl, rfl, rfl, rfl, rfl, hplace, rfl, rfl, rfl, rfl, rfl⟩
  · rcases List.mem_singleton.mp hs with rfl
    exact ⟨rfl, rfl, rfl, rfl, rfl, rfl, rfl, hplace, rfl, rfl, rfl, rfl, rfl⟩

/-- Every address of lane A taken by a device of its own, slot 30 free, and the tests' device LOST on lane B in slot 31. -/
def crowd : List (Option Entry) :=
  (List.range' 1 30).map (fun a => some (Entry.assigned .a a (BitVec.ofNat 48 a))) ++ [none, some { member .lost (some 9) with lane := .b }]

def crowded : State := { powered .live 0 with roster := crowd }

theorem crowded_entry (i : Nat) (h : i < 30) : crowded.entry i = some (.assigned .a (i + 1) (BitVec.ofNat 48 (i + 1))) := by
  simp [State.entry, crowded, crowd, List.getElem?_append, h, Nat.add_comm]

theorem witness_CensusWalkFull :
    (∀ a, ¬ (1 ≤ a ∧ a ≤ 30 ∧ ∀ j e, crowded.entry j = some e → e.lane = .a → e.address ≠ a)) ∧
      crowded.entry 31 = some { member .lost (some 9) with lane := .b } ∧
      (let s := { powered .live 0 with roster := List.replicate 32 (some (Entry.assigned .b 1 0)) }
       (∀ j, j < 32 → s.entry j ≠ none) ∧ ∀ j e, s.entry j = some e → e.fp ≠ print1) ∧
      (let s := modCensus .b (fun c => { c with find := some ⟨print1, .rejoin, none⟩ }) crowded
       ∃ g, (s.lane (otherLane .a)).census.find = some g ∧ g.fp = print1 ∧ g.kind = .rejoin) := by
  have hr (j : Nat) : State.entry { powered .live 0 with roster := List.replicate 32 (some (Entry.assigned .b 1 0)) } j =
      if j < 32 then some (Entry.assigned .b 1 0) else none := by
    rw [State.entry, List.getD_eq_getElem?_getD, List.getElem?_replicate]
    split <;> rfl
  refine ⟨fun a ⟨h1, h2, h⟩ => ?_, rfl, ⟨fun j hj h => ?_, fun j e h => ?_⟩, _, rfl, rfl, rfl⟩
  · exact h (a - 1) _ (crowded_entry (a - 1) (by omega)) rfl (Nat.sub_add_cancel h1)
  · rw [hr, if_pos hj] at h
    cases h
  · rw [hr] at h
    split at h
    · cases h
      decide
    · cases h

/-- A census exchange of lane A on its last attempt, with the tests' device in hand, a probe in hand and taken-over items. -/
def assigning (run : RunState) (kind : BusKind) (ph : Phase) (g : Find) (e : Entry) (hand : Option ProbeInHand) (taken : List Nat) : State :=
  busy { inFlight .census kind none ph (fpOctets print1 ++ [5]) with attempt := 3 }
    (modCensus .a (fun c => { c with run := run, work := [⟨1, 0⟩], hand := hand, find := some g, taken := taken })
      (holding e (powered .live 0)))

set_option maxRecDepth 4000 in
/-- Every clause, whatever probe is in hand (its finds, its open slots, or none yet) and whatever items are taken over; the last part is the reply that fails
its checks. -/
theorem witness_AssignOutcomes :
    (∀ (run : RunState) (kind : BusKind) (ph : Phase) (find : FindKind) (cr : Option Carried) (st : EntryState) (hand : Option ProbeInHand)
      (taken : List Nat), run ≠ .idle →
      let e := member st none
      let g : Find := ⟨print1, find, cr⟩
      let x := { inFlight .census kind none ph (fpOctets print1 ++ [5]) with attempt := 3 }
      let s := assigning run kind ph g e hand taken
      s.resetAsserted = false ∧ (s.lane .a).exch = some x ∧ x.source = .census ∧ x.ref = none ∧ x.kind = kind ∧ x.phase = ph ∧
        x.profile.retries < x.attempt ∧ (s.lane .a).census.run = run ∧ (s.lane .a).census.run ≠ .idle ∧ (s.lane .a).complete = false ∧
        s.roster.length = 32 ∧ (s.lane .a).census.find = some g ∧ s.entry 31 = some e ∧ e.fp = g.fp ∧ e.lane = .a ∧ e.state = st ∧
        g.kind = find ∧ g.carried = cr ∧ (∀ j y, s.entry j = some y → y.fp = g.fp → j = 31) ∧
        (s.lane .a).census.hand = hand ∧ (s.lane .a).census.taken = taken ∧ s.notices.masks.kinds.getLsbD 2 = true) ∧
      (∀ bits body, FrameEnd.tail (List.replicate 48 false) = .tail bits → checkContent busMin busMax bits ≠ .valid body) :=
  have hc : checkContent busMin busMax (List.replicate 48 false) = .corrupt := by decide
  ⟨fun _ _ _ _ _ _ _ _ hr => ⟨rfl, rfl, rfl, rfl, rfl, rfl, Nat.lt_succ_self 2, rfl, hr, rfl, rfl, rfl, rfl, rfl, rfl, rfl, rfl, rfl,
    fun j y h _ => (holding_one (s := powered .live 0) rfl _ j y h).1, rfl, rfl, (by decide : (0xFF : Octet).getLsbD 2 = true)⟩,
    fun bits body hb h => by rw [← FrameEnd.tail.inj hb, hc] at h; cases h⟩

theorem witness_SlotClasses :
    4 ≤ 4 ∧ Prefix.root.covers print1 = true ∧ slotOf Prefix.root.depth print1 = 2 := by decide

theorem witness_EntryTimers :
    (∀ (st : EntryState) (given : Bool), let e := { member st (some 9) with silenceFrom := some 0, recallFrom := some 0, checked := given }
     let s := holding e { State.reset with now := 250 }
     s.resetAsserted = false ∧ s.entry 31 = some e ∧ e.state = st ∧ e.checked = given ∧ (s.lane .a).options.silenceInterval = 250 ∧ 250 ≠ 0 ∧ 0 + 250 ≤ s.now) ∧
      (let e := { member .live (some 9) with silenceFrom := some 1 }
       let s := setOptions .a ⟨true, true, false, 3, 3, 0, 0⟩ (holding e State.reset)
       s.entry 31 = some e ∧ (s.lane .a).options.silenceInterval = 0) :=
  ⟨fun _ _ => ⟨rfl, rfl, rfl, rfl, rfl, by decide, le_by rfl⟩, rfl, rfl⟩

theorem witness_EntryAndPeriodTimers :
    (∀ st : SeqState, let s := modSeq (fun q => { q with state := st, source := .period, timer := some 0, missed := 255 }) (asking State.reset [])
      s.resetAsserted = false ∧ s.seq.timer = some 0 ∧ 0 ≤ s.now ∧ s.seq.state = st ∧ (∀ i, s.seq.entry i = none) ∧ s.seq.stopPending = false ∧
        s.arm.linkUp = true ∧ s.arm.outbound.length < 24) ∧
      (State.reset.resetAsserted = false ∧ ∀ m, State.reset.seq.timer = some m → State.reset.now < m) :=
  ⟨fun _ => ⟨rfl, rfl, Nat.le_refl 0, rfl, no_cycle_entry rfl, rfl, rfl, Nat.zero_lt_succ 23⟩, rfl, fun _ h => by cases h⟩

/-- A list with the tests' device at position 11 alone, with a store of its own. -/
def listed (s : State) : State := setCycleEntry 11 (some ⟨9, [1], some ⟨[2], print1⟩⟩) s

theorem witness_CycleCourse :
    (let s := modSeq (fun q => { q with state := .armed, timer := some 0 }) (asking (listed (holding (member .live (some 9)) (powered .live 0))) [])
     s.resetAsserted = false ∧ s.arm.outbound.length < 24 ∧ s.seq.state = .armed ∧ s.seq.timer = some 0 ∧ 0 ≤ s.now ∧ s.arm.linkUp = true ∧
       s.seq.source = .frame ∧ (setArmRx .frame s).arm.rx = .frame) ∧
      (let e := { member .lost (some 9) with echo := false }
       let s := modSeq (fun q => { q with state := .running, run := some dueRun }) (asking (listed (holding e (powered .live 0))) [])
       s.arm.linkUp = true ∧ s.seq.run = some dueRun ∧ (dueRun.cursor .a).due = some ⟨11, ref31, 5, [1]⟩ ∧ 11 < 12 ∧
         dueRun.positions[11]? = some (.pending .a) ∧ (∀ j, 11 < j → dueRun.positions[j]? ≠ some (.pending .a)) ∧ (s.lane .a).power.state = .live ∧
         (s.lane .a).exch = none ∧ (s.lane .a).census.run = .idle ∧ (s.lane .a).forward = [] ∧ (s.lane .a).unaddress = [] ∧
         (∀ slot y, s.entry slot = some y → y.lane = .a → y.echo = false) ∧ s.entry ref31.slot = some e ∧ e.state ≠ .live ∧ e.state ≠ .suspect) ∧
      (∀ ph : Phase, let x := { inFlight (.cycle 11) .data (some ref31) ph [1] with attempt := 3 }
       let s := setOptions .a ⟨true, false, false, 3, 3, 250, 0⟩ (busy x (modSeq (fun q => { q with state := .running, run := some dueRun })
         (asking (listed (holding (member .live (some 9)) (powered .live 0))) [])))
       s.arm.linkUp = true ∧ (s.lane .a).exch = some x ∧ x.source = .cycle 11 ∧ x.ref = some ref31 ∧ x.target < 31 ∧ x.phase = ph ∧
         x.profile.retries < x.attempt ∧ s.seq.run = some dueRun ∧ (s.lane ref31.lane).options.recallCensus = false ∧
         s.entry ref31.slot = some (member .live (some 9)) ∧ (member .live (some 9)).fp = ref31.fp ∧ (member .live (some 9)).lane = ref31.lane) ∧
      (∀ e, (powered .live 0).entry ref31.slot = some e → e.fp ≠ ref31.fp ∨ e.lane ≠ ref31.lane) := by
  refine ⟨⟨rfl, by decide, rfl, rfl, Nat.le_refl 0, rfl, rfl, rfl⟩, ⟨rfl, rfl, rfl, by decide, rfl, fun j hj h => ?_, rfl, rfl, rfl, rfl, rfl,
    fun slot y h _ => ?_, rfl, by decide, by decide⟩, fun _ => ⟨rfl, rfl, rfl, rfl, le_by rfl, rfl, Nat.lt_succ_self 2, rfl, rfl, rfl, rfl, rfl⟩,
    fun _ h => by cases h⟩
  · rw [List.getElem?_eq_none (by exact hj)] at h
    cases h
  · obtain ⟨-, rfl⟩ := holding_one (s := powered .live 0) rfl _ slot y h
    rfl

theorem witness_CommandsLeaveOtherBlocksAlone : ∃ t : State, exec .identify State.reset = .next t ∧ resets .identify = false ∧
    actsOnPower .identify = false ∧ actsOnReceiver .identify = false ∧ actsOnBus .identify = false ∧ actsOnWork .identify = false ∧
    actsOnCensus .identify = false ∧ actsOnRoster .identify = false ∧ actsOnCycle .identify = false ∧ endsExchange .identify = false ∧
    requestRow .transmitTailBit = none ∧ actsOnWork .transmitTailBit = false :=
  ⟨_, rfl, rfl, rfl, rfl, rfl, rfl, rfl, rfl, rfl, rfl, rfl, rfl⟩

/-- A LIVE lane with one device, and a command in the queue. -/
def running : State := { holding (member .live (some 9)) (powered .live 0) with pending := [.exchangeGrant .a] }

theorem running_entry (i : Nat) (e : Entry) (h : running.entry i = some e) : i = 31 ∧ e = member .live (some 9) :=
  holding_one rfl (member .live (some 9)) i e h

theorem witness_StepKeepsPowerSound : ∃ s t : State, s.powerSound ∧ step s = .next t := by
  refine ⟨running, _, fun l => ?_, rfl⟩
  cases l
  · exact ⟨⟨by decide, by decide⟩, ⟨by decide, by decide, by decide⟩,
      ⟨by decide, by decide, by decide, by decide, by decide, by decide, by decide, by decide⟩⟩
  · exact ⟨⟨by decide, by decide⟩, ⟨by decide, by decide, by decide⟩,
      ⟨by decide, by decide, by decide, by decide, by decide, by decide, by decide, by decide⟩⟩

theorem witness_StepKeepsBounds : ∃ s t : State, step s = .next t ∧ s.countersSound ∧ s.queuesSound ∧ s.rangeSound ∧ ∀ l, s.workSound l := by
  refine ⟨running, _, rfl, ⟨by unfold LinkCounters.sound; decide, fun l => ?_⟩, ⟨by decide, by decide, fun l => ?_, by decide⟩,
    ⟨by decide, by decide, by decide, by decide⟩, fun l => ?_⟩
  · cases l <;> (unfold LaneCounters.sound; decide)
  · cases l <;> decide
  · cases l <;> exact ⟨by decide, by decide⟩

theorem witness_StepKeepsDevicesOnLiveLanes : ∃ s t : State, s.tablesSound ∧ s.rosterLive ∧ (∀ l, s.busLive l) ∧ step s = .next t := by
  refine ⟨running, _, ⟨rfl, rfl, rfl, rfl⟩, fun i e h => ?_, fun l => ?_, rfl⟩
  · obtain ⟨-, rfl⟩ := running_entry i e h
    decide
  · cases l <;> (intro h; revert h; decide)

theorem witness_StepKeepsNamesDistinct : ∃ s t : State, s.NamesDistinct ∧ step s = .next t := by
  refine ⟨running, _, ⟨fun i j e f n he hf _ _ => ?_, fun i e l n _ hl => ?_, fun n h => ?_⟩, rfl⟩
  · exact (running_entry i e he).1.trans (running_entry j f hf).1.symm
  · cases l <;> cases hl
  · cases h

theorem witness_StepKeepsDevicesDistinct : ∃ s t : State, s.DevicesDistinct ∧ step s = .next t := by
  refine ⟨running, _, ⟨fun i j e f he hf _ => ?_, fun i j e f he hf _ _ => ?_, fun i e he => ?_⟩, rfl⟩
  · exact (running_entry i e he).1.trans (running_entry j f hf).1.symm
  · exact (running_entry i e he).1.trans (running_entry j f hf).1.symm
  · obtain ⟨-, rfl⟩ := running_entry i e he
    decide

end Sys2Proof.Tests
end

section
/-! Proofs about the arm link: a frame sent with its CRC passes the end checks, what a valid frame leaves before its dispatch, and what each
dispatch comes to (R2, R6, R11 to R15, R17, R158 to R160, R165). -/

namespace Sys2Proof.Machine

/-! ## Framing -/

/-- Removal undoes insertion at every run count that the sender reaches (R2). -/
theorem removeFrom_insertFrom {run : Nat} (hrun : run ≤ 5) (bits : List Bool) : removeFrom run (insertFrom run bits) = bits := by
  induction bits generalizing run with
  | nil => rfl
  | cons b bits ih =>
    cases b with
    | false => simp [insertFrom, removeFrom, show run ≠ 6 by omega, ih (run := 0)]
    | true =>
      by_cases h5 : run = 5
      · simp [insertFrom, removeFrom, h5, ih (run := 0)]
      · simp [insertFrom, removeFrom, h5, ih (run := run + 1) (by omega)]

@[simp] theorem removeBits_insertBits (bits : List Bool) : removeBits (insertBits bits) = bits :=
  removeFrom_insertFrom (Nat.zero_le 5) bits

/-- A content framed with its CRC is valid at the end checks of a line whose limits it keeps (R6). -/
theorem checkContent_stuffedContent {minOctets maxOctets : Nat} {body : List Octet} (hmin : minOctets ≤ body.length + 2)
    (hmax : body.length + 2 ≤ maxOctets) : checkContent minOctets maxOctets (stuffedContent body) = .valid body := by
  have hlen : (body ++ crcOctets body).length = body.length + 2 := by simp [crcOctets]
  simp [checkContent, stuffedContent, hlen, show ¬ maxOctets < body.length + 2 by omega, show ¬ body.length + 2 < minOctets by omega]

/-! ## A valid frame before its dispatch -/

/-- The arm link once a valid frame has ended: the receiver hunts, the frame is counted, the link is UP and its timer restarted (R4, R11, R17). -/
def ArmLink.heard (now : Nat) (a : ArmLink) : ArmLink :=
  { a with
    rx := .hunt, linkUp := true, linkTimer := some (now + linkMs), counters := { a.counters with framesGood := addSat a.counters.framesGood } }

/-- The part once a valid frame has ended, before the frame's dispatch. -/
def State.heard (s : State) : State := { s with arm := s.arm.heard s.now }

/-- A frame within the payload limit is heard and then dispatched by its destination name and kind (R11, R12). -/
theorem exec_armFrameReceived_valid {s : State} {dest src kind tag : Octet} {payload : List Octet} (hrun : s.resetAsserted = false)
    (hrx : s.arm.rx = .frame) (hlen : payload.length ≤ 64) :
    exec (.armFrameReceived (stuffedContent (dest :: src :: kind :: tag :: payload))) s =
      .next (dispatchFrame dest.toNat (armKindOf kind) tag payload s.heard) := by
  have hvalid : checkContent armMin armMax (stuffedContent (dest :: src :: kind :: tag :: payload)) =
      .valid (dest :: src :: kind :: tag :: payload) :=
    checkContent_stuffedContent (by simp [armMin]) (by simp [armMax]; omega)
  simp only [exec, execArmFrameReceived, whenRunning, hrun, hrx, hvalid, receiveFrame, validFrame]
  rfl

/-! ## Dispatch by kind -/

@[simp] theorem armKindOf_request : armKindOf 0x01#8 = some .request := rfl
@[simp] theorem armKindOf_cycle : armKindOf 0x03#8 = some .cycle := rfl

/-- An octet that names a frame kind is that kind's code. -/
theorem octet_code_of_armKindOf {o : Octet} {k : ArmKind} (h : armKindOf o = some k) : octet k.code = o := by
  simpa using List.find?_some h

/-- A destination name other than 0 is not 0 as a number. -/
theorem toNat_ne_zero_of_ne_zero {dest : Octet} (h : dest ≠ 0) : dest.toNat ≠ 0 := fun h0 => h (BitVec.eq_of_toNat_eq h0)

/-- A REQUEST or CYCLE frame to a name other than 0 is refused from that name (R13). -/
theorem dispatchFrame_badKind {dest kind : Octet} (hdest : dest ≠ 0) (hkind : kind = 0x01 ∨ kind = 0x03) (tag : Octet)
    (payload : List Octet) (s : State) :
    dispatchFrame dest.toNat (armKindOf kind) tag payload s = offer ⟨dest, .refusal, tag, [8]⟩ s := by
  have hframe : refusal dest.toNat tag .badKind = ⟨dest, .refusal, tag, [8]⟩ := by simp [refusal, Reason.code]
  obtain rfl | rfl := hkind
  · simp [dispatchFrame, toNat_ne_zero_of_ne_zero hdest, hframe]
  · simp [dispatchFrame, toNat_ne_zero_of_ne_zero hdest, hframe]

/-- DATA to name 0, a kind that the part sends and a code that is no kind are misdirected (R12). -/
theorem dispatchFrame_misdirected {dest kind : Octet} (h : (kind = 0x02 ∧ dest = 0) ∨ (kind ≠ 0x01 ∧ kind ≠ 0x02 ∧ kind ≠ 0x03))
    (tag : Octet) (payload : List Octet) (s : State) :
    dispatchFrame dest.toNat (armKindOf kind) tag payload s = countMisdirected s := by
  obtain ⟨rfl, rfl⟩ | ⟨hrequest, hdata, hcycle⟩ := h
  · rfl
  · cases hk : armKindOf kind with
    | none => rfl
    | some k =>
      have hcode := octet_code_of_armKindOf hk
      cases k with
      | request => exact absurd hcode.symm hrequest
      | data => exact absurd hcode.symm hdata
      | cycle => exact absurd hcode.symm hcycle
      | response | reply | refusal | report => rfl

/-! ## The outbound queue and the request queue -/

theorem offer_of_room {f : ArmFrame} {s : State} (hup : s.arm.linkUp = true) (hroom : s.arm.outbound.length < 24) :
    offer f s = { s with arm := { s.arm with outbound := s.arm.outbound ++ [f] } } := by
  simp [offer, hup, hroom, outboundCapacity, modArm]

theorem offer_of_full {f : ArmFrame} {s : State} (hfull : 24 ≤ s.arm.outbound.length) : offer f s = countOutboundDrop s := by
  simp [offer, outboundCapacity, Nat.not_lt.mpr hfull]

/-- An offered frame leaves the link state, its timer and the request queue alone, whether it is placed or dropped. -/
theorem offer_keepsLink (f : ArmFrame) (s : State) :
    (offer f s).arm.linkUp = s.arm.linkUp ∧ (offer f s).arm.linkTimer = s.arm.linkTimer ∧ (offer f s).arm.requests = s.arm.requests := by
  obtain ⟨-, -, h⟩ | ⟨-, h⟩ := offer_cases f s
  · rw [h]
    exact ⟨rfl, rfl, rfl⟩
  · rw [h]
    exact ⟨rfl, rfl, rfl⟩

theorem queueRequest_of_room {tag : Octet} {payload : List Octet} {s : State} (hroom : s.arm.requests.length < 4) :
    queueRequest tag payload s = { s with arm := { s.arm with requests := s.arm.requests ++ [⟨tag, payload⟩] } } := if_pos hroom

theorem queueRequest_of_full {tag : Octet} {payload : List Octet} {s : State} (hfull : 4 ≤ s.arm.requests.length) :
    queueRequest tag payload s = countInboundOverflow s := if_neg (Nat.not_lt.mpr hfull)

/-! ## What the walk of a cursor changes -/

/-- The cycle list and the cycle in progress may differ; all else is as before. -/
def OnlyCycleMoves (s t : State) : Prop := ∃ list run, t = { s with seq := { s.seq with list := list, run := run } }

theorem OnlyCycleMoves.trans {s t u : State} (h : OnlyCycleMoves s t) (k : OnlyCycleMoves t u) : OnlyCycleMoves s u := by
  obtain ⟨_, _, rfl⟩ := h
  obtain ⟨list, run, rfl⟩ := k
  exact ⟨list, run, rfl⟩

theorem settle_onlyCycleMoves (i : Nat) (o : CycleOutcome) (data : List Octet) (s : State) : OnlyCycleMoves s (settle i o data s) :=
  ⟨_, _, rfl⟩

theorem setCursor_onlyCycleMoves (l : Lane) (c : Cursor) (s : State) : OnlyCycleMoves s (setCursor l c s) := ⟨_, _, rfl⟩

theorem storeTest_onlyCycleMoves (i : Nat) (fp : Fingerprint) (s : State) : OnlyCycleMoves s (storeTest i fp s) := by
  unfold storeTest
  split
  · split
    · exact settle_onlyCycleMoves ..
    · exact ⟨_, _, rfl⟩
  · exact settle_onlyCycleMoves ..

theorem walkFrom_onlyCycleMoves (l : Lane) (is : List Nat) (s : State) : OnlyCycleMoves s (walkFrom l is s) := by
  induction is generalizing s with
  | nil => exact setCursor_onlyCycleMoves ..
  | cons i rest ih =>
    unfold walkFrom
    split
    · split
      · exact (settle_onlyCycleMoves ..).trans (ih _)
      · split
        · exact (settle_onlyCycleMoves ..).trans (ih _)
        · split
          · exact setCursor_onlyCycleMoves ..
          · exact (storeTest_onlyCycleMoves ..).trans (ih _)
    · exact ih s

/-- All that the end test of a cycle can do (R165): nothing, or the REPORT is offered from the ended sequencer. -/
theorem finishCycle_cases (s : State) :
    finishCycle s = s ∨ ∃ r, s.seq.run = some r ∧ finishCycle s = offer (reportOf s.seq r) (modSeq Sequencer.ended s) := by
  unfold finishCycle
  split
  · next r hr =>
    split
    · exact .inr ⟨r, hr, rfl⟩
    · exact .inl rfl
  · exact .inl rfl

/-! ## The start of a cycle -/

/-- What the end test of a cycle leaves of the link and of the cycle number, whether or not the cycle ends. -/
theorem finishCycle_frame (s : State) :
    (finishCycle s).seq.cycleNumber = s.seq.cycleNumber ∧ (finishCycle s).arm.linkUp = s.arm.linkUp ∧
      (finishCycle s).arm.linkTimer = s.arm.linkTimer ∧ (finishCycle s).arm.requests = s.arm.requests := by
  obtain h | ⟨r, -, h⟩ := finishCycle_cases s
  · rw [h]
    exact ⟨rfl, rfl, rfl, rfl⟩
  · rw [h]
    exact ⟨by rw [offer_frame]; rfl, offer_keepsLink ..⟩

/-- A start raises the cycle number by one and keeps the link, its timer and the request queue (R160). -/
theorem startCycle_frame (s : State) :
    (startCycle s).seq.cycleNumber = s.seq.cycleNumber + 1 ∧ (startCycle s).arm.linkUp = s.arm.linkUp ∧
      (startCycle s).arm.linkTimer = s.arm.linkTimer ∧ (startCycle s).arm.requests = s.arm.requests := by
  unfold startCycle
  extract_lets run s1
  obtain ⟨list, cycle, hwalk⟩ := (walkFrom_onlyCycleMoves .a (List.range cyclePositions) s1).trans
    (walkFrom_onlyCycleMoves .b (List.range cyclePositions) _)
  rw [hwalk]
  exact finishCycle_frame _

/-! ## A cycle whose positions all have their outcome -/

theorem setCursor_run {s : State} {r : CycleRun} (hr : s.seq.run = some r) (l : Lane) (c : Cursor) :
    (setCursor l c s).seq.run = some (r.setCursor l c) := by
  simp [setCursor, modRun, hr]

theorem openOn_of_done {s : State} {r : CycleRun} (hr : s.seq.run = some r) (hdone : ∀ p ∈ r.positions, p.isDone = true) (l : Lane)
    (i : Nat) : s.openOn l i = false := by
  simp only [State.openOn, hr, beq_eq_false_iff_ne]
  intro hp
  exact absurd (hdone _ (List.mem_of_getElem? hp)) (by simp [Position.isDone])

/-- With no position open the cursor walks to its end and nothing else happens (R161). -/
theorem walkFrom_of_done {s : State} {r : CycleRun} (hr : s.seq.run = some r) (hdone : ∀ p ∈ r.positions, p.isDone = true) (l : Lane)
    (is : List Nat) : walkFrom l is s = setCursor l ⟨cyclePositions, none⟩ s := by
  induction is with
  | nil => rfl
  | cons i rest ih => simp [walkFrom, openOn_of_done hr hdone, ih]

theorem finishCycle_of_done {s : State} {r : CycleRun} (hr : s.seq.run = some r) (hdone : ∀ p ∈ r.positions, p.isDone = true) :
    finishCycle s = offer (reportOf s.seq r) (modSeq Sequencer.ended s) := by
  simp only [finishCycle, hr]
  exact if_pos (List.all_eq_true.mpr hdone)

/-- With no position open both walks reach their end and the cycle ends (R161, R165). -/
theorem finishCycle_walks_of_done {s : State} {r : CycleRun} (hr : s.seq.run = some r) (hdone : ∀ p ∈ r.positions, p.isDone = true)
    (is : List Nat) : finishCycle (walkFrom .b is (walkFrom .a is s)) = offer (reportOf s.seq r) (modSeq Sequencer.ended s) := by
  have ha := setCursor_run hr .a ⟨cyclePositions, none⟩
  have hb := setCursor_run ha .b ⟨cyclePositions, none⟩
  rw [walkFrom_of_done hr hdone, walkFrom_of_done ha hdone, finishCycle_of_done hb hdone]
  rfl

/-- With no list entry in use every position is UNUSED at the start (R160). -/
theorem startPosition_of_no_entry {s : State} (hlist : ∀ i, s.seq.entry i = none) (i : Nat) : s.startPosition i = .done .unused [] := by
  simp [State.startPosition, hlist i]

/-- The REPORT of a cycle with no list entry in use (R165, section 12.2): its number, the missed count, twelve UNUSED positions. -/
def unusedReport (number : BitVec 16) (missed : Nat) : ArmFrame :=
  ⟨0, .report, 0, [octet (number.toNat / 256), octet number.toNat, octet missed] ++ List.replicate 60 0⟩

theorem reportOf_unused {q : Sequencer} {r : CycleRun} (hr : r.positions = List.replicate 12 (.done .unused [])) :
    reportOf q r = unusedReport q.cycleNumber q.missed := by
  simp only [reportOf, hr]
  rfl

/-- With no list entry in use the cycle ends at its start, with its REPORT (R160, R165). -/
theorem startCycle_of_no_entry {s : State} (hlist : ∀ i, s.seq.entry i = none) :
    startCycle s = offer (unusedReport (s.seq.cycleNumber + 1) s.seq.missed)
      (modSeq (fun q => Sequencer.ended { q with cycleNumber := q.cycleNumber + 1 }) s) := by
  have hpositions : (List.range cyclePositions).map s.startPosition = List.replicate 12 (.done .unused []) := by
    rw [funext (startPosition_of_no_entry hlist), List.map_const', List.length_range]
    rfl
  have hdone : ∀ p ∈ List.replicate 12 (Position.done .unused []), p.isDone = true := by
    intro p hp
    rw [List.eq_of_mem_replicate hp]
    rfl
  unfold startCycle
  extract_lets run s1
  rw [finishCycle_walks_of_done (s := s1) (r := run) rfl (by rwa [show run.positions = _ from hpositions]), reportOf_unused hpositions]
  rfl

/-- With no stop pending an ended sequencer waits in ARMED for its next trigger (R165). -/
theorem ended_of_armed {q : Sequencer} (harmed : q.state = .armed) (hstop : q.stopPending = false) :
    q.ended = { q with missed := 0, run := none } := by
  simp [Sequencer.ended, harmed, hstop]

/-- With no list entry in use, no stop pending and room for the REPORT, an ARMED sequencer is ARMED again (R160, R165). -/
theorem startCycle_of_no_entry_of_room {s : State} (hlist : ∀ i, s.seq.entry i = none) (harmed : s.seq.state = .armed)
    (hstop : s.seq.stopPending = false) (hup : s.arm.linkUp = true) (hroom : s.arm.outbound.length < 24) :
    startCycle s = { s with
      seq := { s.seq with cycleNumber := s.seq.cycleNumber + 1, missed := 0, run := none }
      arm := { s.arm with outbound := s.arm.outbound ++ [unusedReport (s.seq.cycleNumber + 1) s.seq.missed] } } := by
  have hended := ended_of_armed (q := { s.seq with cycleNumber := s.seq.cycleNumber + 1 }) harmed hstop
  rw [startCycle_of_no_entry hlist, offer_of_room (by exact hup) (by exact hroom), modSeq, hended]

/-! ## A CYCLE frame to name 0 -/

theorem dispatchFrame_cycle_zero (tag : Octet) (payload : List Octet) (s : State) :
    dispatchFrame (0 : Octet).toNat (armKindOf 0x03) tag payload s = cycleFrame s := rfl

theorem dispatchFrame_request_zero (tag : Octet) (payload : List Octet) (s : State) :
    dispatchFrame (0 : Octet).toNat (armKindOf 0x01) tag payload s = queueRequest tag payload s := rfl

/-- A CYCLE frame gives no trigger while the source is PERIOD, and a trigger in STOPPED does nothing (R158, R159). -/
theorem cycleFrame_ignored {s : State} (h : s.seq.source = .period ∨ s.seq.state = .stopped) : cycleFrame s = s := by
  unfold cycleFrame trigger
  obtain h | h := h
  · simp [h]
  · simp [h]

theorem cycleFrame_running {s : State} (hsource : s.seq.source = .frame) (hstate : s.seq.state = .running) :
    cycleFrame s = missTrigger .frame s := by
  simp [cycleFrame, trigger, hsource, hstate]

theorem cycleFrame_armed {s : State} (hsource : s.seq.source = .frame) (hstate : s.seq.state = .armed) :
    cycleFrame s = startCycle s := by
  simp [cycleFrame, trigger, hsource, hstate]

/-- Settles O10: every valid frame is heard and dispatched (`exec_armFrameReceived_valid`); then one lemma for each way a dispatch can go. -/
theorem arrivingFrames : Obligations.ArrivingFrames := by
  intro s dest src kind tag payload hrun hrx hlen up frame
  have hexec : exec (.armFrameReceived frame) s = .next (dispatchFrame dest.toNat (armKindOf kind) tag payload s.heard) :=
    exec_armFrameReceived_valid hrun hrx hlen
  rw [hexec]
  refine ⟨?request, ?badKind, ?ignored, ?cycle, ?misdirected⟩
  case request =>
    rintro rfl rfl
    rw [dispatchFrame_request_zero]
    exact ⟨fun hroom => congrArg Host.Outcome.next (queueRequest_of_room (s := s.heard) hroom),
      fun hfull => congrArg Host.Outcome.next (queueRequest_of_full (s := s.heard) hfull)⟩
  case badKind =>
    intro hdest hkind
    rw [dispatchFrame_badKind hdest hkind]
    exact ⟨fun hroom => congrArg Host.Outcome.next (offer_of_room (s := s.heard) rfl hroom),
      fun hfull => congrArg Host.Outcome.next (offer_of_full (s := s.heard) hfull)⟩
  case ignored =>
    rintro rfl rfl hidle
    rw [dispatchFrame_cycle_zero]
    exact congrArg Host.Outcome.next (cycleFrame_ignored (s := s.heard) hidle)
  case cycle =>
    rintro rfl rfl hsource
    rw [dispatchFrame_cycle_zero]
    refine ⟨fun hrunning => congrArg Host.Outcome.next (cycleFrame_running (s := s.heard) hsource hrunning), fun harmed => ?_⟩
    obtain ⟨hnumber, hup, htimer, hrequests⟩ := startCycle_frame s.heard
    exact ⟨startCycle s.heard, congrArg Host.Outcome.next (cycleFrame_armed (s := s.heard) hsource harmed), hnumber, hup, htimer, hrequests,
      fun hlist hstop hroom => startCycle_of_no_entry_of_room (s := s.heard) hlist harmed hstop rfl hroom⟩
  case misdirected =>
    exact fun h => congrArg Host.Outcome.next (dispatchFrame_misdirected h tag payload s.heard)

end Sys2Proof.Machine
end

section
/-! Proofs about LANE CONTROL without a limit: what an entry to a power state comes to on a lane that is not LIVE, how a request whose action does not look
at the arm link is answered, and from these ENABLE and CLEAR_LATCH (R20, R22, R31, R32, R35, R40, R168, R172). -/

namespace Sys2Proof.Machine

/-! ## Writes of a lane -/

/-- The later of two writes of a lane's state stands. -/
@[simp] theorem setLane_setLane (s : State) (l : Lane) (x y : LaneState) : (s.setLane l x).setLane l y = s.setLane l y := by cases l <;> rfl

theorem modPower_eq_setLane (l : Lane) (g : Power → Power) (s : State) :
    modPower l g s = s.setLane l { s.lane l with power := g (s.lane l).power } := rfl

/-! ## Entries to a power state from a state other than LIVE -/

@[simp] theorem entered_state (p : Power) (st : PowerState) (dp : DisablePending) (now : Nat) : (p.entered st dp now).state = st := rfl

@[simp] theorem entered_faultCount (p : Power) (st : PowerState) (dp : DisablePending) (now : Nat) :
    (p.entered st dp now).faultCount = p.faultCount := rfl

/-- With no teardown to do, an entry sets the lane's power and queues its LANE notice (R20, R40). -/
theorem enterPower_of_not_live {l : Lane} {s : State} (h : (s.lane l).power.state ≠ .live) (st : PowerState) (cause : LaneCause)
    (dp : DisablePending) :
    enterPower l st cause dp s = notify (.lane l st cause (s.lane l).power.faultCount)
      (s.setLane l { s.lane l with power := (s.lane l).power.entered st dp s.now }) := by
  simp [enterPower, leaveLive, h, laneNotice, modPower_eq_setLane]

/-- A fault on a lane that is not LIVE: the count after its increment, up to 3, decides between FAULT and LATCHED (R32). -/
theorem enterFault_of_not_live {l : Lane} {s : State} (h : (s.lane l).power.state ≠ .live) (why : Trip) {n : Nat}
    (hn : min 3 ((s.lane l).power.faultCount + 1) = n) :
    enterFault l why s = notify (.lane l (faultState n) (.trip why) n)
      (s.setLane l { s.lane l with
        power := { (s.lane l).power with faultCount := n, lastFault := some why }.entered (faultState n) .no s.now }) := by
  simp only [enterFault, hn]
  rw [enterPower_of_not_live (by simpa using h)]
  simp [modPower_eq_setLane]

/-- An entry to WAITING with the over-temperature flag clear (R22, R35). -/
theorem enterWaiting_of_cool {l : Lane} {s : State} (hcool : s.overTemp = false) (h : (s.lane l).power.state ≠ .live) (cause : LaneCause) :
    enterWaiting l cause s = notify (.lane l .waiting cause (s.lane l).power.faultCount)
      (s.setLane l { s.lane l with power := (s.lane l).power.entered .waiting .no s.now }) := by
  simp [enterWaiting, hcool, enterPower_of_not_live h]

/-- An entry to WAITING with the over-temperature flag set is a thermal fault (R31, R32). -/
theorem enterWaiting_of_hot {l : Lane} {s : State} (hhot : s.overTemp = true) (h : (s.lane l).power.state ≠ .live) (cause : LaneCause)
    {n : Nat} (hn : min 3 ((s.lane l).power.faultCount + 1) = n) :
    enterWaiting l cause s = notify (.lane l (faultState n) (.trip .thermal) n)
      (s.setLane l { s.lane l with
        power := { (s.lane l).power with faultCount := n, lastFault := some .thermal }.entered (faultState n) .no s.now }) := by
  simp [enterWaiting, hhot, enterFault_of_not_live h .thermal hn]

/-! ## ENABLE and CLEAR_LATCH by the state they meet -/

theorem enableLane_of_off {l : Lane} {s : State} (h : (s.lane l).power.state = .off) : enableLane l s = enterWaiting l .enabled s := by
  simp [enableLane, h]

theorem enableLane_of_not_off {l : Lane} {s : State} (h : (s.lane l).power.state ≠ .off) : enableLane l s = s := by
  unfold enableLane
  split
  · next hoff => exact absurd hoff h
  · rfl

theorem clearLatch_of_latched {l : Lane} {s : State} (h : (s.lane l).power.state = .latched) :
    clearLatch l s = enterWaiting l .cleared (modPower l (fun p => { p with faultCount := 0 }) s) := by
  simp [clearLatch, h]

/-- With the flag clear the lane goes to WAITING with its fault count at 0 (R35). -/
theorem clearLatch_of_cool {l : Lane} {s : State} (h : (s.lane l).power.state = .latched) (hcool : s.overTemp = false) :
    clearLatch l s = notify (.lane l .waiting .cleared 0)
      (s.setLane l { s.lane l with power := { (s.lane l).power with faultCount := 0 }.entered .waiting .no s.now }) := by
  rw [clearLatch_of_latched h, enterWaiting_of_cool (by simpa using hcool) (by simp [h])]
  simp [modPower_eq_setLane]

/-- With the flag set the thermal fault is the first of a new count (R31, R35). -/
theorem clearLatch_of_hot {l : Lane} {s : State} (h : (s.lane l).power.state = .latched) (hhot : s.overTemp = true) :
    clearLatch l s = notify (.lane l .fault (.trip .thermal) 1)
      (s.setLane l { s.lane l with
        power := { (s.lane l).power with faultCount := 1, lastFault := some .thermal }.entered .fault .no s.now }) := by
  rw [clearLatch_of_latched h, enterWaiting_of_hot (by simpa using hhot) (by simp [h]) .cleared (n := 1) (by simp)]
  simp [modPower_eq_setLane, faultState]

theorem clearLatch_of_not_latched {l : Lane} {s : State} (h : (s.lane l).power.state ≠ .latched) : clearLatch l s = s := by
  unfold clearLatch
  split
  · next hlatched => exact absurd hlatched h
  · rfl

/-! ## Operations that do not look at the arm link -/

/-- The operation commutes with every change of the arm link: it neither reads the link nor changes it. -/
def IgnoresArm (f : State → State) : Prop := ∀ (g : ArmLink → ArmLink) (s : State), f (modArm g s) = modArm g (f s)

/-- Such an operation leaves the link as it was. -/
theorem IgnoresArm.arm_eq {f : State → State} (hf : IgnoresArm f) (s : State) : (f s).arm = s.arm :=
  calc (f s).arm = (f (modArm (fun _ => s.arm) s)).arm := rfl
    _ = (modArm (fun _ => s.arm) (f s)).arm := by rw [hf]
    _ = s.arm := rfl

/-- It does the same in the state that holds the place of the RESPONSE. -/
theorem IgnoresArm.taken {f : State → State} (hf : IgnoresArm f) (s : State) (tag : Octet) (payload : List Octet) :
    f (s.taken tag payload) = (f s).taken tag payload := by
  simp only [State.taken, appendFrame, popRequest, hf _ _]

theorem setLane_modArm (l : Lane) (x : LaneState) (g : ArmLink → ArmLink) (s : State) :
    (modArm g s).setLane l x = modArm g (s.setLane l x) := by cases l <;> rfl

theorem notify_ignoresArm (n : Notice) : IgnoresArm (notify n) := by
  intro g s
  unfold notify
  rw [modArm_notices]
  split
  · rfl
  · rfl

theorem modPower_ignoresArm (l : Lane) (f : Power → Power) : IgnoresArm (modPower l f) := by
  intro g s
  rw [modPower_eq_setLane, modPower_eq_setLane, setLane_modArm, modArm_lane]

/-- An entry from a state other than LIVE does not look at the arm link; a teardown, which offers frames, would. -/
theorem enterPower_modArm {l : Lane} {s : State} (h : (s.lane l).power.state ≠ .live) (st : PowerState) (cause : LaneCause)
    (dp : DisablePending) (g : ArmLink → ArmLink) : enterPower l st cause dp (modArm g s) = modArm g (enterPower l st cause dp s) := by
  rw [enterPower_of_not_live h, enterPower_of_not_live (by rwa [modArm_lane]), modArm_lane, modArm_now, setLane_modArm, notify_ignoresArm]

theorem enterFault_modArm {l : Lane} {s : State} (h : (s.lane l).power.state ≠ .live) (why : Trip) (g : ArmLink → ArmLink) :
    enterFault l why (modArm g s) = modArm g (enterFault l why s) := by
  rw [enterFault, enterFault, modArm_lane, modPower_ignoresArm, enterPower_modArm (by simpa using h)]

theorem enterWaiting_modArm {l : Lane} {s : State} (h : (s.lane l).power.state ≠ .live) (cause : LaneCause) (g : ArmLink → ArmLink) :
    enterWaiting l cause (modArm g s) = modArm g (enterWaiting l cause s) := by
  unfold enterWaiting
  rw [modArm_overTemp]
  split
  · exact enterFault_modArm h .thermal g
  · exact enterPower_modArm h .waiting cause .no g

theorem enableLane_ignoresArm (l : Lane) : IgnoresArm (enableLane l) := by
  intro g s
  by_cases h : (s.lane l).power.state = .off
  · rw [enableLane_of_off h, enableLane_of_off (by rwa [modArm_lane]), enterWaiting_modArm (by simp [h])]
  · rw [enableLane_of_not_off h, enableLane_of_not_off (by rwa [modArm_lane])]

theorem clearLatch_ignoresArm (l : Lane) : IgnoresArm (clearLatch l) := by
  intro g s
  by_cases h : (s.lane l).power.state = .latched
  · rw [clearLatch_of_latched h, clearLatch_of_latched (by rwa [modArm_lane]), modPower_ignoresArm, enterWaiting_modArm (by simp [h])]
  · rw [clearLatch_of_not_latched h, clearLatch_of_not_latched (by rwa [modArm_lane])]

/-! ## The RESPONSE to LANE CONTROL -/

/-- A request whose action answers with a status and data and does not look at the arm link: its action's state, answered (R168). -/
theorem takeRequest_of_ignoresArm {row : RequestRow} {act : List Octet → State → Done} {s : State} {tag : Octet} {payload : List Octet}
    {rest : List Request} (h : s.Asked tag payload rest) (hrow : rowOf payload = row) {f : State → State} (hf : IgnoresArm f) {st : Status}
    {data : List Octet} (hact : actOn act payload (s.taken tag payload) = (⟨st, data⟩, f (s.taken tag payload))) :
    takeRequest row act s = (f s).answered rest tag (requestCode payload) st data := by
  rw [takeRequest_asked h hrow, hact, hf.taken]
  simp [placeFrame, State.taken, appendFrame, popRequest, modArm, State.answered, State.waiting, responseTo, hf.arm_eq, h.front]

@[simp] theorem laneOf_octet_laneCode (l : Lane) : laneOf (octet (laneCode l)) = some l := by cases l <;> rfl

@[simp] theorem laneReport_taken (s : State) (tag : Octet) (payload : List Octet) (l : Lane) :
    (s.taken tag payload).laneReport l = s.laneReport l := by simp [State.laneReport, State.taken, appendFrame, popRequest]

@[simp] theorem laneReport_notify (n : Notice) (s : State) (l : Lane) : (notify n s).laneReport l = s.laneReport l := by
  simp [State.laneReport]

@[simp] theorem laneReport_setLane (s : State) (l : Lane) (x : LaneState) : (s.setLane l x).laneReport l =
    [octet (laneCode l), octet x.power.state.code, octet (lastFaultCode x.power.lastFault), octet x.power.faultCount, octet x.power.limit] := by
  simp [State.laneReport]

/-- LANE CONTROL with an action and no limit: the action, answered OK with the report of the lane after it (R172). -/
theorem takeRequest_laneControl {row : RequestRow} {action : Lane → State → State} {s : State} {l : Lane} {tag a : Octet}
    {rest : List Request} (h : s.Asked tag [0x03, octet (laneCode l), a] rest) (hrow : rowOf [0x03, octet (laneCode l), a] = row)
    (ha : a.toNat ≤ 3) (haction : IgnoresArm (action l)) :
    takeRequest row (laneControl action) s = (action l s).answered rest tag 0x03 .ok ((action l s).laneReport l) := by
  refine takeRequest_of_ignoresArm h hrow haction ?_
  simp [actOn, laneControl, Nat.not_lt.mpr ha, done, haction.taken]

theorem exec_laneControlEnable {s : State} {l : Lane} {tag : Octet} {rest : List Request}
    (h : s.Asked tag [0x03, octet (laneCode l), 1] rest) :
    exec .laneControlEnable s = .next ((enableLane l s).answered rest tag 0x03 .ok ((enableLane l s).laneReport l)) :=
  congrArg Host.Outcome.next (takeRequest_laneControl h rfl (by decide) (enableLane_ignoresArm l))

theorem exec_laneControlClearLatch {s : State} {l : Lane} {tag : Octet} {rest : List Request}
    (h : s.Asked tag [0x03, octet (laneCode l), 3] rest) :
    exec .laneControlClearLatch s = .next ((clearLatch l s).answered rest tag 0x03 .ok ((clearLatch l s).laneReport l)) :=
  congrArg Host.Outcome.next (takeRequest_laneControl h rfl (by decide) (clearLatch_ignoresArm l))

/-! ## The probe supply -/

@[simp] theorem probeSupplyOn_answered (s : State) (rest : List Request) (tag code : Octet) (st : Status) (data : List Octet) (l : Lane) :
    (s.answered rest tag code st data).probeSupplyOn l = s.probeSupplyOn l := by cases l <;> rfl

@[simp] theorem probeSupplyOn_notify (n : Notice) (s : State) (l : Lane) : (notify n s).probeSupplyOn l = s.probeSupplyOn l := by
  rw [notify_frame]
  cases l <;> rfl

/-- The part runs, so a lane put in WAITING has its probe supply on (R20). -/
theorem probeSupplyOn_setLane_of_waiting {s : State} {l : Lane} {x : LaneState} (hrun : s.resetAsserted = false)
    (hx : x.power.state = .waiting) : (s.setLane l x).probeSupplyOn l = true := by
  simp [State.probeSupplyOn, hrun, hx]

/-! ## The obligations -/

/-- Settles O25: `exec_laneControlEnable`, then ENABLE by the state, the flag and the fault count it meets. -/
theorem laneControlEnable : Obligations.LaneControlEnable := by
  intro s l tag rest hasked p report
  rw [exec_laneControlEnable hasked]
  refine ⟨?cool, ?hot, ?third, ?other⟩
  case cool =>
    intro hoff hcool
    have hlive : p.state ≠ .live := by simp [hoff]
    rw [enableLane_of_off hoff, enterWaiting_of_cool hcool hlive, laneReport_notify, laneReport_setLane]
    refine ⟨rfl, ?_⟩
    rw [probeSupplyOn_answered, probeSupplyOn_notify]
    exact probeSupplyOn_setLane_of_waiting hasked.running rfl
  case hot =>
    intro hoff hhot hcount
    have hlive : p.state ≠ .live := by simp [hoff]
    have hn : min 3 (p.faultCount + 1) = p.faultCount + 1 := by omega
    have hstate : faultState (p.faultCount + 1) = .fault := if_pos (by omega)
    rw [enableLane_of_off hoff, enterWaiting_of_hot hhot hlive .enabled hn, hstate, laneReport_notify, laneReport_setLane]
  case third =>
    intro hoff hhot hcount
    have hlive : p.state ≠ .live := by simp [hoff]
    have hn : min 3 (p.faultCount + 1) = 3 := by omega
    have hstate : faultState 3 = .latched := rfl
    rw [enableLane_of_off hoff, enterWaiting_of_hot hhot hlive .enabled hn, hstate, laneReport_notify, laneReport_setLane]
  case other =>
    intro hoff
    rw [enableLane_of_not_off hoff]
    rfl

/-- Settles O27: `exec_laneControlClearLatch`, then CLEAR_LATCH by the state and the flag it meets. -/
theorem laneControlClearLatch : Obligations.LaneControlClearLatch := by
  intro s l tag rest hasked p report
  rw [exec_laneControlClearLatch hasked]
  refine ⟨?cool, ?hot, ?other⟩
  case cool =>
    intro hlatched hcool
    rw [clearLatch_of_cool hlatched hcool, laneReport_notify, laneReport_setLane]
    refine ⟨rfl, ?_⟩
    rw [probeSupplyOn_answered, probeSupplyOn_notify]
    exact probeSupplyOn_setLane_of_waiting hasked.running rfl
  case hot =>
    intro hlatched hhot
    rw [clearLatch_of_hot hlatched hhot, laneReport_notify, laneReport_setLane]
  case other =>
    intro hlatched
    rw [clearLatch_of_not_latched hlatched]
    rfl

end Sys2Proof.Machine
end

section
/-! Proofs about the requests that read or replace stored values: what a refused request, one that changes nothing and one that stores a value are answered,
and from these IDENTIFY, reading LANE OPTIONS, requests that are none, the profiles, and the notice requests (R43, R169, R170, R173, R174, R180, R185, R190). -/

namespace Sys2Proof.Machine

/-! ## Octets -/

/-- A number below 256 is told by its octet. -/
theorem octet_eq_iff {n : Nat} (h : n < 256) (o : Octet) : octet n = o ↔ n = o.toNat := by
  rw [← BitVec.toNat_inj, BitVec.toNat_ofNat, Nat.mod_eq_of_lt h]

/-- The octets of a profile tell its values, where each is below 256. -/
theorem profile_octets_eq_iff {p : Profile} (hrate : p.rate < 256) (hguard : p.guard < 256) (htimeout : p.timeout < 256)
    (hretries : p.retries < 256) (a b c d : Octet) : p.octets = [a, b, c, d] ↔ p = ⟨a.toNat, b.toNat, c.toNat, d.toNat⟩ := by
  obtain ⟨rate, guard, timeout, retries⟩ := p
  simp [Profile.octets, octet_eq_iff, hrate, hguard, htimeout, hretries]

theorem laneOf_eq_none {i : Octet} (h1 : i ≠ 1) (h2 : i ≠ 2) : laneOf i = none := by
  unfold laneOf
  split
  case h_1 h => exact absurd (BitVec.eq_of_toNat_eq h) h1
  case h_2 h => exact absurd (BitVec.eq_of_toNat_eq h) h2
  case h_3 => rfl

/-- The codes 0x01 to 0x18 name requests, and no others do (section 12.3). -/
theorem rowOf_eq_unknownRequest {code : Octet} (h : code = 0 ∨ 0x18 < code.toNat) (args : List Octet) :
    rowOf (code :: args) = .unknownRequest := by
  have hcode : code.toNat = 0 ∨ 0x18 < code.toNat := h.imp_left (congrArg BitVec.toNat)
  unfold rowOf
  dsimp only
  split
  case h_25 => rfl
  all_goals omega

/-! ## How a request is answered -/

@[simp] theorem taken_lane (s : State) (tag : Octet) (payload : List Octet) (l : Lane) : (s.taken tag payload).lane l = s.lane l := by
  cases l <;> rfl
@[simp] theorem taken_profiles (s : State) (tag : Octet) (payload : List Octet) : (s.taken tag payload).profiles = s.profiles := rfl
@[simp] theorem taken_notices (s : State) (tag : Octet) (payload : List Octet) : (s.taken tag payload).notices = s.notices := rfl

section
variable {row : RequestRow} {act : List Octet → State → Done} {s : State} {tag code : Octet} {args : List Octet} {rest : List Request}

/-- A request with a code that its action refuses is answered, and nothing changes (R169). -/
theorem takeRequest_of_refuse (h : s.Asked tag (code :: args) rest) (hrow : rowOf (code :: args) = row) {st : Status}
    (hact : ∀ t, act args t = refuse st t) : takeRequest row act s = s.answered rest tag code st [] :=
  takeRequest_refused h hrow (hact _)

/-- A request whose action reads values that the request's own taking does not touch is answered with them, and nothing changes (R168). -/
theorem takeRequest_of_read (h : s.Asked tag (code :: args) rest) (hrow : rowOf (code :: args) = row) {data : List Octet}
    (hact : act args (s.taken tag (code :: args)) = done data (s.taken tag (code :: args))) :
    takeRequest row act s = s.answered rest tag code .ok data :=
  takeRequest_of_ignoresArm h hrow (f := id) (fun _ _ => rfl) hact

end

theorem exec_identify {s : State} {tag : Octet} {rest : List Request} (h : s.Asked tag [0x01] rest) :
    exec .identify s = .next (s.answered rest tag 0x01 .ok s.identity) :=
  congrArg Host.Outcome.next (takeRequest_of_read h rfl rfl)

theorem exec_identify_of_args {s : State} {tag a : Octet} {args : List Octet} {rest : List Request} (h : s.Asked tag (0x01 :: a :: args) rest) :
    exec .identify s = .next (s.answered rest tag 0x01 .badLength []) :=
  congrArg Host.Outcome.next (takeRequest_of_refuse h rfl fun _ => rfl)

theorem exec_unknownRequest_of_empty {s : State} {tag : Octet} {rest : List Request} (h : s.Asked tag [] rest) :
    exec .unknownRequest s = .next (s.answered rest tag 0 .badLength []) :=
  congrArg Host.Outcome.next (takeRequest_refused h rfl rfl)

theorem exec_unknownRequest_of_code {s : State} {tag code : Octet} {args : List Octet} {rest : List Request}
    (h : s.Asked tag (code :: args) rest) (hcode : code = 0 ∨ 0x18 < code.toNat) :
    exec .unknownRequest s = .next (s.answered rest tag code .unknownRequest []) :=
  congrArg Host.Outcome.next (takeRequest_of_refuse h (rowOf_eq_unknownRequest hcode args) fun _ => rfl)

theorem exec_laneOptionsRead {s : State} {tag : Octet} {l : Lane} {rest : List Request} (h : s.Asked tag [0x04, octet (laneCode l)] rest) :
    exec .laneOptionsRead s = .next (s.answered rest tag 0x04 .ok (s.optionsReport l)) := by
  refine congrArg Host.Outcome.next (takeRequest_of_read h rfl ?_)
  simp [actLaneOptionsRead, State.optionsReport]

theorem exec_laneOptionsRead_of_no_lane {s : State} {tag i : Octet} {rest : List Request} (h : s.Asked tag [0x04, i] rest)
    (h1 : i ≠ 1) (h2 : i ≠ 2) : exec .laneOptionsRead s = .next (s.answered rest tag 0x04 .badArgument []) :=
  congrArg Host.Outcome.next (takeRequest_of_refuse h rfl fun _ => by simp [actLaneOptionsRead, laneOf_eq_none h1 h2])

/-! ## Profiles -/

/-- The stored values of a WRITE PROFILE, with the bounds that an octet meets by itself left out (R43). -/
theorem clampProfile_eq (a b c d : Octet) :
    clampProfile a b c d = ⟨min 5 a.toNat, min 31 (max 2 b.toNat), max 1 c.toNat, min 3 d.toNat⟩ := by
  have hc : c.toNat < 256 := c.isLt
  simp only [clampProfile, clamp, Nat.zero_max, Profile.mk.injEq, true_and, and_true]
  omega

theorem clampProfile_octets_eq_iff (a b c d : Octet) :
    (clampProfile a b c d).octets = [a, b, c, d] ↔ clampProfile a b c d = ⟨a.toNat, b.toNat, c.toNat, d.toNat⟩ := by
  have below {low high n bound : Nat} (h : high < bound) : clamp low high n < bound := (Nat.min_le_left ..).trans_lt h
  exact profile_octets_eq_iff (below (by decide)) (below (by decide)) (below (by decide)) (below (by decide)) a b c d

/-- WRITE PROFILE at an index of the table: the clamped values stored, CLAMPED exactly when a value changed (R174). -/
theorem exec_writeProfile {s : State} {tag i a b c d : Octet} {rest : List Request} (h : s.Asked tag [0x05, i, a, b, c, d] rest)
    (hi : i.toNat ≤ 3) : exec .writeProfile s = .next
      ({ s with profiles := s.profiles.set i.toNat (clampProfile a b c d) }.answered rest tag 0x05
        (if clampProfile a b c d = (⟨a.toNat, b.toNat, c.toNat, d.toNat⟩ : Profile) then .ok else .clamped) (i :: (clampProfile a b c d).octets)) := by
  refine congrArg Host.Outcome.next (takeRequest_of_ignoresArm h rfl
    (f := fun s => { s with profiles := s.profiles.set i.toNat (clampProfile a b c d) }) (fun _ _ => rfl) ?_)
  simp [actOn, actWriteProfile, Nat.not_lt.mpr hi, doneClamped, ← clampProfile_octets_eq_iff, ite_not]

theorem exec_writeProfile_of_no_profile {s : State} {tag i a b c d : Octet} {rest : List Request}
    (h : s.Asked tag [0x05, i, a, b, c, d] rest) (hi : 3 < i.toNat) :
    exec .writeProfile s = .next (s.answered rest tag 0x05 .badArgument []) :=
  congrArg Host.Outcome.next (takeRequest_of_refuse h rfl fun _ => by simp [actWriteProfile, hi])

theorem exec_readProfile {s : State} {tag i : Octet} {rest : List Request} (h : s.Asked tag [0x06, i] rest) (hi : i.toNat ≤ 3) :
    exec .readProfile s = .next (s.answered rest tag 0x06 .ok (i :: (s.profile i.toNat).octets)) := by
  refine congrArg Host.Outcome.next (takeRequest_of_read h rfl ?_)
  simp [actReadProfile, Nat.not_lt.mpr hi, State.profile]

theorem exec_readProfile_of_no_profile {s : State} {tag i : Octet} {rest : List Request} (h : s.Asked tag [0x06, i] rest)
    (hi : 3 < i.toNat) : exec .readProfile s = .next (s.answered rest tag 0x06 .badArgument []) :=
  congrArg Host.Outcome.next (takeRequest_of_refuse h rfl fun _ => by simp [actReadProfile, hi])

theorem profile_of_getElem? {s : State} {i : Nat} {p : Profile} (h : s.profiles[i]? = some p) : s.profile i = p := by
  simp [State.profile, h]

/-! ## Notices -/

/-- The maximum of FETCH NOTICES, taken into 1..5 (R180). -/
theorem clamp_one_five (m : Octet) : clamp 1 5 m.toNat = if m = 0 then 1 else if 5 < m.toNat then 5 else m.toNat := by
  by_cases h0 : m = 0
  · rw [if_pos h0, h0]
    rfl
  · have hpos : m.toNat ≠ 0 := fun h => h0 (BitVec.eq_of_toNat_eq h)
    rw [if_neg h0, clamp]
    split <;> omega

theorem exec_fetchNotices {s : State} {tag m : Octet} {rest : List Request} (h : s.Asked tag [0x15, m] rest) {n : Nat}
    (hn : clamp 1 5 m.toNat = n) : exec .fetchNotices s = .next ((dropNotices n s).answered rest tag 0x15
      (if n = m.toNat then .ok else .clamped)
      (octet (min n s.notices.queue.length) :: (s.notices.queue.take n).flatMap NoticeRecord.octets)) := by
  refine congrArg Host.Outcome.next (takeRequest_of_ignoresArm h rfl (f := dropNotices n) (fun _ _ => rfl) ?_)
  simp [actOn, actFetchNotices, hn, doneClamped, ite_not]

theorem exec_noticeMasksRead {s : State} {tag : Octet} {rest : List Request} (h : s.Asked tag [0x16] rest) :
    exec .noticeMasksRead s = .next (s.answered rest tag 0x16 .ok s.notices.masks.octets) :=
  congrArg Host.Outcome.next (takeRequest_of_read h rfl rfl)

theorem exec_noticeMasksWrite {s : State} {tag k d c a : Octet} {rest : List Request} (h : s.Asked tag [0x16, k, d, c, a] rest) :
    exec .noticeMasksWrite s = .next ({ s with notices := { s.notices with masks := writtenMasks k d c a } }.answered rest tag 0x16 .ok
      (writtenMasks k d c a).octets) :=
  congrArg Host.Outcome.next (takeRequest_of_ignoresArm h rfl
    (f := fun s => { s with notices := { s.notices with masks := writtenMasks k d c a } }) (fun _ _ => rfl) rfl)

/-- A RESPONSE does not move ALERT# (R191). -/
theorem alertAsserted_answered (s : State) (rest : List Request) (tag code : Octet) (st : Status) (data : List Octet) :
    (s.answered rest tag code st data).alertAsserted = s.alertAsserted := rfl

/-- The masks as written give ALERT# by the alert enable and the queue alone (R191). -/
theorem alertAsserted_writtenMasks (s : State) (k d c a : Octet) :
    { s with notices := { s.notices with masks := writtenMasks k d c a } }.alertAsserted = (a.getLsbD 7 && !s.notices.queue.isEmpty) := by
  simp [State.alertAsserted, writtenMasks, Bool.and_comm]

/-! ## Notice records -/

theorem octet_laneCode (l : Lane) : octet (laneCode l) = if l = .a then 1 else 2 := by cases l <;> rfl

theorem markedKind (mark : Bool) (x : Nat) : (if mark then 128 else 0) + x = if mark then 128 + x else x := by cases mark <;> simp

/-! ## The obligations -/

/-- Settles O15: each form of the three requests by what it is answered. -/
theorem identityOptionsAndUnknownRequests : Obligations.IdentityOptionsAndUnknownRequests := by
  intro s tag i rest
  refine ⟨fun h => ?identity, fun _ _ => exec_identify_of_args, exec_unknownRequest_of_empty, fun _ _ hcode h => exec_unknownRequest_of_code h hcode,
    fun l h => ?stored, exec_laneOptionsRead_of_no_lane⟩
  case identity =>
    rw [exec_identify h]
    simp [State.identity, armRate, ceilingOf, apply_ite]
  case stored =>
    rw [exec_laneOptionsRead h]
    simp [State.optionsReport, LaneOptions.octets, LaneOptions.switches, octets2, yesCode]

/-- Settles O18: WRITE PROFILE and READ PROFILE by the index. -/
theorem profiles : Obligations.Profiles := by
  intro s tag i a b c d rest
  refine ⟨fun h => ⟨fun hi => ?write, exec_writeProfile_of_no_profile h⟩, fun h => ⟨fun p hp hi => ?read, exec_readProfile_of_no_profile h⟩⟩
  case write =>
    rw [exec_writeProfile h hi, clampProfile_eq]
    rfl
  case read =>
    rw [exec_readProfile h hi, profile_of_getElem? hp]
    rfl

/-- Settles O20: the three requests, then the record of each kind of notice, then the codes. -/
theorem noticeRequests : Obligations.NoticeRequests := by
  refine ⟨fun s tag rest => ⟨fun m h => exec_fetchNotices h (clamp_one_five m), exec_noticeMasksRead, fun k d c a h => ?masks⟩,
    fun mark l fp name n k => ?records, rfl, rfl, rfl, rfl, rfl, rfl⟩
  case masks =>
    exact ⟨exec_noticeMasksWrite h, (alertAsserted_answered ..).trans (alertAsserted_writtenMasks s k d c a)⟩
  case records =>
    simp only [NoticeRecord.octets, markedKind, octet_laneCode]
    refine ⟨fun _ _ => rfl, fun _ => rfl, fun _ _ => rfl, fun _ _ => rfl, fun cross => ?duplicate, fun corrupt => ?assignFail,
      fun rise => ?complete, fun t => ?cycleOverrun⟩
    case duplicate => cases cross <;> rfl
    case assignFail => cases corrupt <;> rfl
    case complete => cases rise <;> rfl
    case cycleOverrun => cases t <;> rfl

end Sys2Proof.Machine
end

section
/-! The moves of the part: every command but a reset is a chain of small moves, each of which changes one block, within a scope that says which blocks
may change and on which lanes devices, runs and exchanges may come to be. What a move cannot do, no command can do: from the moves come the frames of
the commands (O54) and the invariants that every step keeps (O57 to O60). -/

namespace Sys2Proof.Machine

/-! ## Scopes -/

/-- The parts of the state that a command may change; `drops` is the count of dropped frames, `linkCounters` the other LINK counters, `bounds` the two ends of the
provisional range, `cycle` the sequencer, with `trigger` its source and period. -/
inductive Part where
  | slot (i : Nat)
  | power (l : Lane) | exchange (l : Lane) | token (l : Lane) | turn (l : Lane) | forward (l : Lane) | unaddress (l : Lane) | options (l : Lane)
  | census (l : Lane) | counters (l : Lane) | complete (l : Lane)
  | receiver | transmitter | link | requests | outbound | drops | linkCounters
  | cursor | bounds | cycle | trigger | notices | masks | profiles | nameMap | overTemp | choices

/-- What moves are in scope: the parts that may change, the lanes on which an entry, a run or an exchange may come to be, and whether the fingerprints in the
roster are known to be distinct at the start. -/
structure Scope where
  part  : Part → Prop
  home  : Lane → Prop
  apart : Prop

/-! ## Moves of the blocks -/

/-- The name that a Census Engine carries for a MOVE in hand (R83). -/
def Census.carriedName (c : Census) : Option Nat := (c.find.bind Find.carried).map Carried.name

/-- A work list within its capacity, with records of depths 1..23 (R76). -/
def WorkSound (w : List Prefix) : Prop := w.length ≤ 16 ∧ ∀ p ∈ w, 1 ≤ p.depth ∧ p.depth ≤ 23

/-- What of a lane may change. -/
structure LaneFrame (A : Scope) (l : Lane) (x y : LaneState) : Prop where
  power     : A.part (.power l) ∨ y.power = x.power
  exchange  : A.part (.exchange l) ∨ (y.exch = x.exch ∧ y.rx = x.rx)
  token     : A.part (.token l) ∨ y.echoToken = x.echoToken
  turn      : A.part (.turn l) ∨ (y.lastTurn = x.lastTurn ∧ y.lastServed = x.lastServed)
  forward   : A.part (.forward l) ∨ y.forward = x.forward
  unaddress : A.part (.unaddress l) ∨ y.unaddress = x.unaddress
  options   : A.part (.options l) ∨ y.options = x.options
  census    : A.part (.census l) ∨ y.census = x.census
  counters  : A.part (.counters l) ∨ y.counters = x.counters
  complete  : A.part (.complete l) ∨ y.complete = x.complete

/-- What a move may do to a lane. -/
structure LaneMove (A : Scope) (l : Lane) (x y : LaneState) : Prop extends LaneFrame A l x y where
  inFlight  : y.exch.isSome = true → x.exch.isSome = true ∨ A.home l
  runs      : y.census.run ≠ .idle → x.census.run ≠ .idle ∨ A.home l
  carried   : ∀ n, y.census.carriedName = some n → x.census.carriedName = some n
  work      : WorkSound x.census.work → WorkSound y.census.work
  queue     : x.forward.length ≤ forwardCapacity → y.forward.length ≤ forwardCapacity
  counts    : x.counters.sound → y.counters.sound
  dark      : x.power.state ≠ .live → x.complete = false → y.complete = false

/-- What a move may do to the arm link. -/
structure ArmMove (A : Scope) (a b : ArmLink) : Prop where
  receiver : A.part .receiver ∨ b.rx = a.rx
  transmitter : A.part .transmitter ∨ b.tx = a.tx
  link     : A.part .link ∨ (b.linkUp = a.linkUp ∧ b.linkTimer = a.linkTimer)
  requests : A.part .requests ∨ b.requests = a.requests
  outbound : A.part .outbound ∨ b.outbound = a.outbound
  places   : A.part .link ∨ A.part .transmitter ∨ A.part .requests ∨
    (a.outbound <+: b.outbound ∧ (a.linkUp = false → b.outbound = a.outbound))
  drops    : A.part .drops ∨ b.counters.outboundDrops = a.counters.outboundDrops
  counters : A.part .linkCounters ∨ b.counters = { a.counters with outboundDrops := b.counters.outboundDrops }
  waiting  : a.requests.length ≤ requestCapacity → b.requests.length ≤ requestCapacity
  queue    : a.outbound.length ≤ outboundCapacity → b.outbound.length ≤ outboundCapacity
  counts   : a.counters.sound → b.counters.sound

/-- What a move may do to the sequencer. -/
structure SeqMove (A : Scope) (q r : Sequencer) : Prop where
  cycle   : A.part .cycle ∨ r = q
  trigger : A.part .trigger ∨ (r.source = q.source ∧ r.period = q.period)
  size    : r.list.length = q.list.length

/-- What a move may do to the notice queue. -/
structure NoticeMove (A : Scope) (u v : NoticeUnit) : Prop where
  queue : A.part .notices ∨ v.queue = u.queue
  masks : A.part .masks ∨ v.masks = u.masks
  size  : u.queue.length ≤ noticeCapacity → v.queue.length ≤ noticeCapacity

/-- The provisional range is one, and its cursor stands in it (R129). -/
def NameRange.Sound (r : NameRange) : Prop := 1 ≤ r.low ∧ r.low ≤ r.cursor ∧ r.cursor ≤ r.high ∧ r.high ≤ 254

/-- What a move may do to the provisional range. -/
structure RangeMove (A : Scope) (r r' : NameRange) : Prop where
  cursor : A.part .cursor ∨ r' = r
  bounds : A.part .bounds ∨ (r'.low = r.low ∧ r'.high = r.high)
  sound  : r.Sound → r'.Sound

/-- What a move may do to the roster without a new device or a new name: entries are removed or rewritten. -/
structure RosterMove (A : Scope) (s t : State) : Prop where
  size : t.roster.length = s.roster.length
  slot : ∀ j, t.entry j = s.entry j ∨ (A.part (.slot j) ∧
    (t.entry j = none ∨ ∃ e f, s.entry j = some e ∧ t.entry j = some f ∧ f.device = e.device ∧ f.name = e.name))

/-- One move. -/
inductive Move (A : Scope) : State → State → Prop where
  | lane {s : State} (l : Lane) (y : LaneState) (h : LaneMove A l (s.lane l) y) : Move A s (s.setLane l y)
  | arm {s : State} (b : ArmLink) (h : ArmMove A s.arm b) : Move A s { s with arm := b }
  | seq {s : State} (q : Sequencer) (h : SeqMove A s.seq q) : Move A s { s with seq := q }
  | notices {s : State} (u : NoticeUnit) (h : NoticeMove A s.notices u) : Move A s { s with notices := u }
  | range {s : State} (r : NameRange) (h : RangeMove A s.range r) : Move A s { s with range := r }
  | roster {s : State} (r : List (Option Entry)) (h : RosterMove A s { s with roster := r }) : Move A s { s with roster := r }
  /-- An entry takes a name that nobody else holds (R130, R134). -/
  | name {s : State} (slot : Nat) (e f : Entry) (n : Nat) (hA : A.part (.slot slot)) (he : s.entry slot = some e) (hd : f.device = e.device)
      (hn : f.name = some n) (hfree : ∀ j y, j ≠ slot → s.entry j = some y → y.name ≠ some n) (hcar : ∀ l, s.carriedName l ≠ some n) :
      Move A s (setEntry slot (some f) s)
  /-- An entry takes the name that its MOVE carried, which ends (R83, R86). -/
  | handOver {s : State} (l : Lane) (slot : Nat) (e f : Entry) (n : Nat) (hA : A.part (.slot slot)) (hc : A.part (.census l))
      (he : s.entry slot = some e) (hd : f.device = e.device) (hn : f.name = some n) (hcar : s.carriedName l = some n) :
      Move A s (setEntry slot (some f) (clearFind l s))
  /-- A find is taken in hand that carries at most the name of an entry, which leaves the roster (R83). -/
  | carry {s : State} (l : Lane) (slot : Nat) (e : Entry) (x : Find) (rest : List Fingerprint) (hA : A.part (.slot slot)) (hc : A.part (.census l))
      (he : s.entry slot = some e) (hn : ∀ n, x.carried.map Carried.name = some n → e.name = some n) :
      Move A s (setEntry slot none (takeInHand l x rest s))
  /-- A new device takes a free slot and a free address (R85). -/
  | create {s : State} (l : Lane) (slot a : Nat) (f : Fingerprint) (hA : A.part (.slot slot)) (hl : A.home l) (he : s.entry slot = none)
      (ha : s.addressFree l a) (hf : A.apart → ∀ j e, s.entry j = some e → e.fp ≠ f) : Move A s (setEntry slot (some (.assigned l a f)) s)
  | profiles {s : State} (p : List Profile) (hA : A.part .profiles) (h : p.length = s.profiles.length) : Move A s { s with profiles := p }
  | nameMap {s : State} (m : List (Option MapEntry)) (hA : A.part .nameMap) (h : m.length = s.nameMap.length) : Move A s { s with nameMap := m }
  | overTemp {s : State} (b : Bool) (hA : A.part .overTemp) : Move A s { s with overTemp := b }
  | choices {s : State} (n : Nat) (hA : A.part .choices) : Move A s { s with choices := n }

/-- A chain of moves. -/
abbrev Moves (A : Scope) : State → State → Prop := Relation.ReflTransGen (Move A)

theorem Moves.refl {A : Scope} (s : State) : Moves A s s := Relation.ReflTransGen.refl

/-! ## What moves leave alone -/

/-- What a chain of moves leaves alone: the queue of commands, the clock, the reset pin and the strap always, and every part out of scope. -/
structure Framed (A : Scope) (s t : State) : Prop where
  pending : t.pending = s.pending
  now : t.now = s.now
  resetAsserted : t.resetAsserted = s.resetAsserted
  strap : t.strap = s.strap
  overTemp : A.part .overTemp ∨ t.overTemp = s.overTemp
  choices : A.part .choices ∨ t.choices = s.choices
  profiles : A.part .profiles ∨ t.profiles = s.profiles
  nameMap : A.part .nameMap ∨ t.nameMap = s.nameMap
  queue : A.part .notices ∨ t.notices.queue = s.notices.queue
  masks : A.part .masks ∨ t.notices.masks = s.notices.masks
  cursor : A.part .cursor ∨ t.range = s.range
  bounds : A.part .bounds ∨ (t.range.low = s.range.low ∧ t.range.high = s.range.high)
  cycle : A.part .cycle ∨ t.seq = s.seq
  trigger : A.part .trigger ∨ (t.seq.source = s.seq.source ∧ t.seq.period = s.seq.period)
  slot : ∀ j, A.part (.slot j) ∨ t.entry j = s.entry j
  rosterSize : t.roster.length = s.roster.length
  receiver : A.part .receiver ∨ t.arm.rx = s.arm.rx
  transmitter : A.part .transmitter ∨ t.arm.tx = s.arm.tx
  link : A.part .link ∨ (t.arm.linkUp = s.arm.linkUp ∧ t.arm.linkTimer = s.arm.linkTimer)
  requests : A.part .requests ∨ t.arm.requests = s.arm.requests
  outbound : A.part .outbound ∨ t.arm.outbound = s.arm.outbound
  drops : A.part .drops ∨ t.arm.counters.outboundDrops = s.arm.counters.outboundDrops
  linkCounters : A.part .linkCounters ∨ t.arm.counters = { s.arm.counters with outboundDrops := t.arm.counters.outboundDrops }
  power : ∀ l, A.part (.power l) ∨ (t.lane l).power = (s.lane l).power
  exchange : ∀ l, A.part (.exchange l) ∨ ((t.lane l).exch = (s.lane l).exch ∧ (t.lane l).rx = (s.lane l).rx)
  token : ∀ l, A.part (.token l) ∨ (t.lane l).echoToken = (s.lane l).echoToken
  turn : ∀ l, A.part (.turn l) ∨ ((t.lane l).lastTurn = (s.lane l).lastTurn ∧ (t.lane l).lastServed = (s.lane l).lastServed)
  forward : ∀ l, A.part (.forward l) ∨ (t.lane l).forward = (s.lane l).forward
  unaddress : ∀ l, A.part (.unaddress l) ∨ (t.lane l).unaddress = (s.lane l).unaddress
  options : ∀ l, A.part (.options l) ∨ (t.lane l).options = (s.lane l).options
  census : ∀ l, A.part (.census l) ∨ (t.lane l).census = (s.lane l).census
  counters : ∀ l, A.part (.counters l) ∨ (t.lane l).counters = (s.lane l).counters
  complete : ∀ l, A.part (.complete l) ∨ (t.lane l).complete = (s.lane l).complete

section
variable {A : Scope}

theorem Framed.refl (s : State) : Framed A s s := by
  constructor <;> intros <;> simp

/-- Two changes of a value, each in scope or none, are one. -/
theorem scoped_trans {α : Type} {p : Prop} {a b c : α} (h : p ∨ b = a) (k : p ∨ c = b) : p ∨ c = a :=
  k.elim .inl fun hc => h.imp_right hc.trans

/-- The same for two values at a time. -/
theorem scoped_trans₂ {α β : Type} {p : Prop} {a b c : α} {x y z : β} (h : p ∨ (b = a ∧ y = x)) (k : p ∨ (c = b ∧ z = y)) : p ∨ (c = a ∧ z = x) :=
  k.elim .inl fun hc => h.imp_right fun hb => ⟨hc.1.trans hb.1, hc.2.trans hb.2⟩

theorem Framed.trans {s t u : State} (h : Framed A s t) (k : Framed A t u) : Framed A s u where
  pending := k.pending.trans h.pending
  now := k.now.trans h.now
  resetAsserted := k.resetAsserted.trans h.resetAsserted
  strap := k.strap.trans h.strap
  overTemp := scoped_trans h.overTemp k.overTemp
  choices := scoped_trans h.choices k.choices
  profiles := scoped_trans h.profiles k.profiles
  nameMap := scoped_trans h.nameMap k.nameMap
  queue := scoped_trans h.queue k.queue
  masks := scoped_trans h.masks k.masks
  cursor := scoped_trans h.cursor k.cursor
  bounds := scoped_trans₂ h.bounds k.bounds
  cycle := scoped_trans h.cycle k.cycle
  trigger := scoped_trans₂ h.trigger k.trigger
  slot j := scoped_trans (h.slot j) (k.slot j)
  rosterSize := k.rosterSize.trans h.rosterSize
  receiver := scoped_trans h.receiver k.receiver
  transmitter := scoped_trans h.transmitter k.transmitter
  link := scoped_trans₂ h.link k.link
  requests := scoped_trans h.requests k.requests
  outbound := scoped_trans h.outbound k.outbound
  drops := scoped_trans h.drops k.drops
  linkCounters := k.linkCounters.elim .inl fun hk => h.linkCounters.imp_right fun hh => by rw [hk, hh]
  power l := scoped_trans (h.power l) (k.power l)
  exchange l := scoped_trans₂ (h.exchange l) (k.exchange l)
  token l := scoped_trans (h.token l) (k.token l)
  turn l := scoped_trans₂ (h.turn l) (k.turn l)
  forward l := scoped_trans (h.forward l) (k.forward l)
  unaddress l := scoped_trans (h.unaddress l) (k.unaddress l)
  options l := scoped_trans (h.options l) (k.options l)
  census l := scoped_trans (h.census l) (k.census l)
  counters l := scoped_trans (h.counters l) (k.counters l)
  complete l := scoped_trans (h.complete l) (k.complete l)

theorem setEntry_framed {slot : Nat} (hA : A.part (.slot slot)) (e : Option Entry) (s : State) : Framed A s (setEntry slot e s) := by
  refine { Framed.refl s with slot := fun j => ?_, rosterSize := by simp }
  by_cases h : slot = j
  · exact .inl (h ▸ hA)
  · exact .inr (entry_setEntry_ne h _)

/-- A lane's move concerns that lane alone. -/
theorem setLane_framed {l : Lane} {y : LaneState} {s : State} (h : LaneFrame A l (s.lane l) y) : Framed A s (s.setLane l y) := by
  have hk (k : Lane) : (s.setLane l y).lane k = if k = l then y else s.lane k := by cases l <;> cases k <;> rfl
  constructor
  case slot => intro j; right; cases l <;> rfl
  all_goals first
    | (intro k; rw [hk]; split
       · next e => subst e; first | exact h.power | exact h.exchange | exact h.token | exact h.turn | exact h.forward | exact h.unaddress
                                   | exact h.options | exact h.census | exact h.counters | exact h.complete
       · simp)
    | simp

theorem LaneFrame.refl (l : Lane) (x : LaneState) : LaneFrame A l x x := by constructor <;> simp

theorem modCensus_framed {l : Lane} (hA : A.part (.census l)) (g : Census → Census) (s : State) : Framed A s (modCensus l g s) :=
  setLane_framed { LaneFrame.refl l (s.lane l) with census := .inl hA }

theorem Move.framed {s t : State} (h : Move A s t) : Framed A s t := by
  have hr := Framed.refl (A := A) s
  cases h with
  | lane l y h => exact setLane_framed h.toLaneFrame
  | arm b h =>
    exact { hr with
      receiver := h.receiver, transmitter := h.transmitter, link := h.link, requests := h.requests, outbound := h.outbound, drops := h.drops,
      linkCounters := h.counters }
  | seq q h => exact { hr with cycle := h.cycle, trigger := h.trigger }
  | notices u h => exact { hr with queue := h.queue, masks := h.masks }
  | range r h => exact { hr with cursor := h.cursor, bounds := h.bounds }
  | roster r h => exact { hr with rosterSize := h.size, slot := fun j => (h.slot j).elim .inr fun x => .inl x.1 }
  | name slot e f n hA => exact setEntry_framed hA _ s
  | handOver l slot e f n hA hc => exact (modCensus_framed hc _ s).trans (setEntry_framed hA _ _)
  | carry l slot e x rest hA hc => exact (modCensus_framed hc _ s).trans (setEntry_framed hA _ _)
  | create l slot a f hA => exact setEntry_framed hA _ s
  | profiles p hA => exact { hr with profiles := .inl hA }
  | nameMap m hA => exact { hr with nameMap := .inl hA }
  | overTemp b hA => exact { hr with overTemp := .inl hA }
  | choices n hA => exact { hr with choices := .inl hA }

/-- What is out of scope, no chain of moves changes. -/
theorem Moves.framed {s t : State} (h : Moves A s t) : Framed A s t := by
  induction h with
  | refl => exact Framed.refl _
  | tail _ h ih => exact ih.trans h.framed

/-- A move that is none of the link, the transmitter or a request's taking puts frames behind those that wait, and none while the link is DOWN (R15). -/
theorem Move.places {s t : State} (h : Move A s t) (hl : ¬ A.part .link) (ht : ¬ A.part .transmitter) (hr : ¬ A.part .requests) :
    s.arm.outbound <+: t.arm.outbound ∧ (s.arm.linkUp = false → t.arm.outbound = s.arm.outbound) := by
  cases h with
  | arm b h => exact ((h.places.resolve_left hl).resolve_left ht).resolve_left hr
  | lane l y h => rw [setLane_arm]; exact ⟨List.prefix_rfl, fun _ => rfl⟩
  | handOver l slot e f n => rw [setEntry_arm, clearFind, modCensus_arm]; exact ⟨List.prefix_rfl, fun _ => rfl⟩
  | carry l slot e x rest => rw [setEntry_arm, takeInHand, modCensus_arm]; exact ⟨List.prefix_rfl, fun _ => rfl⟩
  | _ => exact ⟨List.prefix_rfl, fun _ => rfl⟩

theorem Moves.places {s t : State} (h : Moves A s t) (hl : ¬ A.part .link) (ht : ¬ A.part .transmitter) (hr : ¬ A.part .requests) :
    s.arm.outbound <+: t.arm.outbound ∧ (s.arm.linkUp = false → t.arm.outbound = s.arm.outbound) := by
  induction h with
  | refl => exact ⟨List.prefix_rfl, fun _ => rfl⟩
  | tail hs h ih =>
    obtain ⟨h1, h2⟩ := h.places hl ht hr
    exact ⟨ih.1.trans h1, fun hdown => (h2 (((Moves.framed hs).link.resolve_left hl).1.trans hdown)).trans (ih.2 hdown)⟩

/-- A lane that is not LIVE and not complete stays so while its power stays (R137). -/
theorem Move.dark {s t : State} {l : Lane} (h : Move A s t) (hlive : (s.lane l).power.state ≠ .live) (hs : (s.lane l).complete = false) :
    (t.lane l).complete = false := by
  cases h with
  | lane k y h =>
    by_cases hk : l = k
    · subst hk
      rw [setLane_lane]
      exact h.dark hlive hs
    · cases l <;> cases k
      case a.a | b.b => exact absurd rfl hk
      all_goals exact hs
  | handOver k slot e f n => rw [setEntry_lane, clearFind, modCensus_lane_eq]; split <;> exact hs
  | carry k slot e x rest => rw [setEntry_lane, takeInHand, modCensus_lane_eq]; split <;> exact hs
  | _ => cases l <;> exact hs

theorem Moves.dark {s t : State} {l : Lane} (h : Moves A s t) (hp : ¬ A.part (.power l)) (hlive : (s.lane l).power.state ≠ .live)
    (hs : (s.lane l).complete = false) : (t.lane l).complete = false := by
  induction h with
  | refl => exact hs
  | tail hmoves h ih => exact h.dark (by rwa [((Moves.framed hmoves).power l).resolve_left hp]) ih

end

end Sys2Proof.Machine
end

section
/-! Which moves each shared operation is made of: naming, the roster, cycles, census runs, exchanges and grants. One lemma per operation, in the order of the
model. -/

namespace Sys2Proof.Machine

variable {A : Scope} {s : State} {l : Lane} {slot : Nat}

/-! ## Scopes of the shared operations -/

/-- What the evaluation of completeness can change. -/
structure Scope.Evals (A : Scope) : Prop where
  notices : A.part .notices
  complete : ∀ l, A.part (.complete l)

/-- What naming and completeness can change besides the slots they name. -/
structure Scope.Names (A : Scope) : Prop extends A.Evals where
  cursor : A.part .cursor

/-- What a cycle can change. -/
structure Scope.Cycles (A : Scope) : Prop where
  cycle : A.part .cycle
  outbound : A.part .outbound
  drops : A.part .drops

/-- What the start and the end of a run can change besides roster entries. -/
structure Scope.Runs (A : Scope) (l : Lane) : Prop extends A.Names, A.Cycles where
  census : A.part (.census l)
  unaddress : A.part (.unaddress l)
  forward : A.part (.forward l)

/-- What the walk of a run can change, on a lane where devices may come to be. -/
structure Scope.Walks (A : Scope) (l : Lane) : Prop extends A.Runs l where
  counters : A.part (.counters l)
  slots : ∀ j, A.part (.slot j)
  home : A.home l

/-- What the end of an exchange can change: its entry may stand on either lane. -/
structure Scope.Ends (A : Scope) (l : Lane) : Prop extends A.Walks l where
  exchange : A.part (.exchange l)
  token : A.part (.token l)
  runs : ∀ k, A.Runs k

/-! ## Single moves -/

theorem LaneMove.refl (l : Lane) (x : LaneState) : LaneMove A l x x :=
  { LaneFrame.refl l x with
    inFlight := .inl, runs := .inl, carried := fun _ h => h, work := fun h => h, queue := fun h => h, counts := fun h => h
    dark := fun _ h => h }

theorem ArmMove.refl (a : ArmLink) : ArmMove A a a := by constructor <;> simp

theorem Moves.one {t : State} (h : Move A s t) : Moves A s t := .single h

theorem modLane_moves {g : LaneState → LaneState} (h : LaneMove A l (s.lane l) (g (s.lane l))) : Moves A s (modLane l g s) := .one (.lane l _ h)

theorem modCensus_moves (hA : A.part (.census l)) (g : Census → Census)
    (hrun : (g (s.lane l).census).run ≠ .idle → (s.lane l).census.run ≠ .idle ∨ A.home l := by exact .inl)
    (hcarried : ∀ n, (g (s.lane l).census).carriedName = some n → (s.lane l).census.carriedName = some n := by exact fun _ h => h)
    (hwork : WorkSound (s.lane l).census.work → WorkSound (g (s.lane l).census).work := by exact fun h => h) : Moves A s (modCensus l g s) :=
  modLane_moves (g := fun x => { x with census := g x.census })
    { LaneMove.refl l (s.lane l) with census := .inl hA, runs := hrun, carried := hcarried, work := hwork }

theorem modCounters_moves (hA : A.part (.counters l)) {g : LaneCounters → LaneCounters} (hg : ∀ c : LaneCounters, c.sound → (g c).sound) :
    Moves A s (modCounters l g s) :=
  modLane_moves (g := fun x => { x with counters := g x.counters }) { LaneMove.refl l (s.lane l) with counters := .inl hA, counts := hg _ }

theorem setUnaddress_moves (hA : A.part (.unaddress l)) (as : List Nat) : Moves A s (modLane l (fun x => { x with unaddress := as }) s) :=
  modLane_moves { LaneMove.refl l (s.lane l) with unaddress := .inl hA }

theorem setForward_moves (hA : A.part (.forward l)) {rs : List ForwardRecord}
    (h : (s.lane l).forward.length ≤ forwardCapacity → rs.length ≤ forwardCapacity) : Moves A s (modLane l (fun x => { x with forward := rs }) s) :=
  modLane_moves { LaneMove.refl l (s.lane l) with forward := .inl hA, queue := h }

theorem setExchange_moves (hA : A.part (.exchange l)) (x : Exchange) (h : (s.lane l).exch.isSome = true ∨ A.home l) :
    Moves A s (setExchange l x s) :=
  modLane_moves { LaneMove.refl l (s.lane l) with exchange := .inl hA, inFlight := fun _ => h }

theorem setRx_moves (hA : A.part (.exchange l)) (r : RxState) : Moves A s (setRx l r s) :=
  modLane_moves { LaneMove.refl l (s.lane l) with exchange := .inl hA }

theorem clearExchange_moves (hA : A.part (.exchange l)) : Moves A s (clearExchange l s) :=
  modLane_moves { LaneMove.refl l (s.lane l) with exchange := .inl hA, inFlight := fun h => by cases h }

theorem modSeq_moves (hA : A.part .cycle) {g : Sequencer → Sequencer} (h : (g s.seq).list.length = s.seq.list.length := by rfl)
    (htrigger : (g s.seq).source = s.seq.source ∧ (g s.seq).period = s.seq.period := by exact ⟨rfl, rfl⟩) : Moves A s (modSeq g s) :=
  .one (.seq _ ⟨.inl hA, .inr htrigger, h⟩)

theorem notify_moves (hA : A.part .notices) (n : Notice) (s : State) : Moves A s (notify n s) := by
  rw [notify_frame]
  exact .one (.notices _ ⟨.inl hA, .inr (notify_masks n s), notify_length⟩)

theorem countDrop_sound {c : LinkCounters} (h : c.sound) : { c with outboundDrops := addSat c.outboundDrops }.sound := by
  obtain ⟨h1, h2, h3, h4, h5, -⟩ := h
  exact ⟨h1, h2, h3, h4, h5, addSat_le _⟩

theorem offer_moves (hq : A.part .outbound) (hd : A.part .drops) (f : ArmFrame) (s : State) : Moves A s (offer f s) := by
  obtain ⟨hup, hroom, h⟩ | ⟨-, h⟩ := offer_cases f s
  · rw [h]
    exact .one (.arm _ { ArmMove.refl s.arm with
      outbound := .inl hq, queue := fun _ => by simpa using hroom
      places := .inr (.inr (.inr ⟨List.prefix_append .., fun hdown => absurd (hup.symm.trans hdown) nofun⟩)) })
  · rw [h]
    exact .one (.arm _ { ArmMove.refl s.arm with drops := .inl hd, counters := .inr rfl, counts := countDrop_sound })

/-! ## Slots of the roster -/

/-- A slot written with `none` or with the same device and name. -/
theorem setEntry_moves {e f : Entry} (hA : A.part (.slot slot)) (he : s.entry slot = some e) (hd : f.device = e.device := by rfl)
    (hn : f.name = e.name := by rfl) : Moves A s (setEntry slot (some f) s) := by
  refine .one (.roster _ ⟨by simp, fun j => ?_⟩)
  by_cases h : slot = j
  · subst h
    exact .inr ⟨hA, .inr ⟨e, f, he, entry_setEntry_same (slot_lt_of_entry he) _, hd, hn⟩⟩
  · exact .inl (entry_setEntry_ne h _)

theorem clearEntry_moves (hA : A.part (.slot slot)) (s : State) : Moves A s (setEntry slot none s) := by
  refine .one (.roster _ ⟨by simp, fun j => ?_⟩)
  by_cases h : slot = j
  · subst h
    by_cases hlt : slot < s.roster.length
    · exact .inr ⟨hA, .inl (entry_setEntry_same hlt _)⟩
    · exact .inl (by rw [entry_eq_none (by simpa using hlt), entry_eq_none (by simpa using hlt)])
  · exact .inl (entry_setEntry_ne h _)

theorem modEntry_moves {f : Entry → Entry} (hA : A.part (.slot slot)) (hd : ∀ e, (f e).device = e.device := by exact fun _ => rfl)
    (hn : ∀ e, (f e).name = e.name := by exact fun _ => rfl) (s : State) : Moves A s (modEntry slot f s) := by
  unfold modEntry
  split
  · next e he => exact setEntry_moves hA he (hd e) (hn e)
  · exact .refl s

theorem moveEntry_moves {f : Entry → Entry} (hA : A.part (.slot slot)) (hN : A.part .notices) (hd : ∀ e, (f e).device = e.device := by exact fun _ => rfl)
    (hn : ∀ e, (f e).name = e.name := by exact fun _ => rfl) (d : DeviceDetail) (c : DeviceCause) (s : State) : Moves A s (moveEntry slot f d c s) := by
  unfold moveEntry
  split
  · next e he => exact (setEntry_moves hA he (hd e) (hn e)).trans (notify_moves hN ..)
  · exact .refl s

theorem enterLive_moves (hA : A.part (.slot slot)) (hN : A.part .notices) (c : DeviceCause) (s : State) : Moves A s (enterLive slot c s) :=
  moveEntry_moves (f := Entry.toLive s.now) hA hN (fun _ => rfl) (fun _ => rfl) ..

theorem proveOrEcho_moves (hA : A.part (.slot slot)) (hN : A.part .notices) (c : DeviceCause) (s : State) : Moves A s (proveOrEcho slot c s) := by
  unfold proveOrEcho
  split
  · next e he =>
    split
    · exact enterLive_moves hA hN ..
    · exact setEntry_moves hA he
  · exact .refl s

theorem enterProving_moves (hA : A.part (.slot slot)) (hN : A.part .notices) (c : DeviceCause) (s : State) : Moves A s (enterProving slot c s) :=
  (moveEntry_moves (f := Entry.toProving c) hA hN (fun _ => rfl) (fun _ => rfl) ..).trans (proveOrEcho_moves hA hN ..)

theorem holdEntry_moves (hA : A.part (.slot slot)) (hN : A.part .notices) (w : HeldReason) (s : State) : Moves A s (holdEntry slot w s) := by
  unfold holdEntry
  split
  · next e he =>
    split
    · exact setEntry_moves hA he
    · exact moveEntry_moves (f := fun e => { e with state := .held, held := some w }) hA hN (fun _ => rfl) (fun _ => rfl) ..
  · exact .refl s

/-! ## Naming -/

theorem evalComplete_moves (hA : A.Evals) (l : Lane) (s : State) : Moves A s (evalComplete l s) := by
  obtain ⟨-, h⟩ | ⟨-, h⟩ := evalComplete_cases l s
  · rw [h]
  · rw [h]
    exact (modLane_moves (g := fun x => { x with complete := s.completeNow l })
      { LaneMove.refl l (s.lane l) with complete := .inl (hA.complete l), dark := fun hlive _ => by simp [State.completeNow, State.laneLive, hlive] }).trans
      (notify_moves hA.notices ..)

/-- A name that is not held stands in no entry and is not carried (R124). -/
theorem nameHeld_eq_false {s : State} {n : Nat} (h : s.nameHeld n = false) :
    (∀ j y, s.entry j = some y → y.name ≠ some n) ∧ ∀ l, s.carriedName l ≠ some n := by
  simp only [State.nameHeld, State.nameCarried, Bool.or_eq_false_iff, Option.isSome_eq_false_iff, Option.isNone_iff_eq_none, beq_eq_false_iff_ne] at h
  obtain ⟨hnamed, ha, hb⟩ := h
  refine ⟨fun j y hy hn => ?_, fun l => by cases l <;> assumption⟩
  simpa [hn] using findEntry_none hnamed hy

theorem mem_of_modelName {s : State} {xs : List (Nat × MapEntry)} {n i : Nat} (h : s.modelName xs = some (n, i)) :
    ∃ m, (i, m) ∈ xs ∧ s.freeInBlock m = some n := by
  induction xs with
  | nil => cases h
  | cons x rest ih =>
    obtain ⟨j, m⟩ := x
    simp only [State.modelName] at h
    split at h
    · next k hk =>
      cases h
      exact ⟨m, .head _, hk⟩
    · obtain ⟨m', hm, hf⟩ := ih h
      exact ⟨m', .tail _ hm, hf⟩

/-- A resolution gives a name that is not held, and keeps the cursor in the range (R127 to R129). -/
theorem resolve_named {s : State} {l : Lane} {f : Fingerprint} {n : Nat} {src : Provenance} {ref : Option Nat} {cursor : Nat}
    (h : s.resolve l f = .named n src ref cursor) :
    s.nameHeld n = false ∧ (s.range.Sound → { s.range with cursor := cursor : NameRange }.Sound) := by
  unfold State.resolve at h
  split at h
  · split at h
    · cases h
    · next hheld =>
      cases h
      exact ⟨by simpa using hheld, fun h => h⟩
  · unfold State.resolveUnpinned at h
    split at h
    · next hm =>
      cases h
      obtain ⟨m, -, hf⟩ := mem_of_modelName hm
      have := List.find?_some hf
      simp at this
      exact ⟨this.1, fun h => h⟩
    · split at h
      · next hp =>
        cases h
        have hfree := List.find?_some hp
        have hmem := List.mem_of_find?_eq_some hp
        simp at hfree
        simp only [NameRange.order, List.mem_append, List.mem_range'_1] at hmem
        refine ⟨hfree.1, fun ⟨h1, h2, h3, h4⟩ => ?_⟩
        unfold NameRange.cursorAfter NameRange.Sound
        dsimp only
        split <;> omega
      · cases h

theorem giveName_moves (hA : A.part (.slot slot)) {c : Carried} (hfree : ∀ j y, j ≠ slot → s.entry j = some y → y.name ≠ some c.name)
    (hcar : ∀ l, s.carriedName l ≠ some c.name) : Moves A s (giveName slot c s) := by
  unfold giveName modEntry
  split
  · next e he => exact .one (.name slot e _ c.name hA he rfl rfl hfree hcar)
  · exact .refl s

theorem notifyNamed_moves (hN : A.part .notices) (slot : Nat) (c : Carried) (s : State) : Moves A s (notifyNamed slot c s) := by
  unfold notifyNamed
  split
  · exact notify_moves hN ..
  · exact .refl s

theorem nameAndProve_moves (hA : A.Names) (hs : A.part (.slot slot)) (l : Lane) {c : Carried} (cause : DeviceCause) (hheld : s.nameHeld c.name = false) :
    Moves A s (nameAndProve slot l c cause s) := by
  obtain ⟨hfree, hcar⟩ := nameHeld_eq_false hheld
  exact (giveName_moves hs (fun j y _ => hfree j y) hcar).trans ((enterProving_moves hs hA.notices ..).trans
    ((notifyNamed_moves hA.notices ..).trans (evalComplete_moves hA.toEvals ..)))

theorem moveCursor_moves (hA : A.part .cursor) {cursor : Nat} (h : s.range.Sound → { s.range with cursor := cursor : NameRange }.Sound) :
    Moves A s { s with range := { s.range with cursor := cursor } } :=
  .one (.range { s.range with cursor := cursor } ⟨.inl hA, .inr ⟨rfl, rfl⟩, h⟩)

theorem resolveEntry_moves (hA : A.Names) (hs : A.part (.slot slot)) (cause : DeviceCause) (s : State) : Moves A s (resolveEntry slot cause s) := by
  unfold resolveEntry
  split
  · next e he =>
    split
    · next n src ref cursor hr =>
      obtain ⟨hheld, hsound⟩ := resolve_named hr
      exact (moveCursor_moves hA.cursor hsound).trans (nameAndProve_moves hA hs _ _ hheld)
    · exact (holdEntry_moves hs hA.notices ..).trans (evalComplete_moves hA.toEvals ..)
  · exact .refl s

/-- The slots whose HELD entries are resolved again are in scope, or come to be HELD only there. -/
theorem reresolveHeld_moves (hA : A.Names) (hs : ∀ j, s.slotHeld j = true → A.part (.slot j)) : Moves A s (reresolveHeld s) := by
  suffices h : ∀ (js : List Nat) (t : State), Moves A s t → Moves A s (js.foldl reresolveSlot t) from h _ s (.refl s)
  intro js
  induction js with
  | nil => exact fun t h => h
  | cons j js ih =>
    refine fun t h => ih _ (h.trans ?_)
    unfold reresolveSlot
    split
    · next hj =>
      refine resolveEntry_moves hA ?_ ..
      obtain hslot | hsame := h.framed.slot j
      · exact hslot
      · rw [State.slotHeld, hsame] at hj
        exact hs j hj
    · exact Moves.refl t

theorem removeEntry_moves (hA : A.Names) (hs : A.part (.slot slot)) (hheld : ∀ j, s.slotHeld j = true → A.part (.slot j)) (cause : DeviceCause) :
    Moves A s (removeEntry slot cause s) := by
  unfold removeEntry
  split
  · next e he =>
    refine (clearEntry_moves hs s).trans ((notify_moves hA.notices ..).trans (Relation.ReflTransGen.trans (reresolveHeld_moves hA fun j hj => ?_)
      ((evalComplete_moves hA.toEvals ..).trans (evalComplete_moves hA.toEvals ..))))
    by_cases h : slot = j
    · exact h ▸ hs
    · rw [State.slotHeld, notify_entry, entry_setEntry_ne h] at hj
      exact hheld j hj
  · exact .refl s

/-- Removing a lane's entries touches its slots and those of HELD entries. -/
theorem removeLane_moves (hA : A.Names) (hs : ∀ j e, s.entry j = some e → e.lane = l → A.part (.slot j))
    (hheld : ∀ j, s.slotHeld j = true → A.part (.slot j)) (cause : DeviceCause) : Moves A s (removeLane l cause s) := by
  suffices h : ∀ (js : List Nat) (t : State), Moves A s t → Moves A s (js.foldl (removeIfOn l cause) t) from h _ s (.refl s)
  intro js
  induction js with
  | nil => exact fun t h => h
  | cons j js ih =>
    refine fun t h => ih _ (h.trans ?_)
    unfold removeIfOn
    split
    · next e he =>
      split
      · next hl =>
        refine removeEntry_moves hA ((h.framed.slot j).elim id fun hsame => hs j e (hsame ▸ he) hl) (fun i hi => ?_) cause
        obtain hslot | hsame := h.framed.slot i
        · exact hslot
        · rw [State.slotHeld, hsame] at hi
          exact hheld i hi
      · exact Moves.refl t
    · exact Moves.refl t

/-! ## Cycles -/

theorem settle_moves (hA : A.part .cycle) (i : Nat) (o : CycleOutcome) (d : List Octet) (s : State) : Moves A s (settle i o d s) :=
  modSeq_moves (g := fun q => { q with run := q.run.map fun r => { r with positions := r.positions.set i (.done o d) } }) hA

theorem modCycleEntry_moves (hA : A.part .cycle) (i : Nat) (f : CycleEntry → CycleEntry) (s : State) : Moves A s (modCycleEntry i f s) :=
  modSeq_moves (g := fun q => { q with list := q.list.set i ((q.entry i).map f) }) hA (by simp)

theorem setCursor_moves (hA : A.part .cycle) (l : Lane) (c : Cursor) (s : State) : Moves A s (setCursor l c s) :=
  modSeq_moves (g := fun q => { q with run := q.run.map fun r => r.setCursor l c }) hA

theorem settleFresh_moves (hA : A.part .cycle) (i : Nat) (p : List Octet) (f : Fingerprint) (s : State) : Moves A s (settleFresh i p f s) :=
  (modCycleEntry_moves hA ..).trans (settle_moves hA ..)

theorem storeTest_moves (hA : A.part .cycle) (i : Nat) (f : Fingerprint) (s : State) : Moves A s (storeTest i f s) := by
  unfold storeTest
  split
  · split
    · exact settle_moves hA ..
    · exact (modCycleEntry_moves hA ..).trans (settle_moves hA ..)
  · exact settle_moves hA ..

theorem walkFrom_moves (hA : A.part .cycle) (l : Lane) (is : List Nat) (s : State) : Moves A s (walkFrom l is s) := by
  induction is generalizing s with
  | nil => exact setCursor_moves hA ..
  | cons i rest ih =>
    unfold walkFrom
    split
    · split
      · exact (settle_moves hA ..).trans (ih _)
      · split
        · exact (settle_moves hA ..).trans (ih _)
        · split
          · exact setCursor_moves hA ..
          · exact (storeTest_moves hA ..).trans (ih _)
    · exact ih s

theorem finishCycle_moves (hA : A.Cycles) (s : State) : Moves A s (finishCycle s) := by
  obtain h | ⟨r, -, h⟩ := finishCycle_cases s
  · rw [h]
  · rw [h]
    exact (modSeq_moves hA.cycle).trans (offer_moves hA.outbound hA.drops ..)

theorem walkOn_moves (hA : A.Cycles) (l : Lane) (i : Nat) (s : State) : Moves A s (walkOn l i s) :=
  (walkFrom_moves hA.cycle ..).trans (finishCycle_moves hA _)

theorem takeBackDue_moves (hA : A.Cycles) (l : Lane) (s : State) : Moves A s (takeBackDue l s) := by
  unfold takeBackDue
  split
  · exact walkOn_moves hA ..
  · exact .refl s

theorem giveBackDue_moves (hA : A.Cycles) (l : Lane) (d : Due) (s : State) : Moves A s (giveBackDue l d s) :=
  (storeTest_moves hA.cycle ..).trans (walkOn_moves hA ..)

theorem cycleOutcome_moves (hA : A.Cycles) (l : Lane) (i : Nat) (f : Fingerprint) (o : ExchangeOutcome) (p : List Octet) (s : State) :
    Moves A s (cycleOutcome l i f o p s) := by
  obtain ⟨-, h⟩ | ⟨-, h⟩ := cycleOutcome_cases l i f o p s
  · rw [h]
    exact (settleFresh_moves hA.cycle ..).trans (walkOn_moves hA ..)
  · rw [h]
    exact (storeTest_moves hA.cycle ..).trans (walkOn_moves hA ..)

theorem startCycle_moves (hA : A.Cycles) (s : State) : Moves A s (startCycle s) := by
  unfold startCycle
  exact (modSeq_moves hA.cycle).trans ((walkFrom_moves hA.cycle ..).trans ((walkFrom_moves hA.cycle ..).trans (finishCycle_moves hA _)))

theorem trigger_moves (hA : A.Cycles) (hN : A.part .notices) (t : Trigger) (s : State) : Moves A s (trigger t s) := by
  unfold trigger
  split
  · exact .refl s
  · exact startCycle_moves hA s
  · exact (modSeq_moves hA.cycle).trans (notify_moves hN ..)

theorem stopSequencer_moves (hA : A.part .cycle) (s : State) : Moves A s (stopSequencer s) := by
  unfold stopSequencer
  split
  · exact .refl s
  · exact modSeq_moves hA
  · exact modSeq_moves hA

/-! ## The census run -/

theorem offerAll_moves (hq : A.part .outbound) (hd : A.part .drops) (fs : List ArmFrame) (s : State) : Moves A s (offerAll fs s) := by
  unfold offerAll
  induction fs generalizing s with
  | nil => exact .refl s
  | cons f fs ih => exact (offer_moves hq hd f s).trans (ih _)

theorem refuseForward_moves (hf : A.part (.forward l)) (hq : A.part .outbound) (hd : A.part .drops) (why : Reason) (s : State) :
    Moves A s (refuseForward l why s) :=
  (setForward_moves hf fun _ => Nat.zero_le _).trans (offerAll_moves hq hd ..)

theorem setOffer_moves (hA : A.part (.census l)) (o : Option CensusOffer) (s : State) : Moves A s (setOffer l o s) := modCensus_moves hA _

theorem offerProbe_moves (hA : A.part (.census l)) (p : Prefix) (n : Nat) (ks : List Nat) (s : State) : Moves A s (offerProbe l p n ks s) :=
  modCensus_moves hA _

theorem offerOpening_moves (hA : A.part (.census l)) (s : State) : Moves A s (offerOpening l s) := by
  unfold offerOpening
  split
  · exact setOffer_moves hA ..
  · exact offerProbe_moves hA ..

/-- The first steps of a start, which the two modes share. -/
theorem started_moves (hA : A.Runs l) (hl : A.home l) (m : CensusMode) (s : State) :
    Moves A s (takeBackDue l (modCensus l (Census.started m) s)) :=
  (modCensus_moves hA.census _ (fun _ => .inr hl) (fun _ h => by cases h) (fun _ => ⟨by simp [Census.started], by simp [Census.started]⟩)).trans
    (takeBackDue_moves hA.toCycles ..)

/-- An ADDITIVE start takes the pending UNADDRESS items over (R69). -/
theorem takeOver_moves (hA : A.Runs l) (s : State) :
    Moves A s (modLane l (fun x => { x with census := { x.census with taken := x.unaddress }, unaddress := [] }) s) :=
  modLane_moves { LaneMove.refl l _ with unaddress := .inl hA.unaddress, census := .inl hA.census }

theorem startAdditive_moves (hA : A.Runs l) (hl : A.home l) (s : State) : Moves A s (startCensus l .additive s) := by
  refine (started_moves hA hl .additive s).trans ((refuseForward_moves hA.forward hA.outbound hA.drops .laneBusy _).trans
    ((takeOver_moves hA _).trans ((evalComplete_moves hA.toEvals ..).trans (offerOpening_moves hA.census _))))

theorem startFresh_moves (hA : A.Runs l) (hl : A.home l) (hs : ∀ j, A.part (.slot j)) (s : State) : Moves A s (startCensus l .fresh s) :=
  (started_moves hA hl .fresh s).trans (Relation.ReflTransGen.trans (removeLane_moves hA.toNames (fun j _ _ _ => hs j) (fun j _ => hs j) _)
    ((refuseForward_moves hA.forward hA.outbound hA.drops ..).trans ((setUnaddress_moves hA.unaddress _).trans
      ((evalComplete_moves hA.toEvals ..).trans (setOffer_moves hA.census ..)))))

theorem startCensus_moves (hA : A.Runs l) (hl : A.home l) (hs : ∀ j, A.part (.slot j)) (m : CensusMode) (s : State) : Moves A s (startCensus l m s) := by
  cases m
  · exact startFresh_moves hA hl hs s
  · exact startAdditive_moves hA hl s

theorem endCensus_moves (hN : A.Evals) (hc : A.part (.census l)) (hu : A.part (.unaddress l)) (o : CensusOutcome) (s : State) :
    Moves A s (endCensus l o s) := by
  refine Relation.ReflTransGen.trans ?_ ((notify_moves hN.notices ..).trans (evalComplete_moves hN ..))
  exact modLane_moves { LaneMove.refl l (s.lane l) with
    unaddress := .inl hu, census := .inl hc, runs := fun h => absurd rfl h, carried := fun _ h => by cases h
    work := fun _ => ⟨by simp [Census.ended], by simp [Census.ended]⟩ }

/-! ## Supervision -/

theorem recallCensus_moves (hA : A.Runs l) (hl : s.laneLive l = true → A.home l) : Moves A s (recallCensus l s) := by
  unfold recallCensus
  split
  · next h => exact startAdditive_moves hA (hl (by simp_all)) s
  · exact .refl s

theorem enterLost_moves (hA : A.Runs l) (hs : A.part (.slot slot)) (hl : s.laneLive l = true → A.home l) (c : DeviceCause) :
    Moves A s (enterLost slot l c s) := by
  refine (moveEntry_moves (f := Entry.toLost s.now) hs hA.notices (fun _ => rfl) (fun _ => rfl) ..).trans ((evalComplete_moves hA.toEvals ..).trans
    (recallCensus_moves hA fun h => hl ?_))
  rwa [((moveEntry_keepsPower ..).trans (evalComplete_keepsPower ..)).laneLive] at h

theorem enterSuspect_moves (hA : A.Names) (hs : A.part (.slot slot)) (l : Lane) (c : DeviceCause) (s : State) : Moves A s (enterSuspect slot l c s) :=
  (moveEntry_moves (f := fun e => { e with state := .suspect, fail := 1, silenceFrom := none, echo := true, checked := false }) hs hA.notices
    (fun _ => rfl) (fun _ => rfl) ..).trans (evalComplete_moves hA.toEvals ..)

theorem applyOk_moves (hA : A.Names) (hs : A.part (.slot slot)) {e : Entry} (he : s.entry slot = some e) : Moves A s (applyOk slot e s) := by
  unfold applyOk
  split
  · exact (setEntry_moves hs he).trans ((proveOrEcho_moves hs hA.notices ..).trans (evalComplete_moves hA.toEvals ..))
  · exact setEntry_moves hs he
  · exact (enterLive_moves hs hA.notices ..).trans (evalComplete_moves hA.toEvals ..)
  · exact (enterProving_moves hs hA.notices ..).trans (evalComplete_moves hA.toEvals ..)
  · exact .refl s
  · exact .refl s

theorem lostOrEcho_moves {e f : Entry} (hA : A.Runs f.lane) (hs : A.part (.slot slot)) (hl : ∀ l, s.laneLive l = true → A.home l)
    (he : s.entry slot = some e) (hd : f.device = e.device) (hn : f.name = e.name) (c : DeviceCause) : Moves A s (lostOrEcho slot f c s) := by
  unfold lostOrEcho
  split
  · exact (setEntry_moves hs he hd hn).trans (enterLost_moves hA hs (fun h => hl _ (by rwa [(setEntry_keepsPower ..).laneLive] at h)) c)
  · exact setEntry_moves hs he hd hn

theorem applyFailure_moves {e : Entry} (hA : A.Runs e.lane) (hs : A.part (.slot slot)) (hl : ∀ l, s.laneLive l = true → A.home l)
    (he : s.entry slot = some e) (o : ExchangeOutcome) : Moves A s (applyFailure slot e o s) := by
  have hreprove : Moves A s (evalComplete e.lane (enterProving slot .reprove s)) :=
    (enterProving_moves hs hA.notices ..).trans (evalComplete_moves hA.toEvals ..)
  unfold applyFailure
  split
  · refine lostOrEcho_moves ?_ hs hl he ?_ ?_ _
    · exact hA
    · rfl
    · rfl
  · split
    · exact hreprove
    · split
      · exact (setEntry_moves hs he).trans (enterLost_moves hA hs (fun h => hl _ (by rwa [(setEntry_keepsPower ..).laneLive] at h)) _)
      · exact enterSuspect_moves hA.toNames hs ..
  · split
    · exact hreprove
    · refine lostOrEcho_moves ?_ hs hl he ?_ ?_ _
      · exact hA
      · rfl
      · rfl
  all_goals exact .refl s

/-- The entry that a reference finds stands in its slot with its fingerprint and lane. -/
theorem referenced_eq_some {s : State} {r : EntryRef} {e : Entry} (h : s.referenced r = some e) :
    s.entry r.slot = some e ∧ e.fp = r.fp ∧ e.lane = r.lane := by
  unfold State.referenced at h
  split at h
  · next f hf =>
    split at h
    · next hr => cases h; exact ⟨hf, hr⟩
    · cases h
  · cases h

theorem applyOutcome_moves {r : EntryRef} (hA : A.Runs r.lane) (hs : A.part (.slot r.slot)) (hl : ∀ l, s.laneLive l = true → A.home l)
    (o : ExchangeOutcome) (st : Option Octet) : Moves A s (applyOutcome r o st s) := by
  unfold applyOutcome
  split
  · exact .refl s
  · next e he =>
    obtain ⟨hentry, -, hlane⟩ := referenced_eq_some he
    split
    · exact .refl s
    · split
      · exact .refl s
      · exact (setEntry_moves hs hentry).trans (applyOk_moves hA.toNames hs (entry_setEntry_same (slot_lt_of_entry hentry) _))
      · exact applyFailure_moves (hlane ▸ hA) hs hl hentry _
      · exact applyFailure_moves (hlane ▸ hA) hs hl hentry _

theorem silenceDue_moves (hs : A.part (.slot slot)) (s : State) : Moves A s (silenceDue slot s) := by
  obtain h | ⟨e, he, -, -, -, h⟩ := silenceDue_cases slot s
  · rw [h]
  · rw [h]
    exact setEntry_moves hs he

theorem recallDue_moves (hs : A.part (.slot slot)) (s : State) : Moves A s (recallDue slot s) := by
  unfold recallDue
  split
  · next e he =>
    split
    · exact setEntry_moves hs he
    · exact .refl s
  · exact .refl s

end Sys2Proof.Machine
end

section
/-! What moves keep: names and devices distinct (O59, O60), the bounds of O57, the sizes of the tables, and entries, runs and exchanges at home (O58). -/

namespace Sys2Proof.Machine

variable {A : Scope} {s t : State}

/-! ## Slots after a move -/

/-- What stands in a slot after a write was written there, or stood there before. -/
theorem entry_setEntry_some {slot j : Nat} {x : Option Entry} {f : Entry} (h : (setEntry slot x s).entry j = some f) :
    (j = slot ∧ x = some f) ∨ (j ≠ slot ∧ s.entry j = some f) := by
  by_cases hj : slot = j
  · subst hj
    have hlt := slot_lt_of_entry h
    rw [entry_setEntry_same (by simpa using hlt)] at h
    exact .inl ⟨rfl, h⟩
  · rw [entry_setEntry_ne hj] at h
    exact .inr ⟨Ne.symm hj, h⟩

@[simp] theorem setLane_entry (l : Lane) (y : LaneState) (s : State) (j : Nat) : (s.setLane l y).entry j = s.entry j := by cases l <;> rfl

@[simp] theorem modLane_entry (l : Lane) (g : LaneState → LaneState) (s : State) (j : Nat) : (modLane l g s).entry j = s.entry j := setLane_entry ..

@[simp] theorem modCensus_entry (l : Lane) (g : Census → Census) (s : State) (j : Nat) : (modCensus l g s).entry j = s.entry j := setLane_entry ..

@[simp] theorem setLane_carriedName (l k : Lane) (y : LaneState) (s : State) :
    (s.setLane l y).carriedName k = if k = l then y.census.carriedName else s.carriedName k := by cases l <;> cases k <;> rfl

theorem carriedName_eq (s : State) (l : Lane) : s.carriedName l = (s.lane l).census.carriedName := rfl

@[simp] theorem setEntry_carriedName (slot : Nat) (x : Option Entry) (s : State) (l : Lane) : (setEntry slot x s).carriedName l = s.carriedName l := by
  cases l <;> rfl

/-! ## Devices -/

/-- No slot holds a device that it did not hold before. -/
def NoNewDevice (s t : State) : Prop := ∀ j f, t.entry j = some f → ∃ e, s.entry j = some e ∧ f.device = e.device

theorem NoNewDevice.of_entries (h : ∀ j, t.entry j = s.entry j) : NoNewDevice s t := fun j f hf => ⟨f, h j ▸ hf, rfl⟩

theorem setEntry_noNewDevice {slot : Nat} {e f : Entry} (he : s.entry slot = some e) (hd : f.device = e.device) :
    NoNewDevice s (setEntry slot (some f) s) := by
  intro j g hg
  obtain ⟨rfl, hx⟩ | ⟨-, hx⟩ := entry_setEntry_some hg
  · cases hx
    exact ⟨e, he, hd⟩
  · exact ⟨g, hx, rfl⟩

/-- Devices come by creation alone, on a lane at home, at a free address. -/
theorem Move.devices (h : Move A s t) : NoNewDevice s t ∨ ∃ l slot a f, t = setEntry slot (some (.assigned l a f)) s ∧ A.home l ∧
    s.addressFree l a ∧ (A.apart → ∀ j e, s.entry j = some e → e.fp ≠ f) := by
  cases h with
  | lane l y => exact .inl (.of_entries (setLane_entry l y s))
  | roster r h =>
    refine .inl fun j f hf => ?_
    obtain hs | ⟨-, hn | ⟨e, g, he, hg, hd, -⟩⟩ := h.slot j
    · exact ⟨f, hs ▸ hf, rfl⟩
    · rw [hn] at hf
      cases hf
    · rw [hg] at hf
      cases hf
      exact ⟨e, he, hd⟩
  | name slot e f n hA he hd => exact .inl (setEntry_noNewDevice he hd)
  | handOver l slot e f n hA hc he hd => 
    have hs : NoNewDevice s (clearFind l s) := .of_entries fun j => by simp [clearFind]
    exact .inl fun j g hg => by
      obtain ⟨y, hy, hyd⟩ := setEntry_noNewDevice (s := clearFind l s) (by simpa [clearFind] using he) hd j g hg
      obtain ⟨z, hz, hzd⟩ := hs j y hy
      exact ⟨z, hz, hyd.trans hzd⟩
  | carry l slot e x rest hA hc he =>
    refine .inl fun j f hf => ?_
    obtain ⟨-, hx⟩ | ⟨-, hx⟩ := entry_setEntry_some hf
    · cases hx
    · exact ⟨f, by simpa [takeInHand] using hx, rfl⟩
  | create l slot a f hA hl he ha hf => exact .inr ⟨l, slot, a, f, rfl, hl, ha, hf⟩
  | arm | seq | notices | range | profiles | nameMap | overTemp | choices => exact .inl (.of_entries fun _ => rfl)

theorem NoNewDevice.devicesDistinct (h : NoNewDevice s t) (hs : s.DevicesDistinct) : t.DevicesDistinct := by
  refine ⟨fun i j e f he hf hfp => ?_, fun i j e f he hf hl ha => ?_, fun i e he => ?_⟩
  · obtain ⟨e', he', hd⟩ := h i e he
    obtain ⟨f', hf', hd'⟩ := h j f hf
    simp only [Entry.device, Prod.mk.injEq] at hd hd'
    exact hs.fingerprints i j e' f' he' hf' (by rw [← hd.2.2, hfp, hd'.2.2])
  · obtain ⟨e', he', hd⟩ := h i e he
    obtain ⟨f', hf', hd'⟩ := h j f hf
    simp only [Entry.device, Prod.mk.injEq] at hd hd'
    exact hs.addresses i j e' f' he' hf' (by rw [← hd.1, hl, hd'.1]) (by rw [← hd.2.1, ha, hd'.2.1])
  · obtain ⟨e', he', hd⟩ := h i e he
    simp only [Entry.device, Prod.mk.injEq] at hd
    rw [hd.2.1]
    exact hs.range i e' he'

/-- A new device of its own fingerprint at a free address keeps the devices distinct. -/
theorem create_devicesDistinct {l : Lane} {slot a : Nat} {f : Fingerprint} (ha : s.addressFree l a) (hf : ∀ j e, s.entry j = some e → e.fp ≠ f)
    (hs : s.DevicesDistinct) : (setEntry slot (some (.assigned l a f)) s).DevicesDistinct := by
  obtain ⟨h1, h2, hfree⟩ := ha
  refine ⟨fun i j x y hx hy hfp => ?_, fun i j x y hx hy hl ha => ?_, fun i x hx => ?_⟩
  · obtain ⟨hi, hx⟩ | ⟨-, hx⟩ := entry_setEntry_some hx <;> obtain ⟨hj, hy⟩ | ⟨-, hy⟩ := entry_setEntry_some hy
    · rw [hi, hj]
    · cases hx
      exact absurd hfp.symm (hf j y hy)
    · cases hy
      exact absurd hfp (hf i x hx)
    · exact hs.fingerprints i j x y hx hy hfp
  · obtain ⟨hi, hx⟩ | ⟨-, hx⟩ := entry_setEntry_some hx <;> obtain ⟨hj, hy⟩ | ⟨-, hy⟩ := entry_setEntry_some hy
    · rw [hi, hj]
    · cases hx
      exact absurd ha.symm (hfree j y hy hl.symm)
    · cases hy
      exact absurd ha (hfree i x hx hl)
    · exact hs.addresses i j x y hx hy hl ha
  · obtain ⟨-, hx⟩ | ⟨-, hx⟩ := entry_setEntry_some hx
    · cases hx
      exact ⟨h1, h2⟩
    · exact hs.range i x hx

/-- Where the fingerprints are known apart, moves keep the devices distinct (R81, R85, R94). -/
theorem Moves.devicesDistinct (h : Moves A s t) (hA : A.apart) (hs : s.DevicesDistinct) : t.DevicesDistinct := by
  induction h with
  | refl => exact hs
  | tail _ h ih =>
    obtain hn | ⟨l, slot, a, f, rfl, -, ha, hf⟩ := h.devices
    · exact hn.devicesDistinct ih
    · exact create_devicesDistinct ha (hf hA) ih

/-! ## Names -/

/-- No name has come to a new holder. -/
structure NoNewName (s t : State) : Prop where
  entry : ∀ j f n, t.entry j = some f → f.name = some n → ∃ e, s.entry j = some e ∧ e.name = some n
  carried : ∀ l n, t.carriedName l = some n → s.carriedName l = some n

theorem NoNewName.namesDistinct (h : NoNewName s t) (hs : s.NamesDistinct) : t.NamesDistinct := by
  refine ⟨fun i j e f n he hf hne hnf => ?_, fun i e l n he hc hne => ?_, fun n ha hb => ?_⟩
  · obtain ⟨e', he', hn⟩ := h.entry i e n he hne
    obtain ⟨f', hf', hn'⟩ := h.entry j f n hf hnf
    exact hs.entries i j e' f' n he' hf' hn hn'
  · obtain ⟨e', he', hn⟩ := h.entry i e n he hne
    exact hs.carried i e' l n he' (h.carried l n hc) hn
  · exact hs.lanes n (h.carried .a n ha) (h.carried .b n hb)

theorem NoNewName.of_eq (he : ∀ j, t.entry j = s.entry j) (hc : ∀ l, t.carriedName l = s.carriedName l) : NoNewName s t :=
  ⟨fun j f _ hf hn => ⟨f, he j ▸ hf, hn⟩, fun l _ h => hc l ▸ h⟩

/-- A slot that takes a name nobody else holds keeps the names distinct. -/
theorem name_namesDistinct {slot n : Nat} {f : Entry} (hn : f.name = some n) (hfree : ∀ j y, j ≠ slot → s.entry j = some y → y.name ≠ some n)
    (hcar : ∀ l, s.carriedName l ≠ some n) (hs : s.NamesDistinct) : (setEntry slot (some f) s).NamesDistinct := by
  refine ⟨fun i j x y m hx hy hnx hny => ?_, fun i x l m hx hc hnx => ?_, fun m ha hb => ?_⟩
  · obtain ⟨hi, hx⟩ | ⟨hi, hx⟩ := entry_setEntry_some hx <;> obtain ⟨hj, hy⟩ | ⟨hj, hy⟩ := entry_setEntry_some hy
    · rw [hi, hj]
    · cases hx
      rw [hn] at hnx
      cases hnx
      exact absurd hny (hfree j y hj hy)
    · cases hy
      rw [hn] at hny
      cases hny
      exact absurd hnx (hfree i x hi hx)
    · exact hs.entries i j x y m hx hy hnx hny
  · rw [setEntry_carriedName] at hc
    obtain ⟨-, hx⟩ | ⟨-, hx⟩ := entry_setEntry_some hx
    · cases hx
      rw [hn] at hnx
      cases hnx
      exact hcar l hc
    · exact hs.carried i x l m hx hc hnx
  · rw [setEntry_carriedName] at ha hb
    exact hs.lanes m ha hb

theorem clearFind_noNewName (l : Lane) (s : State) : NoNewName s (clearFind l s) := by
  refine ⟨fun j f _ hf hn => ⟨f, by simpa [clearFind] using hf, hn⟩, fun k _ h => ?_⟩
  rw [carriedName_eq, clearFind, modCensus_lane_eq] at h
  split at h
  · cases h
  · exact h

theorem clearFind_carriedName (l : Lane) (s : State) (k : Lane) : (clearFind l s).carriedName k = if k = l then none else s.carriedName k := by
  cases l <;> cases k <;> rfl

/-- Two lanes carry two names, in whichever order they are named. -/
theorem State.NamesDistinct.carried_ne (hs : s.NamesDistinct) {l k : Lane} (h : k ≠ l) {n : Nat} (hl : s.carriedName l = some n) :
    s.carriedName k ≠ some n := by
  cases l <;> cases k <;> try contradiction
  · exact hs.lanes n hl
  · exact fun hk => hs.lanes n hk hl

theorem handOver_namesDistinct {l : Lane} {slot n : Nat} {f : Entry} (hn : f.name = some n) (hcar : s.carriedName l = some n) (hs : s.NamesDistinct) :
    (setEntry slot (some f) (clearFind l s)).NamesDistinct := by
  refine name_namesDistinct hn (fun j y _ hy => ?_) (fun k hk => ?_) ((clearFind_noNewName l s).namesDistinct hs)
  · exact hs.carried j y l n (by simpa [clearFind] using hy) hcar
  · rw [clearFind_carriedName] at hk
    split at hk
    · cases hk
    · next hkl => exact hs.carried_ne hkl hcar hk

theorem takeInHand_carriedName (l : Lane) (x : Find) (rest : List Fingerprint) (s : State) (k : Lane) :
    (takeInHand l x rest s).carriedName k = if k = l then x.carried.map Carried.name else s.carriedName k := by cases l <;> cases k <;> rfl

/-- The name that a find carries out of the roster has the find as its one holder. -/
theorem carry_namesDistinct {l : Lane} {slot : Nat} {e : Entry} {x : Find} {rest : List Fingerprint} (he : s.entry slot = some e)
    (hn : ∀ n, x.carried.map Carried.name = some n → e.name = some n) (hs : s.NamesDistinct) :
    (setEntry slot none (takeInHand l x rest s)).NamesDistinct := by
  have hentry {j : Nat} {y : Entry} (hy : (setEntry slot none (takeInHand l x rest s)).entry j = some y) : j ≠ slot ∧ s.entry j = some y := by
    obtain ⟨-, hx⟩ | ⟨hj, hx⟩ := entry_setEntry_some hy
    · cases hx
    · exact ⟨hj, by simpa [takeInHand] using hx⟩
  have hother {k : Lane} {m : Nat} (hk : k ≠ l) (hc : s.carriedName k = some m) : x.carried.map Carried.name ≠ some m :=
    fun hx => hs.carried slot e k m he hc (hn m hx)
  refine ⟨fun i j y z m hy hz hny hnz => ?_, fun i y k m hy hc hny => ?_, fun m ha hb => ?_⟩
  · exact hs.entries i j y z m (hentry hy).2 (hentry hz).2 hny hnz
  · obtain ⟨hi, hy⟩ := hentry hy
    rw [setEntry_carriedName, takeInHand_carriedName] at hc
    split at hc
    · exact hi (hs.entries i slot y e m hy he hny (hn m hc))
    · exact hs.carried i y k m hy hc hny
  · rw [setEntry_carriedName, takeInHand_carriedName] at ha hb
    cases l
    · exact hother (k := .b) (by simp) (by simpa using hb) (by simpa using ha)
    · exact hother (k := .a) (by simp) (by simpa using ha) (by simpa using hb)

theorem Move.namesDistinct (h : Move A s t) (hs : s.NamesDistinct) : t.NamesDistinct := by
  have hsame {u : State} (he : u.roster = s.roster) (ha : u.laneA = s.laneA) (hb : u.laneB = s.laneB) : u.NamesDistinct :=
    (NoNewName.of_eq (fun j => by rw [State.entry, he]; rfl)
      (fun l => by cases l <;> simp only [State.carriedName, lane_a, lane_b, ha, hb])).namesDistinct hs
  cases h with
  | lane l y h =>
    refine (NoNewName.mk (fun j f n hf hn => ⟨f, by simpa using hf, hn⟩) fun k n hk => ?_).namesDistinct hs
    rw [setLane_carriedName] at hk
    split at hk
    · next e => subst e; exact h.carried n hk
    · exact hk
  | roster r h =>
    refine (NoNewName.mk (fun j f n hf hn => ?_) fun l _ h => by cases l <;> exact h).namesDistinct hs
    obtain hs | ⟨-, hnone | ⟨e, g, he, hg, -, hname⟩⟩ := h.slot j
    · exact ⟨f, hs ▸ hf, hn⟩
    · rw [hnone] at hf
      cases hf
    · rw [hg] at hf
      cases hf
      exact ⟨e, he, hname ▸ hn⟩
  | name slot e f n hA he hd hn hfree hcar => exact name_namesDistinct hn hfree hcar hs
  | handOver l slot e f n hA hc he hd hn hcar => exact handOver_namesDistinct hn hcar hs
  | carry l slot e x rest hA hc he hn => exact carry_namesDistinct he hn hs
  | create l slot a f hA hl he =>
    refine (NoNewName.mk (fun j g n hg hn => ?_) fun k _ h => by rwa [setEntry_carriedName] at h).namesDistinct hs
    obtain ⟨-, hx⟩ | ⟨-, hx⟩ := entry_setEntry_some hg
    · cases hx
      cases hn
    · exact ⟨g, hx, hn⟩
  | arm | seq | notices | range | profiles | nameMap | overTemp | choices => exact hsame rfl rfl rfl

/-- No chain of moves gives one name to two holders (R124). -/
theorem Moves.namesDistinct (h : Moves A s t) (hs : s.NamesDistinct) : t.NamesDistinct := by
  induction h with
  | refl => exact hs
  | tail _ h ih => exact h.namesDistinct ih

/-! ## Queues, counters, the range, work lists and tables -/

/-- What holds of both lanes holds of them after one is set to a state of which it holds. -/
theorem setLane_all {P : Lane → LaneState → Prop} {l : Lane} {y : LaneState} (hs : ∀ k, P k (s.lane k)) (hy : P l y) (k : Lane) :
    P k ((s.setLane l y).lane k) := by
  by_cases hk : k = l
  · subst hk
    rwa [setLane_lane]
  · obtain rfl : k = otherLane l := by cases l <;> cases k <;> first | rfl | contradiction
    rw [setLane_lane_other]
    exact hs _

/-- What moves keep, whatever their scope: each of these once it holds. -/
structure Bounded (s t : State) : Prop where
  counters : s.countersSound → t.countersSound
  queues : s.queuesSound → t.queuesSound
  range : s.rangeSound → t.rangeSound
  work : (∀ l, s.workSound l) → ∀ l, t.workSound l
  tables : s.tablesSound → t.tablesSound

theorem Bounded.trans {u : State} (h : Bounded s t) (k : Bounded t u) : Bounded s u :=
  ⟨k.counters ∘ h.counters, k.queues ∘ h.queues, k.range ∘ h.range, k.work ∘ h.work, k.tables ∘ h.tables⟩

theorem Bounded.refl (s : State) : Bounded s s := ⟨id, id, id, id, id⟩

theorem setEntry_bounded (slot : Nat) (x : Option Entry) (s : State) : Bounded s (setEntry slot x s) :=
  ⟨id, id, id, id, fun ⟨h1, h2, h3, h4⟩ => ⟨h1, by simpa using h2, h3, h4⟩⟩

theorem setLane_bounded {l : Lane} {y : LaneState} (h : LaneMove A l (s.lane l) y) : Bounded s (s.setLane l y) := by
  refine ⟨fun ⟨ha, hl⟩ => ?_, fun ⟨h1, h2, h3, h4⟩ => ?_, fun hr => ?_, fun hw => ?_, fun ht => ?_⟩
  · exact ⟨by simpa using ha, setLane_all (P := fun _ x => x.counters.sound) hl (h.counts (hl l))⟩
  · exact ⟨by simpa using h1, by simpa using h2, setLane_all (P := fun _ x => x.forward.length ≤ forwardCapacity) h3 (h.queue (h3 l)), by simpa using h4⟩
  · simpa [State.rangeSound] using hr
  · exact setLane_all (P := fun _ x => WorkSound x.census.work) hw (h.work (hw l))
  · simpa [State.tablesSound] using ht

theorem modCensus_bounded {l : Lane} {g : Census → Census} (h : (g (s.lane l).census).work = (s.lane l).census.work) : Bounded s (modCensus l g s) := by
  refine ⟨fun ⟨ha, hl⟩ => ?_, fun ⟨h1, h2, h3, h4⟩ => ?_, fun hr => ?_, fun hw => ?_, fun ht => ?_⟩
  · exact ⟨by simpa using ha, setLane_all (P := fun _ x => x.counters.sound) hl (hl l)⟩
  · exact ⟨by simpa using h1, by simpa using h2, setLane_all (P := fun _ x => x.forward.length ≤ forwardCapacity) h3 (h3 l), by simpa using h4⟩
  · simpa [State.rangeSound] using hr
  · exact setLane_all (P := fun _ x => WorkSound x.census.work) hw (by rw [h]; exact hw l)
  · simpa [State.tablesSound] using ht

theorem Move.bounded (h : Move A s t) : Bounded s t := by
  cases h with
  | lane l y h => exact setLane_bounded h
  | arm b h => exact ⟨fun ⟨ha, hl⟩ => ⟨h.counts ha, hl⟩, fun ⟨h1, h2, h3, h4⟩ => ⟨h.waiting h1, h.queue h2, h3, h4⟩, id, id, id⟩
  | seq q h => exact ⟨id, id, id, id, fun ⟨h1, h2, h3, h4⟩ => ⟨h1, h2, h3, h.size.trans h4⟩⟩
  | notices u h => exact ⟨id, fun ⟨h1, h2, h3, h4⟩ => ⟨h1, h2, h3, h.size h4⟩, id, id, id⟩
  | range r h => exact ⟨id, id, h.sound, id, id⟩
  | roster r h => exact ⟨id, id, id, id, fun ⟨h1, h2, h3, h4⟩ => ⟨h1, h.size.trans h2, h3, h4⟩⟩
  | name slot e f => exact setEntry_bounded ..
  | handOver l slot e f => exact (modCensus_bounded rfl).trans (setEntry_bounded ..)
  | carry l slot e x rest => exact (modCensus_bounded rfl).trans (setEntry_bounded ..)
  | create l slot a f => exact setEntry_bounded ..
  | profiles p hA h => exact ⟨id, id, id, id, fun ⟨h1, h2, h3, h4⟩ => ⟨h.trans h1, h2, h3, h4⟩⟩
  | nameMap m hA h => exact ⟨id, id, id, id, fun ⟨h1, h2, h3, h4⟩ => ⟨h1, h2, h.trans h3, h4⟩⟩
  | overTemp | choices => exact ⟨id, id, id, id, id⟩

/-- No chain of moves overfills a queue, a counter, the range or a work list, or changes the size of a table (O57). -/
theorem Moves.bounded (h : Moves A s t) : Bounded s t := by
  induction h with
  | refl => exact .refl _
  | tail _ h ih => exact ih.trans h.bounded

/-! ## Entries, runs and exchanges at home -/

/-- Entries stand on the lanes of `P` alone, runs go on those of `Q`, exchanges are in flight on those of `R`. -/
structure Housed (P Q R : Lane → Prop) (s : State) : Prop where
  entries : ∀ j e, s.entry j = some e → P e.lane
  runs : ∀ l, (s.lane l).census.run ≠ .idle → Q l
  inFlight : ∀ l, (s.lane l).exch.isSome = true → R l

variable {P Q R : Lane → Prop}

theorem NoNewDevice.housed (h : NoNewDevice s t) (hs : Housed P Q R s)
    (hl : ∀ l, (t.lane l).census.run = (s.lane l).census.run ∧ (t.lane l).exch = (s.lane l).exch) : Housed P Q R t := by
  refine ⟨fun j f hf => ?_, fun l hr => hs.runs l ((hl l).1 ▸ hr), fun l hx => hs.inFlight l ((hl l).2 ▸ hx)⟩
  obtain ⟨e, he, hd⟩ := h j f hf
  simp only [Entry.device, Prod.mk.injEq] at hd
  rw [hd.1]
  exact hs.entries j e he

theorem modCensus_sameRuns {l : Lane} {g : Census → Census} (h : ∀ c, (g c).run = c.run) (s : State) (k : Lane) :
    ((modCensus l g s).lane k).census.run = (s.lane k).census.run ∧ ((modCensus l g s).lane k).exch = (s.lane k).exch := by
  rw [modCensus_lane_eq]
  split
  · next e => subst e; exact ⟨h _, rfl⟩
  · exact ⟨rfl, rfl⟩

theorem Move.housed (h : Move A s t) (hP : ∀ l, A.home l → P l) (hQ : ∀ l, A.home l → Q l) (hR : ∀ l, A.home l → R l) (hs : Housed P Q R s) :
    Housed P Q R t := by
  obtain hn | ⟨l, slot, a, f, rfl, hl, -, -⟩ := h.devices
  · cases h with
    | lane l y h =>
      refine ⟨fun j f hf => hs.entries j f (by simpa using hf), ?_, ?_⟩
      · exact setLane_all (P := fun k x => x.census.run ≠ .idle → Q k) hs.runs fun hr => (h.runs hr).elim (hs.runs l) (hQ l)
      · exact setLane_all (P := fun k x => x.exch.isSome = true → R k) hs.inFlight fun hx => (h.inFlight hx).elim (hs.inFlight l) (hR l)
    | handOver l slot e f =>
      exact hn.housed hs fun k => by simpa [clearFind] using modCensus_sameRuns (g := fun c => { c with find := none }) (fun _ => rfl) s k
    | carry l slot e x rest =>
      exact hn.housed hs fun k => by
        simpa [takeInHand] using modCensus_sameRuns (g := fun c => { c with find := some x, hand := _ }) (fun _ => rfl) s k
    | name slot e f | create l slot a f => exact hn.housed hs fun k => by simp
    | arm | seq | notices | range | roster | profiles | nameMap | overTemp | choices =>
      exact hn.housed hs fun l => by cases l <;> exact ⟨rfl, rfl⟩
  · refine ⟨fun j e he => ?_, fun k hr => hs.runs k (by simpa using hr), fun k hx => hs.inFlight k (by simpa using hx)⟩
    obtain ⟨-, hx⟩ | ⟨-, hx⟩ := entry_setEntry_some he
    · cases hx
      exact hP l hl
    · exact hs.entries j e hx

/-- Moves bring entries, runs and exchanges to the lanes of their home alone. -/
theorem Moves.housed (h : Moves A s t) (hP : ∀ l, A.home l → P l) (hQ : ∀ l, A.home l → Q l) (hR : ∀ l, A.home l → R l) (hs : Housed P Q R s) :
    Housed P Q R t := by
  induction h with
  | refl => exact hs
  | tail _ h ih => exact h.housed hP hQ hR ih

end Sys2Proof.Machine
end

section
/-! Which moves the walk of a census, the ends of exchanges and the grants are made of. -/

namespace Sys2Proof.Machine

variable {A : Scope} {s : State} {l : Lane} {slot : Nat}

/-! ## The walk -/

theorem nextRecord_moves (hA : A.Runs l) (s : State) : Moves A s (nextRecord l s) := by
  unfold nextRecord
  split
  · next p rest hw =>
    refine (modCensus_moves hA.census _ .inl (fun _ h => h) fun ⟨hlen, hdepth⟩ => ?_).trans (offerProbe_moves hA.census ..)
    rw [hw] at hlen hdepth
    exact ⟨Nat.le_of_succ_le hlen, fun q hq => hdepth q (.tail _ hq)⟩
  · split
    · exact (modCensus_moves hA.census _).trans (offerProbe_moves hA.census ..)
    · exact endCensus_moves hA.toEvals hA.census hA.unaddress ..

theorem countDuplicate_moves (hA : A.part (.counters l)) (s : State) : Moves A s (countDuplicate l s) :=
  modCounters_moves hA fun _ ⟨h1, h2, h3, h4, h5, h6, _⟩ => ⟨h1, h2, h3, h4, h5, h6, addSat_le _⟩

theorem declareDuplicate_moves (hA : A.Walks l) (f : Fingerprint) (x : Bool) (s : State) : Moves A s (declareDuplicate l f x s) :=
  (modCensus_moves hA.census fun c => { c with dups := min 255 (c.dups + 1) }).trans
    ((countDuplicate_moves hA.counters _).trans (notify_moves hA.notices ..))

theorem declareOpen_moves (hA : A.Walks l) (h : ProbeInHand) (s : State) : Moves A s (declareOpen l h s) := by
  unfold declareOpen
  induction h.openSlots generalizing s with
  | nil => exact Moves.refl s
  | cons k ks ih => exact (declareDuplicate_moves hA ..).trans (ih _)

theorem pushChildren_moves (hA : A.Runs l) {p : Prefix} (hp : p.depth < maxDepth) (ks : List Nat) (s : State) : Moves A s (pushChildren l p ks s) := by
  unfold pushChildren
  split
  · next hroom =>
    refine (modCensus_moves hA.census _ .inl (fun _ h => h) fun ⟨_, hdepth⟩ => ⟨?_, fun q hq => ?_⟩).trans (nextRecord_moves hA _)
    · simp [workCapacity] at hroom ⊢
      omega
    · obtain hq | hq := List.mem_append.mp hq
      · obtain ⟨k, -, rfl⟩ := List.mem_map.mp hq
        simp only [Prefix.child, maxDepth] at hp ⊢
        omega
      · exact hdepth q hq
  · exact endCensus_moves hA.toEvals hA.census hA.unaddress ..

theorem afterFinds_moves (hA : A.Walks l) (s : State) : Moves A s (afterFinds l s) := by
  unfold afterFinds
  split
  · exact nextRecord_moves hA.toRuns s
  · next h _ =>
    split
    · exact endCensus_moves hA.toEvals hA.census hA.unaddress ..
    · split
      · next hdepth => exact pushChildren_moves hA.toRuns hdepth ..
      · split
        · exact nextRecord_moves hA.toRuns s
        · split
          · exact (declareOpen_moves hA ..).trans (nextRecord_moves hA.toRuns _)
          · exact offerProbe_moves hA.census ..

/-! ## Finds -/

/-- A free slot that is found is free. -/
theorem entry_of_freeSlot {s : State} {slot : Nat} (h : s.freeSlot = some slot) : s.entry slot = none := by
  simpa using List.find?_some h

/-- A free address that is found is free. -/
theorem addressFree_of_freeAddress {s : State} {l : Lane} {a : Nat} (h : s.freeAddress l = some a) : s.addressFree l a := by
  have hmem := List.mem_of_find?_eq_some h
  have hfree := List.find?_some h
  rw [List.mem_range'_1] at hmem
  exact ⟨hmem.1, by omega, address_search.mp hfree⟩

theorem createEntry_moves (hA : A.Walks l) {f : Fingerprint} (hf : A.apart → ∀ j e, s.entry j = some e → e.fp ≠ f) : Moves A s (createEntry l f s) := by
  unfold createEntry
  split
  · next slot a hslot ha =>
    exact (Moves.one (.create l slot a f (hA.slots slot) hA.home (entry_of_freeSlot hslot) (addressFree_of_freeAddress ha) hf)).trans
      ((evalComplete_moves hA.toEvals ..).trans (setOffer_moves hA.census ..))
  · exact endCensus_moves hA.toEvals hA.census hA.unaddress ..

/-- A NEW find is one that no entry holds (R81). -/
theorem decideFind_new {s : State} {l : Lane} {f : Fingerprint} (h : s.decideFind l f = .new) : ∀ j e, s.entry j = some e → e.fp ≠ f := by
  unfold State.decideFind at h
  split at h
  · next hn => exact fun j e he => by simpa using findEntry_none hn he
  · split at h
    · cases h
    · split at h <;> cases h

/-- A MOVE is of a LOST entry of the other lane, whose census has not its rejoin in hand (R81). -/
theorem decideFind_move {s : State} {l : Lane} {f : Fingerprint} {slot : Nat} {e : Entry} (h : s.decideFind l f = .move slot e) :
    s.entry slot = some e ∧ e.fp = f ∧ e.lane ≠ l ∧ e.state = .lost ∧ s.rejoining (otherLane l) f = false := by
  unfold State.decideFind at h
  split at h
  · cases h
  · next hs =>
    obtain ⟨he, hfp⟩ := findEntry_some hs
    split at h
    · cases h
    · next hl =>
      split at h
      · next hlost =>
        cases h
        exact ⟨he, by simpa using hfp, hl, hlost⟩
      · cases h

/-- What an entry carries is its name (R83). -/
theorem carried_name {e : Entry} {n : Nat} (h : e.carried.map Carried.name = some n) : e.name = some n := by
  unfold Entry.carried at h
  split at h
  · next hn _ => rw [hn]; simpa using h
  · cases h

/-- After an entry is removed, its fingerprint stands nowhere, where it stood nowhere else. -/
theorem removeEntry_fresh {e : Entry} (he : s.entry slot = some e) (cause : DeviceCause) (hs : s.DevicesDistinct) :
    ∀ j y, (removeEntry slot cause s).entry j = some y → y.fp ≠ e.fp := by
  intro j y hy hfp
  obtain ⟨hslot, -, hdev, -⟩ := removeEntry_spec he cause
  by_cases hj : j = slot
  · rw [hj, hslot] at hy
    cases hy
  · have := hdev j hj
    rw [hy] at this
    obtain ⟨z, hz, hd⟩ := Option.map_eq_some_iff.mp this.symm
    simp only [Entry.device, Prod.mk.injEq] at hd
    exact hj (hs.fingerprints j slot z e hz he (hd.2.2.trans hfp))

theorem takeInHand_moves (hA : A.part (.census l)) {x : Find} (hx : x.carried = none) (rest : List Fingerprint) (s : State) :
    Moves A s (takeInHand l x rest s) :=
  modCensus_moves hA _ .inl fun n h => by simp [Census.carriedName, hx] at h

/-- A MOVE takes the name of the entry that it removes (R83). -/
theorem carryOut_moves (hA : A.Walks l) {e : Entry} (he : s.entry slot = some e) (f : Fingerprint) (rest : List Fingerprint) :
    Moves A s (removeEntry slot .moved (takeInHand l ⟨f, .move, e.carried⟩ rest s)) := by
  have he' : (takeInHand l ⟨f, .move, e.carried⟩ rest s).entry slot = some e := by simpa [takeInHand] using he
  rw [removeEntry, he']
  exact (Moves.one (.carry l slot e ⟨f, .move, e.carried⟩ rest (hA.slots slot) hA.census he fun _ => carried_name)).trans
    ((notify_moves hA.notices ..).trans (Relation.ReflTransGen.trans (reresolveHeld_moves hA.toNames fun j _ => hA.slots j)
      ((evalComplete_moves hA.toEvals ..).trans (evalComplete_moves hA.toEvals ..))))

theorem takeInHand_devicesDistinct {x : Find} {rest : List Fingerprint} (h : s.DevicesDistinct) : (takeInHand l x rest s).DevicesDistinct :=
  (NoNewDevice.of_entries fun j => by simp [takeInHand]).devicesDistinct h

theorem takeFinds_moves (hA : A.Walks l) (fs : List Fingerprint) (s : State) (hd : A.apart → s.DevicesDistinct) : Moves A s (takeFinds l fs s) := by
  induction fs generalizing s with
  | nil => exact afterFinds_moves hA s
  | cons f rest ih =>
    unfold takeFinds
    split
    · exact (takeInHand_moves hA.census rfl rest s).trans (setOffer_moves hA.census ..)
    · next slot e hdec =>
      obtain ⟨he, hfp, -⟩ := decideFind_move hdec
      split
      · exact endCensus_moves hA.toEvals hA.census hA.unaddress ..
      · refine (carryOut_moves hA he f rest).trans (createEntry_moves hA fun ha j y hy => ?_)
        exact hfp ▸ removeEntry_fresh (by simpa [takeInHand] using he) .moved (takeInHand_devicesDistinct (hd ha)) j y hy
    · have hdup := declareDuplicate_moves hA f true s
      exact hdup.trans (ih _ fun ha => hdup.devicesDistinct ha (hd ha))
    · next hdec =>
      exact (takeInHand_moves hA.census rfl rest s).trans
        (createEntry_moves hA fun _ j e he => decideFind_new hdec j e (by simpa [takeInHand] using he))

/-! ## Outcomes of the run's exchanges -/

theorem continueRun_moves (hA : A.Walks l) (hd : A.apart → s.DevicesDistinct) : Moves A s (continueRun l s) := by
  unfold continueRun
  split
  · exact endCensus_moves hA.toEvals hA.census hA.unaddress ..
  · split
    · exact takeFinds_moves hA _ s hd
    · exact offerOpening_moves hA.census s

/-- A run that goes on after moves. -/
theorem Moves.continueRun {t : State} (h : Moves A s t) (hA : A.Walks l) (hd : A.apart → s.DevicesDistinct) : Moves A s (continueRun l t) :=
  h.trans (continueRun_moves hA fun ha => h.devicesDistinct ha (hd ha))

theorem clearFind_moves (hA : A.part (.census l)) (s : State) : Moves A s (clearFind l s) :=
  modCensus_moves hA _ .inl fun _ h => by cases h

theorem countFound_moves (hA : A.part (.census l)) (s : State) : Moves A s (countFound l s) := modCensus_moves hA fun c => { c with found := _ }

theorem markAssigned_moves (hA : A.part (.slot slot)) (s : State) : Moves A s (markAssigned slot s) :=
  modEntry_moves (f := fun e => { e with lastGood := some s.now }) hA (fun _ => rfl) (fun _ => rfl) s

theorem rejoinOk_moves (hA : A.Walks l) (slot : Nat) (e : Entry) (s : State) : Moves A s (rejoinOk l slot e s) := by
  unfold rejoinOk
  split
  · exact resolveEntry_moves hA.toNames (hA.slots slot) ..
  · exact (enterProving_moves (hA.slots slot) hA.notices ..).trans (evalComplete_moves hA.toEvals ..)

theorem rejoinFailed_moves (hA : A.Walks l) (slot : Nat) (e : Entry) (s : State) : Moves A s (rejoinFailed l slot e s) := by
  unfold rejoinFailed
  split
  · exact enterLost_moves hA.toRuns (hA.slots slot) (fun _ => hA.home) _
  · exact enterLost_moves hA.toRuns (hA.slots slot) (fun _ => hA.home) _
  · exact enterLost_moves hA.toRuns (hA.slots slot) (fun _ => hA.home) _
  all_goals exact Moves.refl s

/-! ### The find in hand is of no account to naming by a given name -/

@[simp] theorem clearFind_entry (l : Lane) (s : State) (j : Nat) : (clearFind l s).entry j = s.entry j := modCensus_entry ..

theorem notify_clearFind (l : Lane) (n : Notice) (s : State) : notify n (clearFind l s) = clearFind l (notify n s) := by
  simp only [notify, clearFind, modCensus_notices]
  split <;> cases l <;> rfl

theorem setEntry_clearFind (l : Lane) (slot : Nat) (x : Option Entry) (s : State) : setEntry slot x (clearFind l s) = clearFind l (setEntry slot x s) := by
  cases l <;> rfl

theorem moveEntry_clearFind (l : Lane) (slot : Nat) (f : Entry → Entry) (d : DeviceDetail) (c : DeviceCause) (s : State) :
    moveEntry slot f d c (clearFind l s) = clearFind l (moveEntry slot f d c s) := by
  unfold moveEntry
  rw [clearFind_entry]
  split
  · rw [setEntry_clearFind, notify_clearFind]
  · rfl

theorem proveOrEcho_clearFind (l : Lane) (slot : Nat) (c : DeviceCause) (s : State) :
    proveOrEcho slot c (clearFind l s) = clearFind l (proveOrEcho slot c s) := by
  have ht (e : Entry) : (clearFind l s).thresholdInUse e = s.thresholdInUse e := by
    obtain ⟨_, k, _⟩ := e
    cases l <;> cases k <;> rfl
  have hnow : (clearFind l s).now = s.now := by simp [clearFind]
  unfold proveOrEcho enterLive
  simp only [clearFind_entry, ht, hnow]
  split
  · split
    · exact moveEntry_clearFind ..
    · exact setEntry_clearFind ..
  · rfl

theorem notifyNamed_clearFind (l : Lane) (slot : Nat) (c : Carried) (s : State) :
    notifyNamed slot c (clearFind l s) = clearFind l (notifyNamed slot c s) := by
  unfold notifyNamed
  rw [clearFind_entry]
  split
  · exact notify_clearFind ..
  · rfl

theorem evalComplete_clearFind (l k : Lane) (s : State) : evalComplete k (clearFind l s) = clearFind l (evalComplete k s) := by
  have h1 : (clearFind l s).completeNow k = s.completeNow k := by cases l <;> cases k <;> rfl
  have h2 : (clearFind l s).unsatisfied k = s.unsatisfied k := by cases l <;> rfl
  have h3 : ((clearFind l s).lane k).complete = (s.lane k).complete := by cases l <;> cases k <;> rfl
  have h4 (b : Bool) : modLane k (fun x => { x with complete := b }) (clearFind l s) = clearFind l (modLane k (fun x => { x with complete := b }) s) := by
    cases l <;> cases k <;> rfl
  unfold evalComplete
  rw [h1, h2, h3, h4, notify_clearFind]
  split <;> rfl

theorem giveName_clearFind (l : Lane) (slot : Nat) (c : Carried) (s : State) : giveName slot c (clearFind l s) = clearFind l (giveName slot c s) := by
  unfold giveName modEntry
  rw [clearFind_entry]
  split
  · exact setEntry_clearFind ..
  · rfl

theorem nameAndProve_clearFind (l k : Lane) (slot : Nat) (c : Carried) (cause : DeviceCause) (s : State) :
    nameAndProve slot k c cause (clearFind l s) = clearFind l (nameAndProve slot k c cause s) := by
  unfold nameAndProve enterProving
  rw [giveName_clearFind, moveEntry_clearFind, proveOrEcho_clearFind, notifyNamed_clearFind, evalComplete_clearFind]

/-! ### ASSIGN -/

/-- A MOVE that ended OK hands its name to the new entry (R83, R86). -/
theorem handOver_moves (hA : A.Walks l) {e : Entry} {x : Find} {c : Carried} (he : s.entry slot = some e) (hx : (s.lane l).census.find = some x)
    (hc : x.carried = some c) : Moves A s (clearFind l (nameAndProve slot l c .moved s)) := by
  have hcar : s.carriedName l = some c.name := by simp [State.carriedName, hx, hc]
  rw [← nameAndProve_clearFind, nameAndProve]
  have hgive : Moves A s (giveName slot c (clearFind l s)) := by
    rw [giveName, modEntry, clearFind_entry, he]
    exact .one (.handOver l slot e { e with name := some c.name, source := some c.source, mapRef := c.mapRef, held := none } c.name (hA.slots slot)
      hA.census he rfl rfl hcar)
  exact hgive.trans ((enterProving_moves (hA.slots slot) hA.notices ..).trans ((notifyNamed_moves hA.notices ..).trans (evalComplete_moves hA.toEvals ..)))

theorem assignOk_moves (hA : A.Walks l) {e : Entry} {x : Find} (he : s.entry slot = some e) (hx : (s.lane l).census.find = some x) :
    Moves A s (clearFind l (assignOk l slot x s)) := by
  unfold assignOk
  split
  · next c hc => exact handOver_moves hA he hx hc
  · exact (resolveEntry_moves hA.toNames (hA.slots slot) ..).trans (clearFind_moves hA.census _)

theorem assignFailed_moves (hA : A.Walks l) (slot : Nat) (e : Entry) (o : ExchangeOutcome) (s : State) : Moves A s (assignFailed l slot e o s) :=
  (clearFind_moves hA.census s).trans ((removeEntry_moves hA.toNames (hA.slots slot) (fun j _ => hA.slots j) _).trans
    ((notify_moves hA.notices ..).trans (setOffer_moves hA.census ..)))

theorem assignOutcome_moves (hA : A.Walks l) (o : ExchangeOutcome) (hd : A.apart → s.DevicesDistinct) : Moves A s (assignOutcome l o s) := by
  unfold assignOutcome
  split
  · exact continueRun_moves hA hd
  · next x hx =>
    split
    · exact (clearFind_moves hA.census s).continueRun hA hd
    · next slot e hs =>
      obtain ⟨he, -⟩ := findEntry_some hs
      have hmark := (markAssigned_moves (hA.slots slot) s).trans (countFound_moves hA.census _)
      split
      · refine Moves.continueRun (Relation.ReflTransGen.trans ?_ (clearFind_moves hA.census _)) hA hd
        split
        · exact hmark.trans (rejoinOk_moves hA ..)
        · exact rejoinFailed_moves hA ..
      · split
        · refine Moves.continueRun (hmark.trans (assignOk_moves hA (e := { e with lastGood := some s.now }) ?_ ?_)) hA hd
          · simp [countFound, markAssigned, modEntry, he, entry_setEntry_same (slot_lt_of_entry he)]
          · simp [countFound, markAssigned, modEntry, he, hx]
        · exact assignFailed_moves hA ..

/-! ### PROBE and UNADDRESS -/

theorem countCollided_moves (hA : A.part (.counters l)) (s : State) : Moves A s (countCollided l s) :=
  modCounters_moves hA fun _ ⟨h1, h2, h3, h4, h5, _, h7⟩ => ⟨h1, h2, h3, h4, h5, addSat_le _, h7⟩

theorem countCollisions_moves (hA : A.part (.counters l)) (n : Nat) (s : State) : Moves A s (countCollisions l n s) := by
  unfold countCollisions
  induction n with
  | zero => exact Moves.refl s
  | succ n ih => exact ih.trans (countCollided_moves hA _)

theorem probeResult_moves (hA : A.Walks l) (g : Nat) (slots : List SlotObs) (hd : A.apart → s.DevicesDistinct) :
    Moves A s (probeResult l g slots s) := by
  unfold probeResult
  split
  · exact continueRun_moves hA hd
  · next h _ =>
    generalize h.looksAt.map (fun k => (k, classifySlot h.prefx g k (slots.getD k ⟨none, []⟩))) = cls
    have hcount := countCollisions_moves hA.counters ((cls.filter (fun x => x.2 == .collided)).map Prod.fst).length s
    refine hcount.trans ?_
    split
    · refine Relation.ReflTransGen.trans ?_ (endCensus_moves hA.toEvals hA.census hA.unaddress ..)
      unfold lastDuplicates
      split
      · exact declareOpen_moves hA ..
      · exact Moves.refl _
    · dsimp only
      split
      · exact endCensus_moves hA.toEvals hA.census hA.unaddress ..
      · have hand := modCensus_moves (s := countCollisions l ((cls.filter (fun x => x.2 == .collided)).map Prod.fst).length s) hA.census
          (fun c => { c with hand := some { h with
            openSlots := (cls.filter (fun x => x.2 == .collided)).map Prod.fst, finds := cls.filterMap (fun x => x.2.find) } })
        exact hand.trans (takeFinds_moves hA _ _ fun ha => Moves.devicesDistinct (hcount.trans hand) ha (hd ha))

theorem guardFailed_moves (hA : A.Runs l) (s : State) : Moves A s (guardFailed l s) := endCensus_moves hA.toEvals hA.census hA.unaddress ..

theorem censusOutcome_moves (hA : A.Walks l) (k : BusKind) (g : Nat) (slots : List SlotObs) (o : ExchangeOutcome) (hd : A.apart → s.DevicesDistinct) :
    Moves A s (censusOutcome l k g slots o s) := by
  unfold censusOutcome
  split
  · exact Moves.refl s
  · split
    · exact Moves.refl s
    · split
      · exact assignOutcome_moves hA _ hd
      · split
        · exact probeResult_moves hA _ _ hd
        · exact guardFailed_moves hA.toRuns s
      · split
        · exact continueRun_moves hA hd
        · exact guardFailed_moves hA.toRuns s

/-! ## The end of an exchange -/

theorem forwardAnswer_moves (hA : A.Cycles) (n : Nat) (tag : Octet) (r : EntryRef) (o : ExchangeOutcome) (p : List Octet) (s : State) :
    Moves A s (forwardAnswer n tag r o p s) := by
  unfold forwardAnswer
  split <;> exact offer_moves hA.outbound hA.drops ..

theorem countOutcome_moves (hA : A.part (.counters l)) (o : ExchangeOutcome) (s : State) : Moves A s (countOutcome l o s) := by
  cases o with
  | ok => exact modCounters_moves hA (g := fun c => { c with ok := addSat c.ok }) fun _ ⟨h1, _, h3, h4, h5, h6, h7⟩ => ⟨h1, addSat_le _, h3, h4, h5, h6, h7⟩
  | noReply => exact modCounters_moves hA (g := fun c => { c with noReply := addSat c.noReply }) fun _ ⟨h1, h2, _, h4, h5, h6, h7⟩ => ⟨h1, h2, addSat_le _, h4, h5, h6, h7⟩
  | corrupt => exact modCounters_moves hA (g := fun c => { c with corrupt := addSat c.corrupt }) fun _ ⟨h1, h2, h3, _, h5, h6, h7⟩ => ⟨h1, h2, h3, addSat_le _, h5, h6, h7⟩
  | abandoned => exact Moves.refl s

theorem toSource_moves (hA : A.Walks l) (x : Exchange) (o : ExchangeOutcome) (p : List Octet) (slots : List SlotObs) (hd : A.apart → s.DevicesDistinct) :
    Moves A s (toSource l x o p slots s) := by
  unfold toSource
  split
  · exact censusOutcome_moves hA _ _ _ _ hd
  · exact cycleOutcome_moves hA.toCycles ..
  · exact Moves.refl s
  · exact forwardAnswer_moves hA.toCycles ..
  · exact Moves.refl s
  · exact Moves.refl s

theorem toSupervision_moves (hA : ∀ k, A.Runs k) (hs : ∀ j, A.part (.slot j)) (hl : ∀ k, s.laneLive k = true → A.home k) (x : Exchange)
    (o : ExchangeOutcome) (p : List Octet) : Moves A s (toSupervision x o p s) := by
  unfold toSupervision
  split
  · exact applyOutcome_moves (hA _) (hs _) hl _ _
  · exact Moves.refl s

theorem endExchange_moves (hA : A.Ends l) (hl : ∀ k, s.laneLive k = true → A.home k) (x : Exchange) (o : ExchangeOutcome) (p : List Octet)
    (slots : List SlotObs) (hd : A.apart → s.DevicesDistinct) : Moves A s (endExchange l x o p slots s) := by
  have h := (clearExchange_moves hA.exchange (s := s)).trans (countOutcome_moves hA.counters o _)
  have h2 := h.trans (toSource_moves hA.toWalks x o p slots fun ha => Moves.devicesDistinct h ha (hd ha))
  refine h2.trans (toSupervision_moves hA.runs hA.slots (fun k hk => hl k ?_) x o p)
  rwa [((clearExchange_keepsPower l s).trans ((countOutcome_keepsPower ..).trans (toSource_keepsPower ..))).laneLive] at hk

theorem enterGuard_moves (he : A.part (.exchange l)) (ht : A.part (.token l)) (hl : A.home l) (x : Exchange) (s : State) :
    Moves A s (enterGuard l x s) := by
  unfold enterGuard
  dsimp only
  split
  · exact modLane_moves { LaneMove.refl l _ with exchange := .inl he, token := .inl ht, inFlight := fun _ => .inr hl }
  · exact setExchange_moves he _ (.inr hl)

theorem failAttempt_moves (hA : A.Ends l) (hl : ∀ k, s.laneLive k = true → A.home k) (x : Exchange) (o : ExchangeOutcome)
    (hd : A.apart → s.DevicesDistinct) : Moves A s (failAttempt l x o s) := by
  unfold failAttempt
  split
  · exact enterGuard_moves hA.exchange hA.token hA.home ..
  · exact endExchange_moves hA hl x o [] [] hd

/-! ## Grants -/

/-- What a grant can change: an exchange begins, a due cycle entry or a forward record is taken or given back. -/
structure Scope.Grants (A : Scope) (l : Lane) : Prop extends A.Cycles where
  exchange : A.part (.exchange l)
  token : A.part (.token l)
  turn : A.part (.turn l)
  forward : A.part (.forward l)
  unaddress : A.part (.unaddress l)
  census : A.part (.census l)
  counters : A.part (.counters l)
  slots : ∀ j, A.part (.slot j)
  home : A.home l

theorem beginExchange_moves (hA : A.Grants l) (x : Exchange) (s : State) : Moves A s (beginExchange l x s) :=
  (modCounters_moves hA.counters (g := fun c => { c with started := addSat c.started })
    fun _ ⟨_, h2, h3, h4, h5, h6, h7⟩ => ⟨addSat_le _, h2, h3, h4, h5, h6, h7⟩).trans
    ((enterGuard_moves hA.exchange hA.token hA.home ..).trans (setRx_moves hA.exchange ..))

theorem grantCensus_moves (hA : A.Grants l) (s : State) : Moves A s (grantCensus l s) := by
  unfold grantCensus
  split
  · exact (modCensus_moves hA.census _).trans (beginExchange_moves hA ..)
  · exact Moves.refl s

theorem grantCycle_moves (hA : A.Grants l) (d : Due) (s : State) : Moves A s (grantCycle l d s) := by
  unfold grantCycle
  split
  · exact (setCursor_moves hA.cycle ..).trans (beginExchange_moves hA ..)
  · exact giveBackDue_moves hA.toCycles ..

theorem takeForward_moves (hA : A.Grants l) {rest : List ForwardRecord} (h : rest.length ≤ (s.lane l).forward.length) :
    Moves A s (takeForward l rest s) :=
  modLane_moves { LaneMove.refl l _ with turn := .inl hA.turn, forward := .inl hA.forward, queue := fun hq => h.trans hq }

theorem grantForward_moves (hA : A.Grants l) (r : ForwardRecord) {rest : List ForwardRecord} (h : rest.length ≤ (s.lane l).forward.length) :
    Moves A s (grantForward l r rest s) := by
  have ht := takeForward_moves hA h
  unfold grantForward
  split
  · exact ht.trans (beginExchange_moves hA ..)
  · split
    · exact ht.trans (offer_moves hA.outbound hA.drops ..)
    · split
      · exact ht.trans (beginExchange_moves hA ..)
      · exact ht.trans (offer_moves hA.outbound hA.drops ..)

theorem turnSupervision_moves (hA : A.part (.turn l)) (s : State) : Moves A s (turnSupervision l s) :=
  modLane_moves { LaneMove.refl l (s.lane l) with turn := .inl hA }

theorem grantEcho_moves (hA : A.Grants l) {e : Entry} (he : s.entry slot = some e) : Moves A s (grantEcho l slot e s) := by
  have hentry := setEntry_moves (hA.slots slot) (s := turnSupervision l s) (f := { e with echo := false }) (by simpa [turnSupervision] using he)
  have hserved := modLane_moves (s := setEntry slot (some { e with echo := false }) (turnSupervision l s)) (g := fun y => { y with lastServed := slot })
    { LaneMove.refl l _ with turn := .inl hA.turn }
  exact (turnSupervision_moves hA.turn s).trans (hentry.trans (hserved.trans (beginExchange_moves hA ..)))

theorem grantSupervision_moves (hA : A.Grants l) (s : State) : Moves A s (grantSupervision l s) := by
  unfold grantSupervision
  split
  · exact (turnSupervision_moves hA.turn s).trans ((setUnaddress_moves hA.unaddress _).trans (beginExchange_moves hA ..))
  · split
    · split
      · next e he => exact grantEcho_moves hA he
      · exact Moves.refl s
    · exact Moves.refl s

theorem grantInTurn_moves (hA : A.Grants l) (s : State) : Moves A s (grantInTurn l s) := by
  unfold grantInTurn
  split
  · next r rest hf =>
    split
    · exact grantSupervision_moves hA s
    · exact grantForward_moves hA r (by simp [hf])
  · split
    · exact grantSupervision_moves hA s
    · exact Moves.refl s

theorem grantOnce_moves (hA : A.Grants l) (s : State) : Moves A s (grantOnce l s) := by
  unfold grantOnce
  split
  · exact grantCensus_moves hA s
  · split
    · exact grantCycle_moves hA ..
    · exact grantInTurn_moves hA s

theorem grantLoop_moves (hA : A.Grants l) (n : Nat) (s : State) : Moves A s (grantLoop l n s) := by
  induction n generalizing s with
  | zero => exact Moves.refl s
  | succ n ih =>
    unfold grantLoop
    split
    · exact Moves.refl s
    · exact (grantOnce_moves hA s).trans (ih _)

end Sys2Proof.Machine
end

section
/-! Which moves lane power, the arm link and the requests are made of. -/

namespace Sys2Proof.Machine

variable {A : Scope} {s : State} {l : Lane} {slot : Nat}

/-! ## Lane power -/

/-- What a power event of a lane can change: its teardown ends the lane's work and removes its entries. -/
structure Scope.Powers (A : Scope) (l : Lane) : Prop extends A.Runs l where
  power : A.part (.power l)
  exchange : A.part (.exchange l)
  slots : ∀ j, A.part (.slot j)

theorem modPower_moves (hA : A.part (.power l)) (g : Power → Power) (s : State) : Moves A s (modPower l g s) :=
  modLane_moves { LaneMove.refl l (s.lane l) with power := .inl hA }

/-- An exchange that is ABANDONED tells its census nothing (R38). -/
theorem censusOutcome_abandoned (l : Lane) (k : BusKind) (g : Nat) (slots : List SlotObs) (s : State) :
    censusOutcome l k g slots .abandoned s = s := by
  unfold censusOutcome
  split <;> rfl

/-- An exchange that is ABANDONED moves no entry (R105). -/
theorem applyOutcome_abandoned (r : EntryRef) (st : Option Octet) (s : State) : applyOutcome r .abandoned st s = s := by
  unfold applyOutcome
  split
  · rfl
  · split <;> rfl

theorem abandon_eq (l : Lane) (x : Exchange) (s : State) :
    endExchange l x .abandoned [] [] s = toSource l x .abandoned [] [] (clearExchange l s) := by
  rw [endExchange, countOutcome, toSupervision]
  split
  · exact applyOutcome_abandoned ..
  · rfl

theorem abandonExchange_moves (hx : A.part (.exchange l)) (hA : A.Cycles) (s : State) : Moves A s (abandonExchange l s) := by
  unfold abandonExchange
  split
  · next x _ =>
    rw [abandon_eq]
    refine (clearExchange_moves hx).trans ?_
    unfold toSource
    split
    · rw [censusOutcome_abandoned]
    · exact cycleOutcome_moves hA ..
    · exact Moves.refl _
    · exact forwardAnswer_moves hA ..
    · exact Moves.refl _
    · exact Moves.refl _
  · exact Moves.refl s

theorem censusDown_moves (hN : A.Evals) (hc : A.part (.census l)) (hu : A.part (.unaddress l)) (s : State) : Moves A s (censusDown l s) := by
  unfold censusDown
  split
  · exact endCensus_moves hN hc hu ..
  · exact Moves.refl s

/-- An entry of the lane whose echo item is discarded, and any other as it is (R38). -/
def Entry.hushed (l : Lane) (e : Entry) : Entry := if e.lane = l then { e with echo := false } else e

theorem entry_hushed (l : Lane) (s : State) (j : Nat) :
    ({ s with roster := s.roster.map (Option.map (Entry.hushed l)) } : State).entry j = (s.entry j).map (Entry.hushed l) := by
  simp only [State.entry, List.getD, List.getElem?_map]
  cases s.roster[j]? <;> rfl

theorem discardSupervision_moves (hA : A.Powers l) (s : State) : Moves A s (discardSupervision l s) := by
  refine (Moves.one (.roster (s.roster.map (Option.map (Entry.hushed l))) ⟨by simp, fun j => ?_⟩)).trans (setUnaddress_moves hA.unaddress [])
  rw [entry_hushed]
  cases he : s.entry j with
  | none => exact .inl rfl
  | some e =>
    refine .inr ⟨hA.slots j, .inr ⟨e, e.hushed l, rfl, rfl, ?_⟩⟩
    unfold Entry.hushed
    split <;> exact ⟨rfl, rfl⟩

theorem teardown_moves (hA : A.Powers l) (s : State) : Moves A s (teardown l s) :=
  (abandonExchange_moves hA.exchange hA.toCycles s).trans ((takeBackDue_moves hA.toCycles ..).trans ((censusDown_moves hA.toEvals hA.census hA.unaddress _).trans
    ((refuseForward_moves hA.forward hA.outbound hA.drops ..).trans ((discardSupervision_moves hA _).trans
      (removeLane_moves hA.toNames (fun j _ _ _ => hA.slots j) (fun j _ => hA.slots j) _)))))

theorem leaveLive_moves (hA : A.Powers l) (was : PowerState) (s : State) : Moves A s (leaveLive l was s) := by
  unfold leaveLive
  split
  · exact (evalComplete_moves hA.toEvals ..).trans (teardown_moves hA _)
  · exact Moves.refl s

theorem enterPower_moves (hA : A.Powers l) (st : PowerState) (c : LaneCause) (dp : DisablePending) (s : State) :
    Moves A s (enterPower l st c dp s) := by
  have hentered := modPower_moves hA.power (Power.entered st dp s.now) s
  exact hentered.trans ((notify_moves hA.notices (laneNotice l c _) _).trans (leaveLive_moves hA ..))

theorem enterFault_moves (hA : A.Powers l) (why : Trip) (s : State) : Moves A s (enterFault l why s) :=
  (modPower_moves hA.power ..).trans (enterPower_moves hA ..)

theorem enterWaiting_moves (hA : A.Powers l) (c : LaneCause) (s : State) : Moves A s (enterWaiting l c s) := by
  unfold enterWaiting
  split
  · exact enterFault_moves hA ..
  · exact enterPower_moves hA ..

theorem enterLaneLive_moves (hA : A.Powers l) (hl : A.home l) (s : State) : Moves A s (enterLaneLive l s) := by
  have hentered := modPower_moves hA.power (Power.entered .live .no s.now) s
  have hnotified := hentered.trans (notify_moves hA.notices (laneNotice l .ramped (modPower l (Power.entered .live .no s.now) s)) _)
  unfold enterLaneLive
  dsimp only
  split
  · exact hnotified.trans ((startCensus_moves hA.toRuns hl hA.slots ..).trans (evalComplete_moves hA.toEvals ..))
  · exact hnotified.trans (evalComplete_moves hA.toEvals ..)

theorem enableLane_moves (hA : A.Powers l) (s : State) : Moves A s (enableLane l s) := by
  unfold enableLane
  split
  · exact enterWaiting_moves hA ..
  · exact Moves.refl s

theorem disableLane_moves (hA : A.Powers l) (s : State) : Moves A s (disableLane l s) := by
  unfold disableLane
  split
  · exact Moves.refl s
  all_goals first
    | exact enterPower_moves hA ..
    | exact modPower_moves hA.power ..

theorem clearLatch_moves (hA : A.Powers l) (s : State) : Moves A s (clearLatch l s) := by
  unfold clearLatch
  split
  · exact (modPower_moves hA.power ..).trans (enterWaiting_moves hA ..)
  · exact Moves.refl s

theorem compareCurrent_moves (hA : A.Powers l) (s : State) : Moves A s (compareCurrent l s) := by
  unfold compareCurrent
  split
  · split
    · exact enterFault_moves hA ..
    · exact modPower_moves hA.power ..
  · exact Moves.refl s

theorem watchRemoval_moves (hA : A.part (.power l)) (s : State) : Moves A s (watchRemoval l s) := by
  unfold watchRemoval
  split
  · exact modPower_moves hA ..
  · exact Moves.refl s

theorem applyLimit_moves (hA : A.Powers l) (n : Nat) (s : State) : Moves A s (applyLimit l n s) :=
  (modPower_moves hA.power ..).trans (compareCurrent_moves hA _)

theorem watchCoupling_moves (hA : A.part (.power l)) (s : State) : Moves A s (watchCoupling l s) := by
  unfold watchCoupling
  split
  · exact modPower_moves hA ..
  · exact Moves.refl s

theorem watchBackfeed_moves (hA : A.part (.power l)) (s : State) : Moves A s (watchBackfeed l s) := by
  unfold watchBackfeed
  split
  · exact modPower_moves hA ..
  · exact Moves.refl s

theorem endDischarge_moves (hA : A.Powers l) (s : State) : Moves A s (endDischarge l s) := by
  unfold endDischarge
  split <;> exact enterPower_moves hA ..

theorem thermalLane_moves (hA : A.Powers l) (s : State) : Moves A s (thermalLane l s) := by
  unfold thermalLane
  split
  · split
    · exact (enterFault_moves hA ..).trans (enterPower_moves hA ..)
    · exact (enterFault_moves hA ..).trans (enterPower_moves hA ..)
    · exact enterFault_moves hA ..
  · exact Moves.refl s

theorem setOverTemperature_moves (hA : ∀ l, A.Powers l) (ho : A.part .overTemp) (hc : A.part .choices) (s : State) :
    Moves A s (setOverTemperature s) := by
  refine (Moves.one (.overTemp true ho)).trans ?_
  unfold setOverTemperature
  dsimp only
  split
  · refine (Moves.one (.choices (s.choices + 1) hc)).trans ?_
    split
    · exact (thermalLane_moves (hA .b) _).trans (thermalLane_moves (hA .a) _)
    · exact (thermalLane_moves (hA .a) _).trans (thermalLane_moves (hA .b) _)
  · exact (thermalLane_moves (hA .a) _).trans (thermalLane_moves (hA .b) _)

theorem unlock_moves (hA : A.Powers l) (s : State) : Moves A s (unlock l s) := by
  unfold unlock
  split
  · exact enterPower_moves hA ..
  · exact watchCoupling_moves hA.power s

theorem senseCurrent_moves (hA : A.Powers l) (n : Nat) (s : State) : Moves A s (senseCurrent l n s) := by
  unfold senseCurrent
  split
  · exact (modPower_moves hA.power ..).trans ((compareCurrent_moves hA _).trans (watchRemoval_moves hA.power _))
  · exact Moves.refl s

theorem cooldownCheck_moves (hA : A.Powers l) (b : Bool) (s : State) : Moves A s (cooldownCheck l b s) := by
  unfold cooldownCheck
  split
  · exact enterPower_moves hA ..
  · exact modPower_moves hA.power ..

/-! ## The arm link -/

theorem setArmRx_moves (hA : A.part .receiver) (r : RxState) (s : State) : Moves A s (setArmRx r s) :=
  .one (.arm _ { ArmMove.refl s.arm with receiver := .inl hA })

theorem modLink_moves (hA : A.part .linkCounters) {g : LinkCounters → LinkCounters} (hg : ∀ c : LinkCounters, c.sound → (g c).sound)
    (hd : (g s.arm.counters).outboundDrops = s.arm.counters.outboundDrops) : Moves A s (modLink g s) :=
  .one (.arm _ { ArmMove.refl s.arm with drops := .inr hd, counters := .inl hA, counts := hg _ })

theorem countFrameGood_moves (hA : A.part .linkCounters) (s : State) : Moves A s (countFrameGood s) :=
  modLink_moves hA (g := fun c => { c with framesGood := _ }) (fun _ ⟨_, h2, h3, h4, h5, h6⟩ => ⟨addSat_le _, h2, h3, h4, h5, h6⟩) rfl

theorem countCorruptFrame_moves (hA : A.part .linkCounters) (s : State) : Moves A s (countCorruptFrame s) :=
  modLink_moves hA (g := fun c => { c with corrupt := _ }) (fun _ ⟨h1, _, h3, h4, h5, h6⟩ => ⟨h1, addSat_le _, h3, h4, h5, h6⟩) rfl

theorem countFramingError_moves (hA : A.part .linkCounters) (s : State) : Moves A s (countFramingError s) :=
  modLink_moves hA (g := fun c => { c with framingErrors := _ }) (fun _ ⟨h1, h2, _, h4, h5, h6⟩ => ⟨h1, h2, addSat_le _, h4, h5, h6⟩) rfl

theorem countInboundOverflow_moves (hA : A.part .linkCounters) (s : State) : Moves A s (countInboundOverflow s) :=
  modLink_moves hA (g := fun c => { c with inboundOverflow := _ }) (fun _ ⟨h1, h2, h3, _, h5, h6⟩ => ⟨h1, h2, h3, addSat_le _, h5, h6⟩) rfl

theorem countMisdirected_moves (hA : A.part .linkCounters) (s : State) : Moves A s (countMisdirected s) :=
  modLink_moves hA (g := fun c => { c with misdirected := _ }) (fun _ ⟨h1, h2, h3, h4, _, h6⟩ => ⟨h1, h2, h3, h4, addSat_le _, h6⟩) rfl

/-- What a received frame can change. -/
structure Scope.Receives (A : Scope) : Prop extends A.Cycles where
  receiver : A.part .receiver
  link : A.part .link
  linkCounters : A.part .linkCounters
  requests : A.part .requests
  notices : A.part .notices
  forward : ∀ l, A.part (.forward l)

theorem queueForward_moves (hA : A.part (.forward l)) (r : ForwardRecord) (h : s.forwardRoom l = true) : Moves A s (queueForward l r s) :=
  setForward_moves hA fun _ => by simpa [State.forwardRoom] using h

theorem dataToName_moves (hA : A.Receives) (n : Nat) (tag : Octet) (p : List Octet) (s : State) : Moves A s (dataToName n tag p s) := by
  have hoffer (f : ArmFrame) : Moves A s (offer f s) := offer_moves hA.outbound hA.drops ..
  unfold dataToName
  split
  · exact hoffer _
  · split
    · exact hoffer _
    · split
      · exact hoffer _
      · split
        · next h => exact queueForward_moves (hA.forward _) _ h
        · exact hoffer _

theorem broadcastOn_moves (hA : A.part (.forward l)) (tag : Octet) (p : List Octet) (s : State) : Moves A s (broadcastOn tag p l s) := by
  unfold broadcastOn
  split
  · next h => exact queueForward_moves hA _ (by simp_all)
  · exact Moves.refl s

theorem dataToAll_moves (hA : A.Receives) (tag : Octet) (p : List Octet) (s : State) : Moves A s (dataToAll tag p s) := by
  unfold dataToAll
  split
  · exact (broadcastOn_moves (hA.forward .a) ..).trans (broadcastOn_moves (hA.forward .b) ..)
  · exact offer_moves hA.outbound hA.drops ..

theorem queueRequest_moves (hA : A.Receives) (tag : Octet) (p : List Octet) (s : State) : Moves A s (queueRequest tag p s) := by
  unfold queueRequest
  split
  · next h => exact .one (.arm _ { ArmMove.refl s.arm with requests := .inl hA.requests, waiting := fun _ => by simpa using h })
  · exact countInboundOverflow_moves hA.linkCounters s

theorem cycleFrame_moves (hA : A.Receives) (s : State) : Moves A s (cycleFrame s) := by
  unfold cycleFrame
  split
  · exact trigger_moves hA.toCycles hA.notices ..
  · exact Moves.refl s

theorem dispatchFrame_moves (hA : A.Receives) (dest : Nat) (k : Option ArmKind) (tag : Octet) (p : List Octet) (s : State) :
    Moves A s (dispatchFrame dest k tag p s) := by
  unfold dispatchFrame
  split
  · split
    · exact queueRequest_moves hA ..
    · exact offer_moves hA.outbound hA.drops ..
  · split
    · exact cycleFrame_moves hA s
    · exact offer_moves hA.outbound hA.drops ..
  · split
    · exact countMisdirected_moves hA.linkCounters s
    · split
      · exact dataToAll_moves hA ..
      · exact dataToName_moves hA ..
  · exact countMisdirected_moves hA.linkCounters s

theorem linkUpNow_moves (hA : A.part .link) (s : State) : Moves A s (linkUpNow s) :=
  .one (.arm _ { ArmMove.refl s.arm with link := .inl hA })

theorem validFrame_moves (hA : A.Receives) (body : List Octet) (s : State) : Moves A s (validFrame body s) := by
  unfold validFrame
  split
  · exact (countFrameGood_moves hA.linkCounters s).trans ((linkUpNow_moves hA.link _).trans (dispatchFrame_moves hA ..))
  · exact Moves.refl s

/-- A frame that is not valid is counted at most. -/
theorem receiveFrame_moves_of_not_valid (hA : A.part .linkCounters) {c : FrameClass} (hc : ∀ body, c ≠ .valid body) (s : State) :
    Moves A s (receiveFrame c s) := by
  cases c with
  | valid body => exact absurd rfl (hc body)
  | corrupt => exact countCorruptFrame_moves hA s
  | misaligned | short | broken | long => exact countFramingError_moves hA s
  | dropped => exact Moves.refl s

theorem receiveFrame_moves (hA : A.Receives) (c : FrameClass) (s : State) : Moves A s (receiveFrame c s) := by
  cases c with
  | valid body => exact validFrame_moves hA ..
  | _ => exact receiveFrame_moves_of_not_valid hA.linkCounters (fun _ h => by cases h) s

theorem breakClass_ne_valid (n : Nat) (body : List Octet) : breakClass n ≠ .valid body := by
  unfold breakClass
  split <;> nofun

theorem transmit_moves (ht : A.part .transmitter) (ho : A.part .outbound) (s : State) : Moves A s (transmit s) := by
  unfold transmit
  split
  · next h => exact .one (.arm _ { ArmMove.refl s.arm with
      transmitter := .inl ht, outbound := .inl ho, places := .inr (.inl ht), queue := fun hq => by rw [h] at hq; exact Nat.le_of_succ_le hq })
  · exact Moves.refl s

theorem linkDown_moves (hl : A.part .link) (ho : A.part .outbound) (hf : ∀ l, A.part (.forward l)) (hc : A.part .cycle) (s : State) :
    Moves A s (linkDown s) := by
  have harm : Moves A s (modArm (fun a => { a with linkUp := false, linkTimer := none, outbound := [] }) s) :=
    .one (.arm _ { ArmMove.refl s.arm with link := .inl hl, outbound := .inl ho, places := .inl hl, queue := fun _ => Nat.zero_le _ })
  exact harm.trans ((setForward_moves (hf .a) fun _ => Nat.zero_le _).trans ((setForward_moves (hf .b) fun _ => Nat.zero_le _).trans
    (stopSequencer_moves hc _)))

/-! ## Taking a request -/

/-- What the answer to a request can change. -/
structure Scope.Answers (A : Scope) : Prop where
  requests : A.part .requests
  outbound : A.part .outbound
  drops : A.part .drops

theorem popRequest_moves (hA : A.part .requests) (s : State) : Moves A s (popRequest s) :=
  .one (.arm _ { ArmMove.refl s.arm with requests := .inl hA, waiting := fun h => by simp; omega })

theorem appendFrame_moves (hA : A.part .outbound) (hr : A.part .requests) (f : ArmFrame) (h : s.arm.outbound.length < outboundCapacity) : Moves A s (appendFrame f s) :=
  .one (.arm _ { ArmMove.refl s.arm with outbound := .inl hA, places := .inr (.inr (.inl hr)), queue := fun _ => by simpa using h })

theorem placeFrame_moves (hA : A.part .outbound) (hr : A.part .requests) (i : Nat) (f : ArmFrame) (s : State) : Moves A s (placeFrame i f s) :=
  .one (.arm _ { ArmMove.refl s.arm with outbound := .inl hA, places := .inr (.inr (.inl hr)), queue := fun h => by simpa using h })

theorem actOn_moves {act : List Octet → State → Done} (h : ∀ args, Moves A s (act args s).2) (payload : List Octet) :
    Moves A s (actOn act payload s).2 := by
  unfold actOn
  split
  · exact Moves.refl s
  · exact h _

theorem answerRequest_moves (hA : A.Answers) {act : List Octet → State → Done}
    (h : ∀ args (b : ArmLink), Moves A { s with arm := b } (act args { s with arm := b }).2) (r : Request)
    (hroom : s.arm.outbound.length < outboundCapacity) : Moves A s (answerRequest act r s) := by
  have hpop := popRequest_moves hA.requests s
  unfold answerRequest
  split
  · have hput := appendFrame_moves (s := popRequest s) hA.outbound hA.requests (responseTo r ⟨.ok, []⟩ 0) hroom
    exact hpop.trans (hput.trans ((actOn_moves (fun args => h args _) r.payload).trans (placeFrame_moves hA.outbound hA.requests ..)))
  · exact hpop.trans ((actOn_moves (fun args => h args _) _).trans (offer_moves hA.outbound hA.drops ..))

theorem nextRequest_room {r : Request} (h : s.nextRequest = some r) : s.arm.outbound.length < outboundCapacity := by
  unfold State.nextRequest at h
  split at h
  · next hs => exact hs.2
  · cases h

theorem takeRequest_moves (hA : A.Answers) {act : List Octet → State → Done} {row : RequestRow}
    (h : ∀ args (b : ArmLink), Moves A { s with arm := b } (act args { s with arm := b }).2) : Moves A s (takeRequest row act s) := by
  unfold takeRequest
  split
  · next r hr =>
    split
    · exact answerRequest_moves hA h r (nextRequest_room hr)
    · exact Moves.refl s
  · exact Moves.refl s

/-! ## The actions -/

theorem laneControl_moves (hA : ∀ l, A.Powers l) {action : Lane → State → State} (h : ∀ l t, Moves A t (action l t)) {args : List Octet} {s : State} :
    Moves A s (laneControl action args s).2 := by
  unfold laneControl
  split
  · split
    · split
      · exact Moves.refl s
      · exact h ..
    · exact Moves.refl s
  · split
    · split
      · exact Moves.refl s
      · exact (applyLimit_moves (hA _) ..).trans (h ..)
    · exact Moves.refl s
  · exact Moves.refl s

theorem crossThreshold_moves (hs : A.part (.slot slot)) (hN : A.part .notices) (s : State) : Moves A s (crossThreshold slot s) := by
  unfold crossThreshold
  split
  · split
    · exact enterLive_moves hs hN ..
    · exact Moves.refl s
  · exact Moves.refl s

theorem foldl_moves {α : Type} {f : State → α → State} (h : ∀ t x, Moves A t (f t x)) (xs : List α) (s : State) : Moves A s (xs.foldl f s) := by
  induction xs generalizing s with
  | nil => exact Moves.refl s
  | cons x xs ih => exact (h s x).trans (ih _)

theorem onLaneSlots_moves {f : Nat → Entry → State → State} (h : ∀ j e t, t.entry j = some e → Moves A t (f j e t)) (l : Lane) (s : State) :
    Moves A s (onLaneSlots l f s) := by
  unfold onLaneSlots
  refine foldl_moves (fun t j => ?_) _ s
  split
  · next e he =>
    split
    · exact h j e t he
    · exact Moves.refl t
  · exact Moves.refl t

theorem judgeSilence_moves (hs : A.part (.slot slot)) (e : Entry) (s : State) : Moves A s (judgeSilence slot e s) := by
  unfold judgeSilence
  split
  · exact silenceDue_moves hs s
  · exact recallDue_moves hs s
  all_goals exact Moves.refl s

theorem applyOptions_moves (hA : A.Names) (hs : ∀ j, A.part (.slot j)) (l : Lane) (s : State) : Moves A s (applyOptions l s) :=
  (onLaneSlots_moves (fun j _ t _ => (crossThreshold_moves (hs j) hA.notices t).trans (evalComplete_moves hA.toEvals ..)) l s).trans
    (onLaneSlots_moves (fun j e t _ => judgeSilence_moves (hs j) e t) l _)

theorem setOptions_moves (hA : A.part (.options l)) (o : LaneOptions) (s : State) : Moves A s (setOptions l o s) :=
  modLane_moves { LaneMove.refl l (s.lane l) with options := .inl hA }

theorem actLaneOptionsWrite_moves (hA : A.Names) (hs : ∀ j, A.part (.slot j)) (ho : ∀ l, A.part (.options l)) {args : List Octet} {s : State} :
    Moves A s (actLaneOptionsWrite args s).2 := by
  unfold actLaneOptionsWrite
  split
  · split
    · split
      · exact Moves.refl s
      · simp only [doneClamped]
        exact (setOptions_moves (ho _) ..).trans (applyOptions_moves hA hs ..)
    · exact Moves.refl s
  · exact Moves.refl s

theorem actWriteProfile_moves (hA : A.part .profiles) {args : List Octet} {s : State} : Moves A s (actWriteProfile args s).2 := by
  unfold actWriteProfile
  split
  · split
    · exact Moves.refl s
    · simp only [doneClamped]
      exact .one (.profiles _ hA (List.length_set ..))
  · exact Moves.refl s

theorem actStartCensus_moves (hA : ∀ l, A.Runs l) (hs : ∀ j, A.part (.slot j)) (hl : ∀ k, s.laneLive k = true → A.home k) {args : List Octet} :
    Moves A s (actStartCensus args s).2 := by
  unfold actStartCensus
  split
  · split
    · next l _ _ _ =>
      split
      · exact Moves.refl s
      · next hlive =>
        split
        · exact Moves.refl s
        · exact startCensus_moves (hA l) (hl l (by simpa using hlive)) hs ..
    · exact Moves.refl s
  · exact Moves.refl s

theorem stopCensus_moves (hN : A.Evals) (hc : A.part (.census l)) (hu : A.part (.unaddress l)) (s : State) : Moves A s (stopCensus l s) := by
  unfold stopCensus
  split
  · next hr =>
    split
    · exact modCensus_moves hc _ fun _ => .inl (by rw [hr]; nofun)
    · exact endCensus_moves hN hc hu ..
  all_goals exact Moves.refl s

theorem actStopCensus_moves (hN : A.Evals) (hc : ∀ l, A.part (.census l)) (hu : ∀ l, A.part (.unaddress l)) {args : List Octet} {s : State} :
    Moves A s (actStopCensus args s).2 := by
  unfold actStopCensus
  split
  · split
    · exact stopCensus_moves hN (hc _) (hu _) s
    · exact Moves.refl s
  · exact Moves.refl s

/-! ### Naming -/

theorem dropRef_moves (hs : A.part (.slot slot)) (hN : A.part .notices) (hit : Nat → Bool) (s : State) : Moves A s (dropRef hit s slot) := by
  unfold dropRef
  split
  · next e he =>
    split
    · exact (setEntry_moves hs he).trans (crossThreshold_moves hs hN _)
    · exact Moves.refl s
  · exact Moves.refl s

theorem dropRef_name (hit : Nat → Bool) (c : Carried) : (c.dropRef hit).name = c.name := by
  unfold Carried.dropRef
  split <;> rfl

theorem dropCarried_moves (hA : A.part (.census l)) (hit : Nat → Bool) (s : State) : Moves A s (dropCarried hit l s) := by
  refine modCensus_moves hA _ .inl fun n h => ?_
  simp only [Census.carriedName] at h ⊢
  cases hf : (s.lane l).census.find with
  | none => simp [hf] at h
  | some x => cases hc : x.carried <;> simp_all [dropRef_name]

/-- What a change of the name map can change besides the map. -/
structure Scope.Maps (A : Scope) : Prop extends A.Names where
  slots : ∀ j, A.part (.slot j)
  census : ∀ l, A.part (.census l)
  nameMap : A.part .nameMap

theorem mapChanged_moves (hA : A.Maps) (hit : Nat → Bool) (s : State) : Moves A s (mapChanged hit s) := by
  unfold mapChanged bothLanes
  exact (foldl_moves (fun t j => dropRef_moves (hA.slots j) hA.notices hit t) (List.range rosterSlots) s).trans
    ((dropCarried_moves (hA.census .a) ..).trans ((dropCarried_moves (hA.census .b) ..).trans
    (Relation.ReflTransGen.trans (reresolveHeld_moves hA.toNames fun j _ => hA.slots j)
      ((evalComplete_moves hA.toEvals .a _).trans (evalComplete_moves hA.toEvals .b _)))))

theorem setMap_moves (hA : A.part .nameMap) (i : Nat) (m : Option MapEntry) (s : State) : Moves A s (setMap i m s) :=
  .one (.nameMap (s.nameMap.set i m) hA (List.length_set ..))

theorem storeMap_moves (hA : A.Maps) (i : Octet) (m : MapEntry) (b : Bool) (s : State) : Moves A s (storeMap i m b s).2 := by
  simp only [storeMap, doneClamped]
  exact Relation.ReflTransGen.trans (setMap_moves hA.nameMap i.toNat (some m) s) (mapChanged_moves hA ..)

theorem actMapWrite_moves (hA : A.Maps) {args : List Octet} {s : State} : Moves A s (actMapWrite args s).2 := by
  unfold actMapWrite
  split
  · split
    · exact storeMap_moves hA ..
    · exact Moves.refl s
  · split
    · exact storeMap_moves hA ..
    · exact Moves.refl s
  · exact Moves.refl s

theorem actMapClear_moves (hA : A.Maps) {args : List Octet} {s : State} : Moves A s (actMapClear args s).2 := by
  unfold actMapClear
  split
  · split
    · simp only [done]
      exact (Moves.one (.nameMap (s.nameMap.map fun _ => none) hA.nameMap (List.length_map ..))).trans (mapChanged_moves hA ..)
    · split
      · exact Moves.refl s
      · simp only [done]
        exact (setMap_moves hA.nameMap ..).trans (mapChanged_moves hA ..)
  · exact Moves.refl s

/-- A name of a device is one of 1..254 (R121). -/
theorem deviceName_range {o : Octet} {n : Nat} (h : deviceName o = some n) : 1 ≤ n ∧ n ≤ 254 := by
  unfold deviceName at h
  have := o.isLt
  split at h
  · cases h
  · cases h
    omega

theorem actSetProvisionalRange_moves (hA : A.Names) (hb : A.part .bounds) (hs : ∀ j, A.part (.slot j)) {args : List Octet} {s : State} :
    Moves A s (actSetProvisionalRange args s).2 := by
  unfold actSetProvisionalRange
  split
  · split
    · next a b ha hb' =>
      split
      · exact Moves.refl s
      · next hle =>
        have h1 := deviceName_range ha
        have h2 := deviceName_range hb'
        have hset : RangeMove A s.range ⟨a, b, a⟩ :=
          ⟨.inl hA.cursor, .inl hb, fun _ => ⟨h1.1, Nat.le_refl a, Nat.not_lt.mp hle, h2.2⟩⟩
        simp only [done, setRange]
        exact (Moves.one (.range ⟨a, b, a⟩ hset)).trans (reresolveHeld_moves hA fun j _ => hs j)
    · exact Moves.refl s
  · exact Moves.refl s

/-- What `entriesFrom` lists stands in the table. -/
theorem mem_entriesFrom {α : Type} {n i : Nat} {t : List (Option α)} {x : α} : (i, x) ∈ entriesFrom n t ↔ n ≤ i ∧ t[i - n]? = some (some x) := by
  induction t generalizing n with
  | nil => simp [entriesFrom]
  | cons y rest ih =>
    have hrest : (n + 1 ≤ i ∧ rest[i - (n + 1)]? = some (some x)) ↔ (n < i ∧ (y :: rest)[i - n]? = some (some x)) := by
      refine and_congr_right fun h => ?_
      rw [show i - n = (i - (n + 1)) + 1 by omega, List.getElem?_cons_succ]
    cases y with
    | none =>
      rw [entriesFrom, ih, hrest]
      refine ⟨fun ⟨h, hx⟩ => ⟨by omega, hx⟩, fun ⟨h, hx⟩ => ⟨?_, hx⟩⟩
      by_contra hn
      rw [show i - n = 0 by omega] at hx
      cases hx
    | some y =>
      rw [entriesFrom, List.mem_cons, ih, hrest]
      constructor
      · rintro (h | ⟨h, hx⟩)
        · cases h
          simp
        · exact ⟨by omega, hx⟩
      · rintro ⟨h, hx⟩
        by_cases hi : n = i
        · subst hi
          simp at hx
          exact .inl (by rw [hx])
        · exact .inr ⟨by omega, hx⟩

/-- The listed entries of the roster are those of its slots. -/
theorem mem_roster {s : State} {j : Nat} {e : Entry} : (j, e) ∈ entriesFrom 0 s.roster ↔ s.entry j = some e := by
  rw [mem_entriesFrom, State.entry, List.getD]
  cases s.roster[j]? <;> simp

/-- A name that is not taken by another has no other holder (R134). -/
theorem nameTaken_eq_false {s : State} {slot n : Nat} (h : s.nameTaken slot n = false) :
    (∀ j y, j ≠ slot → s.entry j = some y → y.name ≠ some n) ∧ ∀ l, s.carriedName l ≠ some n := by
  simp only [State.nameTaken, State.nameCarried, Bool.or_eq_false_iff, beq_eq_false_iff_ne, List.any_eq_false] at h
  obtain ⟨⟨ha, hb⟩, hentry⟩ := h
  refine ⟨fun j y hj hy hn => ?_, fun l => by cases l <;> assumption⟩
  exact hentry (j, y) (mem_roster.mpr hy) (by simp [hj, hn])

theorem nameEntry_moves (hA : A.Names) (hs : A.part (.slot slot)) (e : Entry) {c : Carried} (hfree : s.nameTaken slot c.name = false) :
    Moves A s (nameEntry slot e c s) := by
  obtain ⟨h1, h2⟩ := nameTaken_eq_false hfree
  have hgive := giveName_moves hs h1 h2
  unfold nameEntry
  split
  · exact hgive.trans (enterProving_moves hs hA.notices ..)
  · split
    · exact hgive.trans (crossThreshold_moves hs hA.notices _)
    · exact hgive
  all_goals exact hgive

theorem nameDevice_moves (hA : A.Names) (hs : ∀ j, A.part (.slot j)) (e : Entry) {n : Nat} (hfree : s.nameTaken slot n = false) :
    Moves A s (nameDevice slot e n s) := by
  refine (nameEntry_moves hA (hs slot) e (c := ⟨n, .request, none⟩) hfree).trans ((notifyNamed_moves hA.notices slot ⟨n, .request, none⟩ _).trans
    (Relation.ReflTransGen.trans ?_ ((evalComplete_moves hA.toEvals e.lane _).trans (evalComplete_moves hA.toEvals (otherLane e.lane) _))))
  split
  · exact reresolveHeld_moves hA fun j _ => hs j
  · exact Moves.refl _

theorem actNameDevice_moves (hA : A.Names) (hs : ∀ j, A.part (.slot j)) {args : List Octet} {s : State} : Moves A s (actNameDevice args s).2 := by
  unfold actNameDevice
  split
  · split
    · exact Moves.refl s
    · split
      · exact Moves.refl s
      · split
        · exact Moves.refl s
        · split
          · exact Moves.refl s
          · next h => exact nameDevice_moves hA hs _ (by simpa using h)
  · exact Moves.refl s

theorem addUnaddress_moves (hA : A.part (.unaddress l)) (a : Nat) (s : State) : Moves A s (addUnaddress l a s) := by
  unfold addUnaddress
  split
  · exact Moves.refl s
  · exact setUnaddress_moves hA _

theorem actRelease_moves (hA : A.Names) (hs : ∀ j, A.part (.slot j)) (hu : ∀ l, A.part (.unaddress l)) {args : List Octet} {s : State} :
    Moves A s (actRelease args s).2 := by
  unfold actRelease
  split
  · split
    · exact Moves.refl s
    · split
      · exact Moves.refl s
      · exact (removeEntry_moves hA (hs _) (fun j _ => hs j) _).trans (addUnaddress_moves (hu _) ..)
  · exact Moves.refl s

/-! ### Cycles, notices and counters -/

theorem setCycleEntry_moves (hA : A.part .cycle) (i : Nat) (c : Option CycleEntry) (s : State) : Moves A s (setCycleEntry i c s) :=
  modSeq_moves (g := fun q => { q with list := q.list.set i c }) hA (by simp)

theorem actCycleListWrite_moves (hA : A.part .cycle) {args : List Octet} {s : State} : Moves A s (actCycleListWrite args s).2 := by
  unfold actCycleListWrite
  split
  · split
    · exact Moves.refl s
    · split
      · exact Moves.refl s
      · split
        · exact Moves.refl s
        · split
          · exact Moves.refl s
          · exact setCycleEntry_moves hA ..
  · exact Moves.refl s

theorem actCycleListClear_moves (hA : A.part .cycle) {args : List Octet} {s : State} : Moves A s (actCycleListClear args s).2 := by
  unfold actCycleListClear
  split
  · split
    · exact Moves.refl s
    · split
      · exact Moves.refl s
      · split
        · exact modSeq_moves (g := fun q => { q with list := q.list.map fun _ => none }) hA (by simp)
        · exact setCycleEntry_moves hA ..
  · exact Moves.refl s

theorem setTrigger_moves (hA : A.part .cycle) (ht : A.part .trigger) (t : Trigger) (n : Nat) (s : State) : Moves A s (setTrigger t n s) :=
  .one (.seq _ ⟨.inl hA, .inl ht, rfl⟩)

theorem startSequencer_moves (hA : A.part .cycle) (s : State) : Moves A s (startSequencer s) := by
  unfold startSequencer
  split
  · exact modSeq_moves (g := fun q => { q with state := .armed, timer := _ }) hA
  all_goals exact Moves.refl s

theorem cycleControl_moves (hA : A.part .cycle) (ht : A.part .trigger) {action : State → State} (h : ∀ t, Moves A t (action t)) {args : List Octet}
    {s : State} : Moves A s (cycleControl action args s).2 := by
  unfold cycleControl
  split
  · split
    · exact Moves.refl s
    · exact h s
  · split
    · exact Moves.refl s
    · split
      · exact Moves.refl s
      · exact (setTrigger_moves hA ht ..).trans (h _)
  · exact Moves.refl s

theorem actFetchNotices_moves (hA : A.part .notices) {args : List Octet} {s : State} : Moves A s (actFetchNotices args s).2 := by
  unfold actFetchNotices
  split
  · exact .one (.notices _ ⟨.inl hA, .inr rfl, fun h => by simp; omega⟩)
  · exact Moves.refl s

theorem actNoticeMasksWrite_moves (hA : A.part .masks) {args : List Octet} {s : State} : Moves A s (actNoticeMasksWrite args s).2 := by
  unfold actNoticeMasksWrite
  split
  · exact .one (.notices _ ⟨.inr rfl, .inl hA, fun h => h⟩)
  · exact Moves.refl s

theorem clearLaneGroup_moves (hA : A.part (.counters l)) (b : Bool) (s : State) : Moves A s (clearLaneGroup b l s) := by
  unfold clearLaneGroup
  split
  · exact modCounters_moves hA fun _ _ => by simp [LaneCounters.zero, LaneCounters.sound]
  · exact Moves.refl s

theorem clearLinkGroup_moves (hA : A.part .linkCounters) (hd : A.part .drops) (b : Bool) (s : State) : Moves A s (clearLinkGroup b s) := by
  unfold clearLinkGroup
  split
  · exact .one (.arm _ { ArmMove.refl s.arm with
      drops := .inl hd, counters := .inl hA, counts := fun _ => by simp [LinkCounters.zero, LinkCounters.sound] })
  · exact Moves.refl s

theorem actReadCounters_moves (hA : ∀ l, A.part (.counters l)) (hl : A.part .linkCounters) (hd : A.part .drops) {args : List Octet} {s : State} :
    Moves A s (actReadCounters args s).2 := by
  unfold actReadCounters
  split
  · split
    · exact clearLinkGroup_moves hl hd ..
    · exact clearLaneGroup_moves (hA .a) ..
    · exact clearLaneGroup_moves (hA .b) ..
    · exact Moves.refl s
  · exact Moves.refl s

end Sys2Proof.Machine
end

section
/-! Every command but a reset is a chain of moves in the scope that O54 gives it; from this what each command leaves alone, and what every step keeps of names, devices
and bounds. -/

namespace Sys2Proof.Machine

variable {s t : State} {c : Instr} {home : Lane → Prop} {apart : Prop} {l : Lane}

/-! ## The scope of a command -/

/-- What a command may change (O54), with the lanes on which it may bring entries, runs and exchanges. -/
def scopeOf (c : Instr) (home : Lane → Prop) (apart : Prop) : Scope where
  part
    | .slot _ | .cursor => actsOnRoster c = true
    | .power _ => actsOnPower c = true
    | .exchange _ => actsOnBus c = true ∨ actsOnPower c = true
    | .token _ => endsExchange c = true ∨ ∃ l, c = .exchangeGrant l
    | .counters _ => endsExchange c = true ∨ (∃ l, c = .exchangeGrant l) ∨ c = .readCounters
    | .turn _ => ∃ l, c = .exchangeGrant l
    | .forward _ => actsOnWork c = true ∨ (∃ bits, c = .armFrameReceived bits) ∨ c = .linkTimerExpiry
    | .unaddress _ => actsOnWork c = true ∨ c = .stopCensus ∨ c = .release
    | .options _ => c = .laneOptionsWrite
    | .census _ => actsOnCensus c = true
    | .complete _ => actsOnRoster c = true ∨ actsOnCensus c = true
    | .receiver => actsOnReceiver c = true
    | .transmitter => c = .transmitStart ∨ c = .transmitTailBit
    | .link => (∃ bits, c = .armFrameReceived bits) ∨ c = .linkTimerExpiry
    | .requests => (∃ bits, c = .armFrameReceived bits) ∨ requestRow c ≠ none
    | .outbound => True
    | .drops => actsOnReceiver c = true ∨ actsOnWork c = true ∨ requestRow c ≠ none ∨ c = .periodTimerExpiry
    | .linkCounters => actsOnReceiver c = true ∨ c = .readCounters
    | .bounds => c = .setProvisionalRange
    | .cycle => actsOnCycle c = true
    | .trigger => c = .cycleControlStart ∨ c = .cycleControlStop ∨ c = .cycleControlNone
    | .notices => actsOnRoster c = true ∨ actsOnCensus c = true ∨ c = .fetchNotices ∨ c = .periodTimerExpiry ∨ ∃ bits, c = .armFrameReceived bits
    | .masks => c = .noticeMasksWrite
    | .profiles => c = .writeProfile
    | .nameMap => c = .mapWrite ∨ c = .mapClear
    | .overTemp => c = .overTemperatureSet ∨ c = .overTemperatureClear
    | .choices => True
  home := home
  apart := apart

theorem scopeOf_names (h : actsOnRoster c = true) : (scopeOf c home apart).Names := { notices := .inl h, complete := fun _ => .inl h, cursor := h }

theorem actsOnRoster_of_work (h : actsOnWork c = true) : actsOnRoster c = true := by simp [actsOnRoster, h]

theorem actsOnCensus_of_work (h : actsOnWork c = true) : actsOnCensus c = true := by simp [actsOnCensus, h]

theorem scopeOf_cycles (h : actsOnWork c = true) : (scopeOf c home apart).Cycles :=
  ⟨show actsOnCycle c = true by simp [actsOnCycle, h], trivial, .inr (.inl h)⟩

theorem scopeOf_runs (h : actsOnWork c = true) (l : Lane) : (scopeOf c home apart).Runs l :=
  { scopeOf_names (actsOnRoster_of_work h), scopeOf_cycles h with census := actsOnCensus_of_work h, unaddress := .inl h, forward := .inl h }

theorem scopeOf_powers (h : actsOnPower c = true) (l : Lane) : (scopeOf c home apart).Powers l :=
  have hw : actsOnWork c = true := by simp [actsOnWork, h]
  { scopeOf_runs hw l with power := h, exchange := .inr h, slots := fun _ => actsOnRoster_of_work hw }

theorem scopeOf_ends (h : endsExchange c = true) (hl : home l) : (scopeOf c home apart).Ends l :=
  have hw : actsOnWork c = true := by simp [actsOnWork, h]
  { scopeOf_runs hw l with
    counters := .inl h, slots := fun _ => actsOnRoster_of_work hw, home := hl, exchange := .inl (by simp [actsOnBus, h]), token := .inl h
    runs := scopeOf_runs hw }

theorem scopeOf_grants (hl : home l) : (scopeOf (.exchangeGrant l) home apart).Grants l where
  toCycles := scopeOf_cycles rfl
  exchange := .inl rfl
  token := .inr ⟨l, rfl⟩
  turn := ⟨l, rfl⟩
  forward := .inl rfl
  unaddress := .inl rfl
  census := rfl
  counters := .inr (.inl ⟨l, rfl⟩)
  slots := fun _ => rfl
  home := hl

theorem scopeOf_receives (bits : List Bool) : (scopeOf (.armFrameReceived bits) home apart).Receives where
  cycle := rfl
  outbound := trivial
  drops := .inl rfl
  receiver := rfl
  link := .inl ⟨bits, rfl⟩
  linkCounters := .inl rfl
  requests := .inl ⟨bits, rfl⟩
  notices := .inr (.inr (.inr (.inr ⟨bits, rfl⟩)))
  forward := fun _ => .inr (.inl ⟨bits, rfl⟩)

theorem scopeOf_answers (h : requestRow c ≠ none) : (scopeOf c home apart).Answers := ⟨.inr h, trivial, .inr (.inr (.inl h))⟩

/-! ## Guards of the rows -/

theorem whenRunning_moves {A : Scope} {f : State → State} (h : Moves A s (f s)) : Moves A s (whenRunning f s) := by
  unfold whenRunning
  split
  · exact Moves.refl s
  · exact h

theorem inPhase_moves {A : Scope} {ph : Phase} {f : Exchange → State → State} (h : ∀ x, (s.lane l).exch = some x → Moves A s (f x s)) :
    Moves A s (inPhase l ph f s) := by
  refine whenRunning_moves ?_
  split
  · next x hx =>
    split
    · exact h x hx
    · exact Moves.refl s
  · exact Moves.refl s

theorem onTimer_moves {A : Scope} {timer : PowerTimers → Option Nat} {f : State → State} (h : Moves A s (f s)) : Moves A s (onTimer l timer f s) := by
  refine whenRunning_moves ?_
  split
  · exact h
  · exact Moves.refl s

theorem onProbe_moves {A : Scope} {f : ProbeRecord → Exchange → State → State} {x : Exchange} (h : ∀ p, Moves A s (f p x s)) :
    Moves A s (onProbe f x s) := by
  unfold onProbe
  split
  · exact h _
  · exact Moves.refl s

/-! ## The rows of the buses -/

section
variable {A : Scope} {x : Exchange}

theorem startSending_moves (hA : A.part (.exchange l)) (hx : (s.lane l).exch = some x) : Moves A s (startSending l x s) := by
  unfold startSending
  split
  · exact setExchange_moves hA _ (.inl (by simp [hx]))
  · exact Moves.refl s

theorem loseIdle_moves (hA : A.part (.exchange l)) (r : GuardReport) (hx : (s.lane l).exch = some x) : Moves A s (loseIdle l r x s) := by
  unfold loseIdle
  split
  · exact (setExchange_moves hA _ (.inl (by simp [hx]))).trans (setRx_moves hA ..)
  · exact Moves.refl s

theorem afterTail_moves (hA : A.Ends l) (hl : ∀ k, s.laneLive k = true → A.home k) (x : Exchange) (hd : A.apart → s.DevicesDistinct) :
    Moves A s (afterTail l x s) := by
  unfold afterTail
  split
  · refine (setExchange_moves hA.exchange _ (.inr hA.home)).trans (modCounters_moves hA.counters (g := fun c => { c with probesSent := _ }) ?_)
    exact fun _ ⟨h1, h2, h3, h4, _, h6, h7⟩ => ⟨h1, h2, h3, h4, addSat_le _, h6, h7⟩
  · split
    · exact setExchange_moves hA.exchange _ (.inr hA.home)
    · exact endExchange_moves hA hl x .ok [] [] hd

theorem replyEnded_moves (hA : A.Ends l) (hl : ∀ k, s.laneLive k = true → A.home k) (how : FrameEnd) (x : Exchange)
    (hd : A.apart → s.DevicesDistinct) : Moves A s (replyEnded l how x s) := by
  unfold replyEnded
  split
  · exact endExchange_moves hA hl x .ok _ [] hd
  · have hrx := setRx_moves hA.exchange (rxAfter how) (s := s)
    refine hrx.trans (failAttempt_moves hA (fun k hk => hl k ?_) x .corrupt fun ha => hrx.devicesDistinct ha (hd ha))
    rwa [(setRx_keepsPower ..).laneLive] at hk

theorem nextSlot_moves (hA : A.part (.exchange l)) (p : ProbeRecord) (hx : (s.lane l).exch = some x) : Moves A s (nextSlot l p x s) := by
  unfold nextSlot
  split
  · exact Moves.refl s
  · exact setExchange_moves hA _ (.inl (by simp [hx]))

theorem recordReport_moves (hA : A.part (.exchange l)) (r : SlotReport) (p : ProbeRecord) (hx : (s.lane l).exch = some x) :
    Moves A s (recordReport l r p x s) := by
  unfold recordReport
  split
  · exact modLane_moves { LaneMove.refl l (s.lane l) with exchange := .inl hA, inFlight := fun _ => .inl (by simp [hx]) }
  · exact Moves.refl s

theorem endSlots_moves (hA : A.Ends l) (hl : ∀ k, s.laneLive k = true → A.home k) (p : ProbeRecord) (x : Exchange)
    (hd : A.apart → s.DevicesDistinct) : Moves A s (endSlots l p x s) := by
  unfold endSlots
  split
  · exact endExchange_moves hA hl x .ok [] p.slots hd
  · exact Moves.refl s

theorem periodElapsed_moves (hA : A.Cycles) (hN : A.part .notices) (s : State) : Moves A s (periodElapsed s) := by
  unfold periodElapsed
  split
  · exact (modSeq_moves (g := fun q => { q with timer := some (s.now + q.period) }) hA.cycle).trans (trigger_moves hA hN ..)
  · exact Moves.refl s

end

/-! ## Every command -/

theorem laneLive_arm (s : State) (b : ArmLink) (l : Lane) : ({ s with arm := b } : State).laneLive l = s.laneLive l := by cases l <;> rfl

/-- Every command but a reset is a chain of moves in its scope: what comes to be, comes on a LIVE lane, on one with an exchange in flight, or on the one that enters LIVE. -/
theorem exec_moves (hc : resets c = false) (h : exec c s = .next t) (hd : apart → s.DevicesDistinct) (hlive : ∀ k, s.laneLive k = true → home k)
    (hfly : ∀ k, (s.lane k).exch.isSome = true → home k) (hramp : ∀ l, c = .rampVoltageReached l → home l) :
    Moves (scopeOf c home apart) s t := by
  have fly {l : Lane} {x : Exchange} (hx : (s.lane l).exch = some x) : home l := hfly l (by simp [hx])
  cases c <;> cases h
  case powerOn | pinReset | resetRelease | resetPart => cases hc
  -- the arm link
  case armFrameReceived bits =>
    refine whenRunning_moves ?_
    split
    · exact (setArmRx_moves (A := scopeOf (.armFrameReceived bits) home apart) rfl ..).trans (receiveFrame_moves (scopeOf_receives bits) ..)
    · exact Moves.refl s
  case frameLong =>
    refine whenRunning_moves ?_
    split
    · exact (setArmRx_moves (A := scopeOf .frameLong home apart) rfl ..).trans (receiveFrame_moves_of_not_valid (A := scopeOf .frameLong home apart) (.inl rfl) (fun _ h => by cases h) _)
    · exact Moves.refl s
  case frameBreak n =>
    refine whenRunning_moves ?_
    split
    · exact (setArmRx_moves (A := scopeOf (.frameBreak n) home apart) rfl ..).trans (receiveFrame_moves_of_not_valid (A := scopeOf (.frameBreak n) home apart) (.inl rfl) (breakClass_ne_valid n) _)
    · exact Moves.refl s
  case openingDelimiter =>
    refine whenRunning_moves ?_
    split
    · exact setArmRx_moves (A := scopeOf .openingDelimiter home apart) rfl ..
    · exact Moves.refl s
  case discardEnd =>
    refine whenRunning_moves ?_
    split
    · exact setArmRx_moves (A := scopeOf .discardEnd home apart) rfl ..
    · exact Moves.refl s
  case transmitStart => exact whenRunning_moves (transmit_moves (A := scopeOf .transmitStart home apart) (.inl rfl) trivial s)
  case transmitTailBit => exact whenRunning_moves (.one (.arm _ { ArmMove.refl (A := scopeOf .transmitTailBit home apart) s.arm with transmitter := .inl (.inr rfl) }))
  case linkTimerExpiry =>
    refine whenRunning_moves ?_
    split
    · exact linkDown_moves (A := scopeOf .linkTimerExpiry home apart) (.inr rfl) trivial (fun _ => .inr (.inr rfl)) rfl s
    · exact Moves.refl s
  -- requests that read
  case identify =>
    refine takeRequest_moves (scopeOf_answers (by decide)) fun args b => ?_
    unfold actIdentify
    split <;> exact Moves.refl _
  case readStatus =>
    refine takeRequest_moves (scopeOf_answers (by decide)) fun args b => ?_
    unfold actReadStatus
    split
    · exact .one (.choices (s.choices + 2) trivial)
    · exact Moves.refl _
  case laneOptionsRead =>
    refine takeRequest_moves (scopeOf_answers (by decide)) fun args b => ?_
    unfold actLaneOptionsRead
    split
    · split <;> exact Moves.refl _
    · exact Moves.refl _
  case readProfile =>
    refine takeRequest_moves (scopeOf_answers (by decide)) fun args b => ?_
    unfold actReadProfile
    split
    · split <;> exact Moves.refl _
    · exact Moves.refl _
  case readRoster =>
    refine takeRequest_moves (scopeOf_answers (by decide)) fun args b => ?_
    unfold actReadRoster reportEntry
    split
    · split
      · exact Moves.refl _
      · split <;> exact Moves.refl _
    · exact Moves.refl _
  case find =>
    refine takeRequest_moves (scopeOf_answers (by decide)) fun args b => ?_
    rw [show (actFind args { s with arm := b }).2 = { s with arm := b } by
      unfold actFind reportEntry
      repeat' split
      all_goals rfl]
  case mapRead =>
    refine takeRequest_moves (scopeOf_answers (by decide)) fun args b => ?_
    unfold actMapRead
    split
    · split <;> exact Moves.refl _
    · exact Moves.refl _
  case cycleListRead =>
    refine takeRequest_moves (scopeOf_answers (by decide)) fun args b => ?_
    unfold actCycleListRead
    split
    · split <;> exact Moves.refl _
    · exact Moves.refl _
  case noticeMasksRead =>
    refine takeRequest_moves (scopeOf_answers (by decide)) fun args b => ?_
    unfold actNoticeMasksRead
    split <;> exact Moves.refl _
  case unknownRequest => exact takeRequest_moves (scopeOf_answers (by decide)) fun args b => Moves.refl _
  -- requests that act
  case laneControlEnable =>
    exact takeRequest_moves (scopeOf_answers (by decide)) fun args b =>
      laneControl_moves (scopeOf_powers (c := .laneControlEnable) rfl) (fun l => enableLane_moves (scopeOf_powers (c := .laneControlEnable) rfl l))
  case laneControlDisable =>
    exact takeRequest_moves (scopeOf_answers (by decide)) fun args b =>
      laneControl_moves (scopeOf_powers (c := .laneControlDisable) rfl) (fun l => disableLane_moves (scopeOf_powers (c := .laneControlDisable) rfl l))
  case laneControlClearLatch =>
    exact takeRequest_moves (scopeOf_answers (by decide)) fun args b =>
      laneControl_moves (scopeOf_powers (c := .laneControlClearLatch) rfl) (fun l => clearLatch_moves (scopeOf_powers (c := .laneControlClearLatch) rfl l))
  case laneControlNone =>
    exact takeRequest_moves (scopeOf_answers (by decide)) fun args b => laneControl_moves (scopeOf_powers (c := .laneControlNone) rfl) (fun l => Moves.refl)
  case laneOptionsWrite =>
    exact takeRequest_moves (scopeOf_answers (by decide)) fun args b => actLaneOptionsWrite_moves (scopeOf_names (c := .laneOptionsWrite) rfl) (fun _ => rfl) (fun _ => rfl)
  case writeProfile => exact takeRequest_moves (scopeOf_answers (by decide)) fun args b => actWriteProfile_moves rfl
  case startCensus =>
    exact takeRequest_moves (scopeOf_answers (by decide)) fun args b =>
      actStartCensus_moves (scopeOf_runs (c := .startCensus) rfl) (fun _ => rfl) (fun k hk => hlive k (by rwa [laneLive_arm] at hk))
  case stopCensus =>
    have hN : (scopeOf .stopCensus home apart).Evals := ⟨.inr (.inl rfl), fun _ => .inr rfl⟩
    exact takeRequest_moves (scopeOf_answers (by decide)) fun args b => actStopCensus_moves (A := scopeOf .stopCensus home apart) hN (fun _ => rfl) (fun _ => .inr (.inl rfl))
  case mapWrite =>
    have hA : (scopeOf .mapWrite home apart).Maps :=
      { scopeOf_names rfl with slots := fun _ => rfl, census := fun _ => rfl, nameMap := .inl rfl }
    exact takeRequest_moves (scopeOf_answers (by decide)) fun args b => actMapWrite_moves hA
  case mapClear =>
    have hA : (scopeOf .mapClear home apart).Maps :=
      { scopeOf_names rfl with slots := fun _ => rfl, census := fun _ => rfl, nameMap := .inr rfl }
    exact takeRequest_moves (scopeOf_answers (by decide)) fun args b => actMapClear_moves hA
  case setProvisionalRange =>
    exact takeRequest_moves (scopeOf_answers (by decide)) fun args b => actSetProvisionalRange_moves (scopeOf_names (c := .setProvisionalRange) rfl) rfl (fun _ => rfl)
  case nameDevice => exact takeRequest_moves (scopeOf_answers (by decide)) fun args b => actNameDevice_moves (scopeOf_names (c := .nameDevice) rfl) (fun _ => rfl)
  case release =>
    exact takeRequest_moves (scopeOf_answers (by decide)) fun args b =>
      actRelease_moves (scopeOf_names (c := .release) rfl) (fun _ => rfl) (fun _ => .inr (.inr rfl))
  case cycleListWrite => exact takeRequest_moves (scopeOf_answers (by decide)) fun args b => actCycleListWrite_moves rfl
  case cycleListClear => exact takeRequest_moves (scopeOf_answers (by decide)) fun args b => actCycleListClear_moves rfl
  case cycleControlStart =>
    exact takeRequest_moves (scopeOf_answers (by decide)) fun args b => cycleControl_moves (A := scopeOf .cycleControlStart home apart) rfl (.inl rfl) (startSequencer_moves rfl)
  case cycleControlStop =>
    exact takeRequest_moves (scopeOf_answers (by decide)) fun args b => cycleControl_moves (A := scopeOf .cycleControlStop home apart) rfl (.inr (.inl rfl)) (stopSequencer_moves rfl)
  case cycleControlNone =>
    exact takeRequest_moves (scopeOf_answers (by decide)) fun args b => cycleControl_moves (A := scopeOf .cycleControlNone home apart) rfl (.inr (.inr rfl)) Moves.refl
  case fetchNotices => exact takeRequest_moves (scopeOf_answers (by decide)) fun args b => actFetchNotices_moves (A := scopeOf .fetchNotices home apart) (.inr (.inr (.inl rfl)))
  case noticeMasksWrite => exact takeRequest_moves (scopeOf_answers (by decide)) fun args b => actNoticeMasksWrite_moves rfl
  case readCounters =>
    exact takeRequest_moves (scopeOf_answers (by decide)) fun args b =>
      actReadCounters_moves (A := scopeOf .readCounters home apart) (fun _ => .inr (.inr rfl)) (.inr rfl) (.inr (.inr (.inl (by decide))))
  -- lane power
  case lockAssert l => exact (modPower_moves (A := scopeOf (.lockAssert l) home apart) rfl ..).trans (whenRunning_moves (watchCoupling_moves (A := scopeOf (.lockAssert l) home apart) rfl _))
  case lockDeassert l => exact (modPower_moves (A := scopeOf (.lockDeassert l) home apart) rfl ..).trans (whenRunning_moves (unlock_moves (scopeOf_powers (c := .lockDeassert l) rfl l) _))
  case probeCurrentChange l n => exact (modPower_moves (A := scopeOf (.probeCurrentChange l n) home apart) rfl ..).trans (whenRunning_moves (watchCoupling_moves (A := scopeOf (.probeCurrentChange l n) home apart) rfl _))
  case qualifyTimerExpiry l => exact onTimer_moves (enterPower_moves (scopeOf_powers (c := .qualifyTimerExpiry l) rfl l) ..)
  case rampVoltageReached l =>
    refine whenRunning_moves ?_
    split
    · exact enterLaneLive_moves (scopeOf_powers (c := .rampVoltageReached l) rfl l) (hramp l rfl) s
    · exact Moves.refl s
  case rampTimerExpiry l => exact onTimer_moves (enterFault_moves (scopeOf_powers (c := .rampTimerExpiry l) rfl l) ..)
  case laneCurrentChange l n => exact whenRunning_moves (senseCurrent_moves (scopeOf_powers (c := .laneCurrentChange l n) rfl l) n s)
  case overcurrentMaskExpiry l => exact onTimer_moves (enterFault_moves (scopeOf_powers (c := .overcurrentMaskExpiry l) rfl l) ..)
  case backfeedVoltageChange l b => exact (modPower_moves (A := scopeOf (.backfeedVoltageChange l b) home apart) rfl ..).trans (whenRunning_moves (watchBackfeed_moves (A := scopeOf (.backfeedVoltageChange l b) home apart) rfl _))
  case backfeedMaskExpiry l => exact onTimer_moves (enterFault_moves (scopeOf_powers (c := .backfeedMaskExpiry l) rfl l) ..)
  case removalTimerExpiry l => exact onTimer_moves (enterPower_moves (scopeOf_powers (c := .removalTimerExpiry l) rfl l) ..)
  case liveStabilityExpiry l => exact onTimer_moves (modPower_moves (A := scopeOf (.liveStabilityExpiry l) home apart) rfl ..)
  case dischargeTimerExpiry l => exact onTimer_moves (endDischarge_moves (scopeOf_powers (c := .dischargeTimerExpiry l) rfl l) s)
  case cooldownExpiry l b => exact onTimer_moves (cooldownCheck_moves (scopeOf_powers (c := .cooldownExpiry l b) rfl l) b s)
  case overTemperatureSet =>
    refine whenRunning_moves ?_
    split
    · exact Moves.refl s
    · exact setOverTemperature_moves (scopeOf_powers (c := .overTemperatureSet) rfl) (.inl rfl) trivial s
  case overTemperatureClear => exact whenRunning_moves (.one (.overTemp false (.inr rfl)))
  -- the tool buses
  case exchangeGrant l =>
    refine whenRunning_moves ?_
    unfold grantLane
    split
    · next h => exact grantLoop_moves (scopeOf_grants (hlive l h)) _ s
    · exact Moves.refl s
  case guardCountReached l => exact inPhase_moves fun x hx => startSending_moves (A := scopeOf (.guardCountReached l) home apart) (.inl rfl) hx
  case guardIdleLost l r => exact inPhase_moves fun x hx => loseIdle_moves (A := scopeOf (.guardIdleLost l r) home apart) (.inl rfl) r hx
  case guardLimitReached l => exact inPhase_moves fun x hx => failAttempt_moves (scopeOf_ends rfl (fly hx)) hlive x _ hd
  case requestTailBit l => exact inPhase_moves fun x hx => afterTail_moves (scopeOf_ends rfl (fly hx)) hlive x hd
  case replyDelimiterComplete l =>
    exact inPhase_moves fun x hx => (setExchange_moves (A := scopeOf (.replyDelimiterComplete l) home apart) (.inl rfl) _ (.inl (by simp [hx]))).trans (setRx_moves (A := scopeOf (.replyDelimiterComplete l) home apart) (.inl rfl) ..)
  case replyTimeout l => exact inPhase_moves fun x hx => failAttempt_moves (scopeOf_ends rfl (fly hx)) hlive x _ hd
  case replyFrameEnd l how => exact inPhase_moves fun x hx => replyEnded_moves (scopeOf_ends rfl (fly hx)) hlive how x hd
  case slotStart l => exact inPhase_moves fun x hx => onProbe_moves fun p => nextSlot_moves (A := scopeOf (.slotStart l) home apart) (.inl rfl) p hx
  case slotObservation l r => exact inPhase_moves fun x hx => onProbe_moves fun p => recordReport_moves (A := scopeOf (.slotObservation l r) home apart) (.inl rfl) r p hx
  case slotsEnd l => exact inPhase_moves fun x hx => onProbe_moves fun p => endSlots_moves (scopeOf_ends rfl (fly hx)) hlive p x hd
  -- timers of entries and cycles
  case silenceCheckDue slot => exact whenRunning_moves (silenceDue_moves (A := scopeOf (.silenceCheckDue slot) home apart) rfl s)
  case recallEchoDue slot => exact whenRunning_moves (recallDue_moves (A := scopeOf (.recallEchoDue slot) home apart) rfl s)
  case periodTimerExpiry => exact whenRunning_moves (periodElapsed_moves (A := scopeOf .periodTimerExpiry home apart) ⟨rfl, trivial, .inr (.inr (.inr rfl))⟩ (.inr (.inr (.inr (.inl rfl)))) s)

end Sys2Proof.Machine
end

section
/-! What every command and every step keeps: resets leave a part that holds nothing, and every other command is a chain of moves. -/

namespace Sys2Proof.Machine

variable {s t : State} {c : Instr}

/-! ## Resets -/

/-- Every part in scope, devices coming to be where `home` says. -/
def Scope.any (home : Lane → Prop) : Scope := ⟨fun _ => True, home, True⟩

/-- A part that holds no device, no name, no run, no exchange and no frame, with its counters at 0 (R19, R21). -/
structure State.Fresh (s : State) : Prop where
  roster : s.roster = List.replicate 32 none
  lane : ∀ l, ∃ ceiling p, s.lane l = { LaneState.initial ceiling with power := p }
  requests : s.arm.requests = []
  outbound : s.arm.outbound = []
  counters : s.arm.counters = .zero
  notices : s.notices = .initial
  profiles : s.profiles.length = 4
  nameMap : s.nameMap.length = 64
  range : s.range = ⟨192, 254, 192⟩
  seq : s.seq = .initial

theorem resetBlocks_fresh (code : Nat) (s : State) : (resetBlocks code s).Fresh :=
  ⟨rfl, fun l => by cases l <;> exact ⟨_, _, rfl⟩, rfl, rfl, rfl, rfl, rfl, rfl, rfl, rfl⟩

theorem softBlocks_fresh (s : State) : (softBlocks s).Fresh :=
  ⟨rfl, fun l => by cases l <;> exact ⟨_, _, rfl⟩, rfl, rfl, rfl, rfl, rfl, rfl, rfl, rfl⟩

/-- The clock, the pin and the flag are of no account to it. -/
theorem State.Fresh.setClock (h : s.Fresh) (now : Nat) (pin flag : Bool) : ({ s with now := now, resetAsserted := pin, overTemp := flag } : State).Fresh :=
  ⟨h.roster, fun l => by cases l <;> [exact h.lane .a; exact h.lane .b], h.requests, h.outbound, h.counters, h.notices, h.profiles, h.nameMap,
    h.range, h.seq⟩

theorem any_names (home : Lane → Prop) : (Scope.any home).Names := { notices := trivial, complete := fun _ => trivial, cursor := trivial }

theorem any_powers (home : Lane → Prop) (l : Lane) : (Scope.any home).Powers l :=
  { any_names home with
    cycle := trivial, outbound := trivial, drops := trivial, census := trivial, unaddress := trivial, forward := trivial
    power := trivial, exchange := trivial, slots := fun _ => trivial }

theorem softReset_moves (home : Lane → Prop) (die : Bool) (s : State) : Moves (Scope.any home) (softBlocks s) (softReset die s) := by
  unfold softReset
  split
  · exact setOverTemperature_moves (any_powers home) trivial trivial _
  · exact Moves.refl _

theorem keepFrame_moves (home : Lane → Prop) (f : ArmFrame) (s : State) : Moves (Scope.any home) s (keepFrame f s) :=
  .one (.arm _ { ArmMove.refl (A := Scope.any home) s.arm with outbound := .inl trivial, places := .inl trivial, queue := fun _ => by simp [outboundCapacity] })

/-- An accepted RESET PART comes by moves from a part that holds nothing. -/
theorem acceptReset_moves (home : Lane → Prop) (die : Bool) (r : Request) (s : State) :
    ∃ u, u.Fresh ∧ Moves (Scope.any home) u (acceptReset die r s) := by
  unfold acceptReset
  split
  · exact ⟨_, softBlocks_fresh s, (softReset_moves home die s).trans (keepFrame_moves ..)⟩
  · exact ⟨_, softBlocks_fresh _, softReset_moves ..⟩

/-- A refusal changes nothing outside the arm link. -/
theorem answerRequest_refuse (st : Status) (r : Request) (s : State) :
    ∃ b, answerRequest (fun _ s => refuse st s) r s = { s with arm := b } := by
  have hact (s : State) : (actOn (fun _ s => refuse st s) r.payload s).2 = s := by
    unfold actOn
    split <;> rfl
  unfold answerRequest
  split
  · dsimp only
    rw [hact]
    exact ⟨_, rfl⟩
  · dsimp only
    rw [hact, offer_frame]
    exact ⟨_, rfl⟩

/-- A reset either comes by moves from a part that holds nothing, or it does not take place, and its answer is all that the part does. -/
theorem exec_resets (hc : resets c = true) (h : exec c s = .next t) (home : Lane → Prop) :
    (∃ u, u.Fresh ∧ Moves (Scope.any home) u t) ∨ (Moves (Scope.any home) s t ∧ ∃ b, t = { s with arm := b }) := by
  cases c <;> cases h
  case powerOn strap die => exact .inl ⟨_, (resetBlocks_fresh (strapCode strap) s).setClock 0 false die, Moves.refl _⟩
  case pinReset => exact .inl ⟨_, (resetBlocks_fresh s.strap s).setClock s.now true false, Moves.refl _⟩
  case resetRelease strap die =>
    split
    · exact .inl ⟨_, (resetBlocks_fresh (strapCode strap) s).setClock s.now false die, Moves.refl _⟩
    · exact .inr ⟨Moves.refl s, s.arm, rfl⟩
  case resetPart die =>
    unfold takeReset
    split
    · next r hr =>
      split
      · split
        · exact .inl (acceptReset_moves ..)
        · exact .inr ⟨answerRequest_moves ⟨trivial, trivial, trivial⟩ (fun _ _ => Moves.refl _) r (nextRequest_room hr), answerRequest_refuse ..⟩
      · exact .inr ⟨Moves.refl s, s.arm, rfl⟩
    · exact .inr ⟨Moves.refl s, s.arm, rfl⟩
  all_goals cases hc

theorem State.Fresh.entry (h : s.Fresh) (j : Nat) : s.entry j = none := by
  rw [State.entry, h.roster, List.getD_eq_getElem?_getD, List.getElem?_replicate]
  split <;> rfl

theorem State.Fresh.carriedName (h : s.Fresh) (l : Lane) : s.carriedName l = none := by
  obtain ⟨k, p, hl⟩ := h.lane l
  rw [State.carriedName, hl]
  rfl

theorem State.Fresh.namesDistinct (h : s.Fresh) : s.NamesDistinct :=
  ⟨fun i _ _ _ _ he => by simp [h.entry] at he, fun i _ _ _ he => by simp [h.entry] at he, fun n ha => by simp [h.carriedName] at ha⟩

theorem State.Fresh.devicesDistinct (h : s.Fresh) : s.DevicesDistinct :=
  ⟨fun i _ _ _ he => by simp [h.entry] at he, fun i _ _ _ he => by simp [h.entry] at he, fun i _ he => by simp [h.entry] at he⟩

theorem State.Fresh.housed (h : s.Fresh) (P Q R : Lane → Prop) : Housed P Q R s := by
  refine ⟨fun j e he => by simp [h.entry] at he, fun l hr => ?_, fun l hx => ?_⟩
  · obtain ⟨k, p, hl⟩ := h.lane l
    rw [hl] at hr
    exact absurd rfl hr
  · obtain ⟨k, p, hl⟩ := h.lane l
    rw [hl] at hx
    cases hx

theorem State.Fresh.countersSound (h : s.Fresh) : s.countersSound := by
  refine ⟨by simp [h.counters, LinkCounters.zero, LinkCounters.sound], fun l => ?_⟩
  obtain ⟨k, p, hl⟩ := h.lane l
  simp [hl, LaneState.initial, LaneCounters.zero, LaneCounters.sound]

theorem State.Fresh.queuesSound (h : s.Fresh) : s.queuesSound := by
  refine ⟨by simp [h.requests], by simp [h.outbound], fun l => ?_, by simp [h.notices, NoticeUnit.initial]⟩
  obtain ⟨k, p, hl⟩ := h.lane l
  simp [hl, LaneState.initial]

theorem State.Fresh.rangeSound (h : s.Fresh) : s.rangeSound := by simp [State.rangeSound, h.range]

theorem State.Fresh.workSound (h : s.Fresh) (l : Lane) : s.workSound l := by
  obtain ⟨k, p, hl⟩ := h.lane l
  simp [State.workSound, hl, LaneState.initial, Census.initial]

theorem State.Fresh.tablesSound (h : s.Fresh) : s.tablesSound :=
  ⟨h.profiles, by rw [h.roster]; exact List.length_replicate .., h.nameMap, by rw [h.seq]; exact List.length_replicate ..⟩

/-! ## Steps -/

/-- The parts that one ms of the clock changes: the clock, the queue of commands and the free values used. -/
theorem tick_frame (s : State) : ∃ pending choices, tick s = { s with now := s.now + 1, pending := pending, choices := choices } := by
  unfold tick presentDue
  split
  · exact ⟨_, _, rfl⟩
  · exact ⟨_, _, rfl⟩

/-- A step runs the command at the front of the queue, or passes one ms. -/
theorem step_cases (h : step s = .next t) : (∃ c rest, s.pending = c :: rest ∧ exec c (s.restOf rest) = .next t) ∨ (s.pending = [] ∧ t = tick s) := by
  unfold step at h
  split at h
  · next c rest hp => exact .inl ⟨c, rest, hp, h⟩
  · next hp =>
    cases h
    exact .inr ⟨hp, rfl⟩

/-- A property that every command keeps and that does not look at the clock, the queue of commands and the free values is kept by every step. -/
theorem step_keeps {P : State → Prop} (hP : ∀ (s : State) pending now choices, P s → P { s with pending := pending, now := now, choices := choices })
    (hexec : ∀ c s t, P s → exec c s = .next t → P t) (hs : P s) (h : step s = .next t) : P t := by
  obtain ⟨c, rest, -, hc⟩ | ⟨-, rfl⟩ := step_cases h
  · exact hexec c _ t (hP s rest s.now s.choices hs) hc
  · obtain ⟨pending, choices, ht⟩ := tick_frame s
    rw [ht]
    exact hP s pending _ choices hs

/-! ## O59, O60: names and devices -/

theorem exec_namesDistinct (c : Instr) (s t : State) (hs : s.NamesDistinct) (h : exec c s = .next t) : t.NamesDistinct := by
  cases hc : resets c with
  | true =>
    obtain ⟨u, hu, hm⟩ | ⟨hm, -⟩ := exec_resets hc h fun _ => True
    · exact hm.namesDistinct hu.namesDistinct
    · exact hm.namesDistinct hs
  | false =>
    exact (exec_moves (home := fun _ => True) (apart := False) hc h False.elim (fun _ _ => trivial) (fun _ _ => trivial)
      fun _ _ => trivial).namesDistinct hs

/-- Settles O59: every move keeps the names distinct. -/
theorem stepKeepsNamesDistinct : Obligations.StepKeepsNamesDistinct := by
  intro s t hs h
  refine step_keeps (P := State.NamesDistinct) (fun s pending now choices hs => ?_) exec_namesDistinct hs h
  have hsame : NoNewName s { s with pending := pending, now := now, choices := choices } := .of_eq (fun _ => rfl) fun l => by cases l <;> rfl
  exact hsame.namesDistinct hs

theorem exec_devicesDistinct (c : Instr) (s t : State) (hs : s.DevicesDistinct) (h : exec c s = .next t) : t.DevicesDistinct := by
  cases hc : resets c with
  | true =>
    obtain ⟨u, hu, hm⟩ | ⟨hm, -⟩ := exec_resets hc h fun _ => True
    · exact hm.devicesDistinct trivial hu.devicesDistinct
    · exact hm.devicesDistinct trivial hs
  | false =>
    exact (exec_moves (home := fun _ => True) (apart := True) hc h (fun _ => hs) (fun _ _ => trivial) (fun _ _ => trivial)
      fun _ _ => trivial).devicesDistinct trivial hs

/-- Settles O60: a device comes by creation alone, with a fingerprint that no entry holds, at a free address. -/
theorem stepKeepsDevicesDistinct : Obligations.StepKeepsDevicesDistinct := by
  intro s t hs h
  exact step_keeps (P := State.DevicesDistinct) (fun s _ _ _ hs => ⟨hs.fingerprints, hs.addresses, hs.range⟩) exec_devicesDistinct hs h

/-! ## O57: queues, counters, the range and work lists -/

theorem exec_bounded (h : exec c s = .next t) : (∃ u : State, u.Fresh ∧ Bounded u t) ∨ Bounded s t := by
  cases hc : resets c with
  | true => exact (exec_resets hc h fun _ => True).imp (fun ⟨u, hu, hm⟩ => ⟨u, hu, hm.bounded⟩) fun ⟨hm, _⟩ => hm.bounded
  | false =>
    exact .inr (exec_moves (home := fun _ => True) (apart := False) hc h False.elim (fun _ _ => trivial) (fun _ _ => trivial)
      fun _ _ => trivial).bounded

/-- Settles O57: every move keeps each bound. -/
theorem stepKeepsBounds : Obligations.StepKeepsBounds := by
  intro s t h
  refine ⟨fun hs => ?counters, fun hs => ?queues, fun hs => ?range, fun hs => ?work⟩
  case counters =>
    refine step_keeps (P := State.countersSound) (fun s _ _ _ hs => ⟨hs.1, fun l => by cases l <;> [exact hs.2 .a; exact hs.2 .b]⟩) ?_ hs h
    intro c s t hs h
    obtain ⟨u, hu, hb⟩ | hb := exec_bounded h
    · exact hb.counters hu.countersSound
    · exact hb.counters hs
  case queues =>
    refine step_keeps (P := State.queuesSound)
      (fun s _ _ _ ⟨h1, h2, h3, h4⟩ => ⟨h1, h2, fun l => by cases l <;> [exact h3 .a; exact h3 .b], h4⟩) ?_ hs h
    intro c s t hs h
    obtain ⟨u, hu, hb⟩ | hb := exec_bounded h
    · exact hb.queues hu.queuesSound
    · exact hb.queues hs
  case range =>
    refine step_keeps (P := State.rangeSound) (fun s _ _ _ hs => hs) ?_ hs h
    intro c s t hs h
    obtain ⟨u, hu, hb⟩ | hb := exec_bounded h
    · exact hb.range hu.rangeSound
    · exact hb.range hs
  case work =>
    refine step_keeps (P := fun s => ∀ l, s.workSound l) (fun s _ _ _ hs l => by cases l <;> [exact hs .a; exact hs .b]) ?_ hs h
    intro c s t hs h
    obtain ⟨u, hu, hb⟩ | hb := exec_bounded h
    · exact hb.work hu.workSound
    · exact hb.work hs

/-! ## O54: what each command leaves alone -/

theorem resets_pending (hc : resets c = true) (h : exec c s = .next t) : t.pending = s.pending := by
  cases c <;> cases h
  case powerOn | pinReset => rfl
  case resetRelease =>
    split <;> rfl
  case resetPart die =>
    unfold takeReset
    split
    · next r hr =>
      split
      · split
        · have hsoft (s : State) : (softReset die s).pending = s.pending := (softReset_moves (fun _ => True) die s).framed.pending
          unfold acceptReset
          split
          · exact hsoft s
          · rw [hsoft, offer_frame]
        · exact (answerRequest_moves (A := Scope.any fun _ => True) ⟨trivial, trivial, trivial⟩ (fun _ _ => Moves.refl _) r
            (nextRequest_room hr)).framed.pending
      · rfl
    · rfl
  all_goals cases hc

/-- Rosters of one size with the same entries are the same. -/
theorem roster_ext (hsize : t.roster.length = s.roster.length) (h : ∀ j, t.entry j = s.entry j) : t.roster = s.roster := by
  refine List.ext_getElem hsize fun j hj hj' => ?_
  have := h j
  simpa [State.entry, List.getD, List.getElem?_eq_getElem hj, List.getElem?_eq_getElem hj'] using this

/-- Settles O54: a command that is no reset is a chain of moves in its scope, and out of scope nothing changes. -/
theorem commandsLeaveOtherBlocksAlone : Obligations.CommandsLeaveOtherBlocksAlone := by
  intro c s t h
  cases hc : resets c with
  | true => exact ⟨resets_pending hc h, nofun⟩
  | false =>
    have hf := (exec_moves (home := fun _ => True) (apart := False) hc h False.elim (fun _ _ => trivial) (fun _ _ => trivial)
      fun _ _ => trivial).framed
    refine ⟨hf.pending, fun _ => ⟨hf.strap, hf.now, hf.resetAsserted, ?_, ?_, ?_, ?_, ?_, ?_, ?_, ?_, ?_, ?_, ?_, ?_, ?_, ?_, ?_, ?_, ?_, ?_, ?_, ?_,
      ?_, ?_, ?_, ?_⟩⟩
    · exact fun h1 h2 => hf.overTemp.resolve_left (not_or.mpr ⟨h1, h2⟩)
    · exact fun h1 => hf.profiles.resolve_left h1
    · exact fun h1 h2 => hf.nameMap.resolve_left (not_or.mpr ⟨h1, h2⟩)
    · exact fun h1 => hf.masks.resolve_left h1
    · exact fun h1 l => (hf.options l).resolve_left h1
    · exact fun h1 l => (hf.power l).resolve_left (Bool.eq_false_iff.mp h1)
    · exact fun h1 => hf.receiver.resolve_left (Bool.eq_false_iff.mp h1)
    · exact fun h1 h2 => hf.transmitter.resolve_left (not_or.mpr ⟨h1, h2⟩)
    · exact fun h1 h2 => hf.link.resolve_left (not_or.mpr ⟨not_exists.mpr h1, h2⟩)
    · exact fun h1 h2 => hf.requests.resolve_left (not_or.mpr ⟨not_exists.mpr h1, not_not.mpr h2⟩)
    · exact fun h1 l => (hf.turn l).resolve_left (not_exists.mpr h1)
    · exact fun h1 h2 l => (hf.exchange l).resolve_left (not_or.mpr ⟨Bool.eq_false_iff.mp h1, Bool.eq_false_iff.mp h2⟩)
    · exact fun h1 h2 l => ⟨(hf.token l).resolve_left (not_or.mpr ⟨Bool.eq_false_iff.mp h1, not_exists.mpr h2⟩),
        fun h3 => (hf.counters l).resolve_left (not_or.mpr ⟨Bool.eq_false_iff.mp h1, not_or.mpr ⟨not_exists.mpr h2, h3⟩⟩)⟩
    · exact fun h1 l => (hf.census l).resolve_left (Bool.eq_false_iff.mp h1)
    · exact fun h1 h2 h3 l => (hf.unaddress l).resolve_left (not_or.mpr ⟨Bool.eq_false_iff.mp h1, not_or.mpr ⟨h2, h3⟩⟩)
    · exact fun h1 h2 h3 l => (hf.forward l).resolve_left (not_or.mpr ⟨Bool.eq_false_iff.mp h1, not_or.mpr ⟨not_exists.mpr h2, h3⟩⟩)
    · exact fun h1 => ⟨roster_ext hf.rosterSize fun j => (hf.slot j).resolve_left (Bool.eq_false_iff.mp h1),
        hf.cursor.resolve_left (Bool.eq_false_iff.mp h1)⟩
    · exact fun h1 => hf.bounds.resolve_left h1
    · exact fun h1 h2 l => (hf.complete l).resolve_left (not_or.mpr ⟨Bool.eq_false_iff.mp h1, Bool.eq_false_iff.mp h2⟩)
    · exact fun h1 => hf.cycle.resolve_left (Bool.eq_false_iff.mp h1)
    · exact fun h1 h2 h3 => hf.trigger.resolve_left (not_or.mpr ⟨h1, not_or.mpr ⟨h2, h3⟩⟩)
    · exact fun h1 h2 => hf.linkCounters.resolve_left (not_or.mpr ⟨Bool.eq_false_iff.mp h1, h2⟩)
    · exact fun h1 h2 h3 h4 => hf.drops.resolve_left
        (not_or.mpr ⟨Bool.eq_false_iff.mp h1, not_or.mpr ⟨Bool.eq_false_iff.mp h2, not_or.mpr ⟨not_not.mpr h3, h4⟩⟩⟩)
    · exact fun h1 h2 h3 h4 h5 => hf.queue.resolve_left
        (not_or.mpr ⟨Bool.eq_false_iff.mp h1, not_or.mpr ⟨Bool.eq_false_iff.mp h2, not_or.mpr ⟨h3, not_or.mpr ⟨h4, not_exists.mpr h5⟩⟩⟩⟩)

end Sys2Proof.Machine
end

section
/-! Entries, runs and exchanges stand on LIVE lanes alone (O58): a lane that leaves LIVE is torn down whole. -/

namespace Sys2Proof.Machine

variable {s t : State} {l : Lane}

/-! ## What a request keeps -/

/-- A property that does not look at the arm link is kept by a request whose action keeps it. -/
theorem takeRequest_keeps {P : State → Prop} {row : RequestRow} {act : List Octet → State → Done} (harm : ∀ (s : State) b, P s → P { s with arm := b })
    (hact : ∀ args s, P s → P (act args s).2) (hs : P s) : P (takeRequest row act s) := by
  have hon (payload : List Octet) (s : State) (hs : P s) : P (actOn act payload s).2 := by
    unfold actOn
    split
    · exact hs
    · exact hact _ s hs
  unfold takeRequest answerRequest
  split
  · split
    · split
      · exact harm _ _ (hon _ _ (harm _ _ (harm _ _ hs)))
      · dsimp only
        rw [offer_frame]
        exact harm _ _ (hon _ _ (harm _ _ hs))
    · exact hs
  · exact hs

/-! ## A lane that is torn down -/

/-- A lane without entries, run and exchange. -/
structure State.Bare (s : State) (l : Lane) : Prop where
  entries : ∀ j e, s.entry j = some e → e.lane ≠ l
  run : (s.lane l).census.run = .idle
  exch : (s.lane l).exch = none

/-- Moves that bring nothing. -/
abbrev Idle (s t : State) : Prop := Moves (Scope.any fun _ => False) s t

theorem Idle.housed {P Q R : Lane → Prop} (h : Idle s t) (hs : Housed P Q R s) : Housed P Q R t :=
  Moves.housed h (fun _ => False.elim) (fun _ => False.elim) (fun _ => False.elim) hs

theorem Idle.exch (h : Idle s t) (hs : (s.lane l).exch = none) : (t.lane l).exch = none := by
  have := (h.housed (P := fun _ => True) (Q := fun _ => True) (R := (· ≠ l))
    ⟨fun _ _ _ => trivial, fun _ _ => trivial, fun k hk hkl => by rw [hkl, hs] at hk; cases hk⟩).inFlight l
  simpa using this

theorem Idle.run (h : Idle s t) (hs : (s.lane l).census.run = .idle) : (t.lane l).census.run = .idle := by
  have := (h.housed (P := fun _ => True) (Q := (· ≠ l)) (R := fun _ => True)
    ⟨fun _ _ _ => trivial, fun k hk hkl => hk (hkl ▸ hs), fun _ _ => trivial⟩).runs l
  simpa using this

theorem Idle.noNewDevice (h : Idle s t) : NoNewDevice s t := by
  induction h with
  | refl => exact .of_entries fun _ => rfl
  | tail _ h ih =>
    obtain hn | ⟨_, _, _, _, _, hl, _⟩ := h.devices
    · intro j f hf
      obtain ⟨e, he, hd⟩ := hn j f hf
      obtain ⟨g, hg, hd'⟩ := ih j e he
      exact ⟨g, hg, hd.trans hd'⟩
    · exact hl.elim

theorem any_runs (home : Lane → Prop) (l : Lane) : (Scope.any home).Runs l := (any_powers home l).toRuns

theorem removeIfOn_idle (l : Lane) (c : DeviceCause) (s : State) (j : Nat) : Idle s (removeIfOn l c s j) := by
  unfold removeIfOn
  split
  · split
    · exact removeEntry_moves (any_names _) trivial (fun _ _ => trivial) _
    · exact Moves.refl s
  · exact Moves.refl s

/-- A slot that has been looked at holds no entry of the lane. -/
theorem removeIfOn_entry (l : Lane) (c : DeviceCause) (s : State) (j : Nat) {e : Entry} (he : (removeIfOn l c s j).entry j = some e) : e.lane ≠ l := by
  unfold removeIfOn at he
  split at he
  · next f hf =>
    split at he
    · rw [(removeEntry_spec hf c).1] at he
      cases he
    · next hl =>
      rw [hf] at he
      cases he
      exact hl
  · next hn =>
    rw [hn] at he
    cases he

theorem removeIfOn_foldl (l : Lane) (c : DeviceCause) (js : List Nat) (s : State) :
    Idle s (js.foldl (removeIfOn l c) s) ∧ ∀ j ∈ js, ∀ e, (js.foldl (removeIfOn l c) s).entry j = some e → e.lane ≠ l := by
  induction js generalizing s with
  | nil => exact ⟨Moves.refl s, nofun⟩
  | cons j js ih =>
    obtain ⟨hidle, hgone⟩ := ih (removeIfOn l c s j)
    refine ⟨(removeIfOn_idle l c s j).trans hidle, fun i hi e he => ?_⟩
    obtain rfl | hi := List.mem_cons.mp hi
    · obtain ⟨f, hf, hd⟩ := hidle.noNewDevice i e he
      simp only [Entry.device, Prod.mk.injEq] at hd
      exact hd.1 ▸ removeIfOn_entry l c s i hf
    · exact hgone i hi e he

/-- A lane whose entries are removed holds none (R116). -/
theorem removeLane_entries (l : Lane) (c : DeviceCause) (hsize : s.roster.length = 32) (j : Nat) (e : Entry)
    (he : (removeLane l c s).entry j = some e) : e.lane ≠ l := by
  obtain ⟨hidle, hgone⟩ := removeIfOn_foldl l c (List.range rosterSlots) s
  have hlt := slot_lt_of_entry he
  rw [show (removeLane l c s).roster.length = s.roster.length from (Moves.framed hidle).rosterSize, hsize] at hlt
  exact hgone j (List.mem_range.mpr hlt) e he

theorem endCensus_run (l : Lane) (o : CensusOutcome) (s : State) : ((endCensus l o s).lane l).census.run = .idle := by
  unfold endCensus
  have h (s : State) : ((evalComplete l s).lane l).census = (s.lane l).census := by rw [(evalComplete_keepsDevices (P := fun _ => False) l s).lane l]
  dsimp only
  rw [h, notify_lane, modLane_lane]
  rfl

theorem abandonExchange_exch (l : Lane) (s : State) : ((abandonExchange l s).lane l).exch = none := by
  unfold abandonExchange
  split
  · next x _ =>
    rw [abandon_eq]
    refine Idle.exch (s := clearExchange l s) ?_ (by simp [clearExchange])
    unfold toSource
    split
    · rw [censusOutcome_abandoned]
    · exact cycleOutcome_moves ((any_runs _ l).toCycles) ..
    · exact Moves.refl _
    · exact forwardAnswer_moves ((any_runs _ l).toCycles) ..
    · exact Moves.refl _
    · exact Moves.refl _
  · assumption

theorem censusDown_run (l : Lane) (s : State) : ((censusDown l s).lane l).census.run = .idle := by
  unfold censusDown
  split
  · exact endCensus_run ..
  · next h => simpa [State.censusRunning] using h

/-- A torn-down lane has no entry, no run and no exchange (R38). -/
theorem teardown_bare (l : Lane) (hsize : s.roster.length = 32) : (teardown l s).Bare l := by
  have hA := any_powers (fun _ => False) l
  have hback := takeBackDue_moves hA.toCycles l (abandonExchange l s)
  have hdown := censusDown_moves hA.toEvals hA.census hA.unaddress (takeBackDue l (abandonExchange l s))
  have hlast := (refuseForward_moves hA.forward hA.outbound hA.drops .departed (censusDown l (takeBackDue l (abandonExchange l s)))).trans
    (discardSupervision_moves hA _)
  have hremove := removeLane_moves (l := l) hA.toNames (fun j _ _ _ => hA.slots j) (fun j _ => hA.slots j) .laneDown
    (s := discardSupervision l (refuseForward l .departed (censusDown l (takeBackDue l (abandonExchange l s)))))
  have hall := (abandonExchange_moves hA.exchange hA.toCycles s).trans (hback.trans (hdown.trans hlast))
  refine ⟨removeLane_entries l .laneDown ?_, ?_, ?_⟩
  · exact (Moves.framed hall).rosterSize.trans hsize
  · exact Idle.run (hlast.trans hremove) (censusDown_run ..)
  · exact Idle.exch (hback.trans (hdown.trans (hlast.trans hremove))) (abandonExchange_exch l s)

/-! ## At home -/

/-- Entries, runs and exchanges stand on LIVE lanes, in a roster of its size. -/
structure State.AtHome (s : State) : Prop where
  housed : Housed (s.laneLive · = true) (s.laneLive · = true) (s.laneLive · = true) s
  size : s.roster.length = 32

/-- Moves whose home are the LIVE lanes keep it, where each of those stays LIVE or is bare afterwards. -/
theorem State.AtHome.moves (hs : s.AtHome) (h : Moves (Scope.any (s.laneLive · = true)) s t)
    (hl : ∀ k, s.laneLive k = true → t.laneLive k = true ∨ t.Bare k) : t.AtHome := by
  have hh := h.housed (fun _ h => h) (fun _ h => h) (fun _ h => h) hs.housed
  refine ⟨⟨fun j e he => ?_, fun k hr => ?_, fun k hx => ?_⟩, h.framed.rosterSize.trans hs.size⟩
  · exact (hl _ (hh.entries j e he)).resolve_right fun hb => hb.entries j e he rfl
  · exact (hl _ (hh.runs k hr)).resolve_right fun hb => hr hb.run
  · exact (hl _ (hh.inFlight k hx)).resolve_right fun hb => by rw [hb.exch] at hx; cases hx

theorem State.AtHome.keepsPower (hs : s.AtHome) (h : Moves (Scope.any (s.laneLive · = true)) s t) (hk : KeepsPower s t) : t.AtHome :=
  hs.moves h fun k hl => .inl (by rw [hk.laneLive]; exact hl)

theorem laneLive_eq {k : Lane} (h : (t.lane k).power = (s.lane k).power) : t.laneLive k = s.laneLive k := by simp [State.laneLive, h]

/-- A change of a lane's power that does not take the lane out of LIVE. -/
theorem State.AtHome.modPower (hs : s.AtHome) {g : Power → Power} (hg : (s.lane l).power.state = .live → (g (s.lane l).power).state = .live) :
    (modPower l g s).AtHome := by
  refine hs.moves (modPower_moves trivial g s) fun k hk => .inl ?_
  rw [State.laneLive, modPower_lane_eq]
  split
  · next e =>
    subst e
    simpa using hg (by simpa [State.laneLive] using hk)
  · exact hk

theorem leaveLive_keepsPower {st : PowerState} (h : ∀ s, KeepsPower s (teardown l s)) (s : State) : KeepsPower s (leaveLive l st s) := by
  unfold leaveLive
  split
  · exact (evalComplete_keepsPower ..).trans (h _)
  · exact .refl s

theorem abandonExchange_keepsPower (l : Lane) (s : State) : KeepsPower s (abandonExchange l s) := by
  unfold abandonExchange
  split
  · exact endExchange_keepsPower ..
  · exact .refl s

theorem censusDown_keepsPower (l : Lane) (s : State) : KeepsPower s (censusDown l s) := by
  unfold censusDown
  split
  · exact endCensus_keepsPower ..
  · exact .refl s

theorem discardSupervision_keepsPower (l : Lane) (s : State) : KeepsPower s (discardSupervision l s) := by
  cases l <;> exact ⟨rfl, rfl, rfl, rfl, rfl, rfl, rfl, rfl, fun k => by cases k <;> rfl, fun k => by cases k <;> rfl⟩

theorem teardown_keepsPower (l : Lane) (s : State) : KeepsPower s (teardown l s) :=
  (abandonExchange_keepsPower ..).trans ((takeBackDue_keepsPower ..).trans ((censusDown_keepsPower ..).trans ((refuseForward_keepsPower ..).trans
    ((discardSupervision_keepsPower ..).trans (removeLane_keepsPower ..)))))

/-- The power of both lanes after an entry to a state: the lane's own is entered, the other's as before. -/
theorem enterPower_power (l : Lane) (st : PowerState) (c : LaneCause) (dp : DisablePending) (s : State) (k : Lane) :
    ((enterPower l st c dp s).lane k).power = if k = l then (s.lane l).power.entered st dp s.now else (s.lane k).power := by
  unfold enterPower
  dsimp only
  rw [(leaveLive_keepsPower (teardown_keepsPower l) _).power, (notify_keepsPower ..).power, modPower_lane_eq]
  split
  · next e => rw [e]
  · rfl

/-- An entry to a state other than LIVE: a lane that was LIVE is bare afterwards. -/
theorem State.AtHome.enterPower (hs : s.AtHome) {st : PowerState} (c : LaneCause) (dp : DisablePending) : (enterPower l st c dp s).AtHome := by
  refine hs.moves (enterPower_moves (any_powers _ l) st c dp s) fun k hk => ?_
  by_cases hkl : k = l
  · subst hkl
    have hlive : (s.lane k).power.state = .live := by simpa [State.laneLive] using hk
    refine .inr ?_
    unfold Machine.enterPower leaveLive
    dsimp only
    rw [if_pos hlive]
    exact teardown_bare k ((Moves.framed ((modPower_moves (A := Scope.any fun _ => False) trivial (Power.entered st dp s.now) s).trans
      ((notify_moves trivial (laneNotice k c (Machine.modPower k (Power.entered st dp s.now) s)) _).trans
        (evalComplete_moves (any_names _).toEvals k _)))).rosterSize.trans hs.size)
  · refine .inl ?_
    rw [laneLive_eq (s := s) (by rw [enterPower_power, if_neg hkl])]
    exact hk

theorem State.AtHome.enterFault (hs : s.AtHome) (why : Trip) : (enterFault l why s).AtHome :=
  (hs.modPower (g := fun p => { p with faultCount := min 3 ((s.lane l).power.faultCount + 1), lastFault := some why }) fun h => h).enterPower ..

theorem State.AtHome.enterWaiting (hs : s.AtHome) (c : LaneCause) : (enterWaiting l c s).AtHome := by
  unfold Machine.enterWaiting
  split
  · exact hs.enterFault _
  · exact hs.enterPower ..

theorem State.AtHome.enterLaneLive (hs : s.AtHome) : (enterLaneLive l s).AtHome := by
  have hentered : (Machine.modPower l (Power.entered .live .no s.now) s).AtHome := hs.modPower fun _ => rfl
  have hnotified : (notify (laneNotice l .ramped (Machine.modPower l (Power.entered .live .no s.now) s))
      (Machine.modPower l (Power.entered .live .no s.now) s)).AtHome := hentered.keepsPower (notify_moves trivial ..) (notify_keepsPower ..)
  have heval {s : State} (hs : s.AtHome) : (evalComplete l s).AtHome :=
    hs.keepsPower (evalComplete_moves (any_names _).toEvals l s) (evalComplete_keepsPower ..)
  unfold Machine.enterLaneLive
  dsimp only
  split
  · refine heval (hnotified.keepsPower (startCensus_moves (any_runs _ l) ?_ (fun _ => trivial) ..) (startCensus_keepsPower ..))
    show State.laneLive _ l = true
    rw [(notify_keepsPower ..).laneLive]
    simp [State.laneLive]
  · exact heval hnotified

/-! ### The operations of lane power -/

theorem State.AtHome.enableLane (hs : s.AtHome) (l : Lane) : (enableLane l s).AtHome := by
  unfold Machine.enableLane
  split
  · exact hs.enterWaiting _
  · exact hs

theorem State.AtHome.disableLane (hs : s.AtHome) (l : Lane) : (disableLane l s).AtHome := by
  unfold Machine.disableLane
  split
  · exact hs
  all_goals first
    | exact hs.enterPower ..
    | exact hs.modPower fun h => h

theorem State.AtHome.clearLatch (hs : s.AtHome) (l : Lane) : (clearLatch l s).AtHome := by
  unfold Machine.clearLatch
  split
  · exact (hs.modPower (g := fun p => { p with faultCount := 0 }) fun h => h).enterWaiting _
  · exact hs

/-- A change of a lane's timers. -/
theorem State.AtHome.timers (hs : s.AtHome) (f : Power → PowerTimers) : (Machine.modPower l (fun p => { p with timers := f p }) s).AtHome :=
  hs.modPower fun h => h

theorem State.AtHome.compareCurrent (hs : s.AtHome) : (compareCurrent l s).AtHome := by
  unfold Machine.compareCurrent
  split
  · split
    · exact hs.enterFault _
    · exact hs.timers _
  · exact hs

theorem State.AtHome.applyLimit (hs : s.AtHome) (n : Nat) : (applyLimit l n s).AtHome :=
  (hs.modPower (g := fun p => { p with limit := clampLimit (ceilingOf s.strap) n }) fun h => h).compareCurrent

theorem State.AtHome.watchCoupling (hs : s.AtHome) : (watchCoupling l s).AtHome := by
  unfold Machine.watchCoupling
  split
  · exact hs.timers _
  · exact hs

theorem State.AtHome.watchBackfeed (hs : s.AtHome) : (watchBackfeed l s).AtHome := by
  unfold Machine.watchBackfeed
  split
  · exact hs.timers _
  · exact hs

theorem State.AtHome.watchRemoval (hs : s.AtHome) : (watchRemoval l s).AtHome := by
  unfold Machine.watchRemoval
  split
  · exact hs.timers _
  · exact hs

theorem State.AtHome.unlock (hs : s.AtHome) : (unlock l s).AtHome := by
  unfold Machine.unlock
  split
  · exact hs.enterPower ..
  · exact hs.watchCoupling

theorem State.AtHome.senseCurrent (hs : s.AtHome) (n : Nat) : (senseCurrent l n s).AtHome := by
  unfold Machine.senseCurrent
  split
  · exact (hs.modPower (g := fun p => { p with laneCurrent := n }) fun h => h).compareCurrent.watchRemoval
  · exact hs

theorem State.AtHome.endDischarge (hs : s.AtHome) : (endDischarge l s).AtHome := by
  unfold Machine.endDischarge
  split <;> exact hs.enterPower ..

theorem State.AtHome.cooldownCheck (hs : s.AtHome) (b : Bool) : (cooldownCheck l b s).AtHome := by
  unfold Machine.cooldownCheck
  split
  · exact hs.enterPower ..
  · exact hs.timers fun p => { p.timers with cooldown := some (s.now + recheckMs) }

theorem State.AtHome.thermalLane (hs : s.AtHome) (l : Lane) : (thermalLane l s).AtHome := by
  unfold Machine.thermalLane
  split
  · split
    · exact (hs.enterFault _).enterPower ..
    · exact (hs.enterFault _).enterPower ..
    · exact hs.enterFault _
  · exact hs

/-- The clock, the flag, the queue of commands, the free values and the arm link are of no account to it. -/
theorem State.AtHome.frame (hs : s.AtHome) (pending : List Instr) (now choices : Nat) (flag : Bool) (arm : ArmLink) :
    ({ s with pending := pending, now := now, choices := choices, overTemp := flag, arm := arm } : State).AtHome := by
  have hl (k : Lane) : ({ s with pending := pending, now := now, choices := choices, overTemp := flag, arm := arm } : State).laneLive k = s.laneLive k := by
    cases k <;> rfl
  refine ⟨⟨fun j e he => (hl _).trans (hs.housed.entries j e he), fun k hr => (hl k).trans (hs.housed.runs k ?_),
    fun k hx => (hl k).trans (hs.housed.inFlight k ?_)⟩, hs.size⟩
  · cases k <;> exact hr
  · cases k <;> exact hx

theorem State.AtHome.setOverTemperature (hs : s.AtHome) : (setOverTemperature s).AtHome := by
  unfold Machine.setOverTemperature
  dsimp only
  split
  · have h := hs.frame s.pending s.now (s.choices + 1) true s.arm
    split
    · exact (h.thermalLane .b).thermalLane .a
    · exact (h.thermalLane .a).thermalLane .b
  · exact ((hs.frame s.pending s.now s.choices true s.arm).thermalLane .a).thermalLane .b

theorem State.AtHome.laneControl {action : Lane → State → State} (h : ∀ l t, t.AtHome → (action l t).AtHome) {args : List Octet} (hs : s.AtHome) :
    (laneControl action args s).2.AtHome := by
  unfold Machine.laneControl
  split
  · split
    · split
      · exact hs
      · exact h _ _ hs
    · exact hs
  · split
    · split
      · exact hs
      · exact h _ _ (hs.applyLimit _)
    · exact hs
  · exact hs

theorem State.AtHome.whenRunning (hs : s.AtHome) {f : State → State} (h : (f s).AtHome) : (whenRunning f s).AtHome := by
  unfold Machine.whenRunning
  split
  · exact hs
  · exact h

theorem State.AtHome.onTimer (hs : s.AtHome) {timer : PowerTimers → Option Nat} {f : State → State} (h : (f s).AtHome) : (onTimer l timer f s).AtHome := by
  refine hs.whenRunning ?_
  split
  · exact h
  · exact hs

/-- The commands of lane power keep entries, runs and exchanges at home. -/
theorem exec_atHome_of_power {c : Instr} (hs : s.AtHome) (hc : actsOnPower c = true) (h : exec c s = .next t) : t.AtHome := by
  have harm (s : State) (b : ArmLink) (hs : s.AtHome) : ({ s with arm := b } : State).AtHome := hs.frame s.pending s.now s.choices s.overTemp b
  have hsense (l : Lane) {g : Power → Power} (hg : ∀ p, (g p).state = p.state) : (Machine.modPower l g s).AtHome :=
    hs.modPower fun h => (hg _).trans h
  cases c <;> cases h
  case laneControlEnable => exact takeRequest_keeps harm (fun _ _ hs => hs.laneControl fun l _ h => h.enableLane l) hs
  case laneControlDisable => exact takeRequest_keeps harm (fun _ _ hs => hs.laneControl fun l _ h => h.disableLane l) hs
  case laneControlClearLatch => exact takeRequest_keeps harm (fun _ _ hs => hs.laneControl fun l _ h => h.clearLatch l) hs
  case laneControlNone => exact takeRequest_keeps harm (fun _ _ hs => hs.laneControl fun l _ h => h) hs
  case lockAssert l =>
    have h := hsense l (g := fun p => { p with lock := true }) fun _ => rfl
    exact h.whenRunning h.watchCoupling
  case lockDeassert l =>
    have h := hsense l (g := fun p => { p with lock := false }) fun _ => rfl
    exact h.whenRunning h.unlock
  case probeCurrentChange l n =>
    have h := hsense l (g := fun p => { p with probeCurrent := n }) fun _ => rfl
    exact h.whenRunning h.watchCoupling
  case backfeedVoltageChange l b =>
    have h := hsense l (g := fun p => { p with overSupply := b }) fun _ => rfl
    exact h.whenRunning h.watchBackfeed
  case rampVoltageReached l =>
    refine hs.whenRunning ?_
    split
    · exact hs.enterLaneLive
    · exact hs
  case laneCurrentChange l n => exact hs.whenRunning (hs.senseCurrent n)
  case qualifyTimerExpiry l => exact hs.onTimer (hs.enterPower ..)
  case rampTimerExpiry l => exact hs.onTimer (hs.enterFault _)
  case overcurrentMaskExpiry l => exact hs.onTimer (hs.enterFault _)
  case backfeedMaskExpiry l => exact hs.onTimer (hs.enterFault _)
  case removalTimerExpiry l => exact hs.onTimer (hs.enterPower ..)
  case liveStabilityExpiry l => exact hs.onTimer (hs.modPower fun h => h)
  case dischargeTimerExpiry l => exact hs.onTimer hs.endDischarge
  case cooldownExpiry l b => exact hs.onTimer (hs.cooldownCheck b)
  case overTemperatureSet =>
    refine hs.whenRunning ?_
    split
    · exact hs
    · exact hs.setOverTemperature
  all_goals cases hc

theorem exec_atHome (c : Instr) (s t : State) (hs : s.AtHome) (h : exec c s = .next t) : t.AtHome := by
  cases hr : resets c with
  | true =>
    obtain ⟨u, hu, hm⟩ | ⟨-, b, rfl⟩ := exec_resets hr h fun _ => False
    · have hh := (hu.housed (fun _ => False) (fun _ => False) fun _ => False)
      have hh := Idle.housed hm hh
      exact ⟨⟨fun j e he => (hh.entries j e he).elim, fun l h => (hh.runs l h).elim, fun l h => (hh.inFlight l h).elim⟩,
        hm.framed.rosterSize.trans hu.tablesSound.2.1⟩
    · exact hs.frame s.pending s.now s.choices s.overTemp b
  | false =>
    cases hp : actsOnPower c with
    | true => exact exec_atHome_of_power hs hp h
    | false =>
      have hm := exec_moves (home := (s.laneLive · = true)) (apart := False) hr h False.elim (fun _ h => h) hs.housed.inFlight
        (by rintro l rfl; cases hp)
      have hpower (k : Lane) : t.laneLive k = s.laneLive k := laneLive_eq ((hm.framed.power k).resolve_left (Bool.eq_false_iff.mp hp))
      have hh := hm.housed (fun _ h => h) (fun _ h => h) (fun _ h => h) hs.housed
      exact ⟨⟨fun j e he => (hpower _).trans (hh.entries j e he), fun k hr => (hpower k).trans (hh.runs k hr),
        fun k hx => (hpower k).trans (hh.inFlight k hx)⟩, hm.framed.rosterSize.trans hs.size⟩

/-- Settles O58: what comes to be, comes on a LIVE lane, and a lane that leaves LIVE is torn down whole. -/
theorem stepKeepsDevicesOnLiveLanes : Obligations.StepKeepsDevicesOnLiveLanes := by
  intro s t htables hroster hbus h
  have hs : s.AtHome := ⟨⟨hroster, fun l hr => hbus l (.inl hr), fun l hx => hbus l (.inr hx)⟩, htables.2.1⟩
  have ht := step_keeps (P := State.AtHome) (fun s p n c hs => hs.frame p n c s.overTemp s.arm) exec_atHome hs h
  refine ⟨?_, ht.housed.entries, fun l => Or.rec (ht.housed.runs l) (ht.housed.inFlight l)⟩
  refine step_keeps (P := State.tablesSound) (fun _ _ _ _ hs => hs) (fun c s t hs h => ?_) htables h
  obtain ⟨u, hu, hb⟩ | hb := exec_bounded h
  · exact hb.tables hu.tablesSound
  · exact hb.tables hs

end Sys2Proof.Machine
end

section
/-! Limits, fault counts and timers of lane power stay sound (O56). -/

namespace Sys2Proof.Machine

variable {s t : State} {l : Lane} {ceiling : Nat} {p : Power}

/-! ## Sound power -/

/-- A fault count that fits its state: FAULT follows a first or second fault, LATCHED a third (R32). -/
def CountFits (n : Nat) (st : PowerState) : Prop := n ≤ 3 ∧ (st = .latched → n = 3) ∧ (st = .fault → n = 1 ∨ n = 2)

/-- The states that no fault leads to. -/
abbrev PowerState.Faultless (st : PowerState) : Prop := st ≠ .latched ∧ st ≠ .fault

theorem CountFits.of_faultless {n : Nat} {st : PowerState} (hn : n ≤ 3) (hst : st.Faultless) : CountFits n st :=
  ⟨hn, fun h => absurd h hst.1, fun h => absurd h hst.2⟩

/-- The power of a lane under a ceiling is sound: what `powerSound` says of each lane. -/
structure Power.Sound (ceiling : Nat) (p : Power) : Prop where
  limit : 1 ≤ p.limit ∧ p.limit ≤ ceiling
  count : CountFits p.faultCount p.state
  timers : p.timers.InPlace p.state

theorem powerSound_iff : s.powerSound ↔ ∀ l, (s.lane l).power.Sound (ceilingOf s.strap) :=
  ⟨fun h l => ⟨(h l).1, (h l).2.1, (h l).2.2⟩, fun h l => ⟨(h l).limit, (h l).count, (h l).timers⟩⟩

theorem one_le_ceilingOf (code : Nat) : 1 ≤ ceilingOf code := by simp [ceilingOf]; omega

theorem watchTimer_isSome {holds : Bool} {now ms : Nat} {timer : Option Nat} (h : (watchTimer holds now ms timer).isSome = true) : holds = true := by
  unfold watchTimer at h
  split at h
  · assumption
  · cases h

/-- Every timer that an entry to a state leaves running belongs to the state (R20). -/
theorem timersOnEntry_inPlace (st : PowerState) (now : Nat) (p : Power) : (timersOnEntry st now p).InPlace st := by
  constructor <;> cases st <;> simp [timersOnEntry, PowerState.switched, PowerState.watchesBackfeed]

/-- A lane that enters a state is sound there when its limit is and its count fits the state. -/
theorem Power.entered_sound {st : PowerState} (hlimit : 1 ≤ p.limit ∧ p.limit ≤ ceiling) (hcount : CountFits p.faultCount st)
    (dp : DisablePending) (now : Nat) : (p.entered st dp now).Sound ceiling :=
  ⟨hlimit, hcount, timersOnEntry_inPlace st now p⟩

/-- The count after a fault fits the state that it leads to (R32). -/
theorem faultState_fits {n : Nat} (h1 : 1 ≤ n) (h3 : n ≤ 3) : CountFits n (faultState n) := by
  unfold faultState
  split
  · exact ⟨h3, nofun, fun _ => by omega⟩
  · exact ⟨h3, fun _ => by omega, nofun⟩

/-! ## Operations -/

/-- Whatever leaves power and strap alone keeps them sound. -/
theorem powerSound_of_same (hs : s.powerSound) (hstrap : t.strap = s.strap) (h : ∀ l, (t.lane l).power = (s.lane l).power) : t.powerSound := by
  rw [powerSound_iff] at hs ⊢
  intro l
  rw [h, hstrap]
  exact hs l

theorem modPower_powerSound (hs : s.powerSound) {g : Power → Power}
    (hg : ∀ c, (s.lane l).power.Sound c → (g (s.lane l).power).Sound c) : (modPower l g s).powerSound := by
  rw [powerSound_iff] at hs ⊢
  intro k
  rw [modPower_lane_eq, modPower_strap]
  split
  · next e =>
    subst e
    exact hg _ (hs k)
  · exact hs k

/-- A change of a lane's timers that keeps each in its state. -/
theorem timers_powerSound (hs : s.powerSound) {f : Power → PowerTimers}
    (hf : (s.lane l).power.timers.InPlace (s.lane l).power.state → (f (s.lane l).power).InPlace (s.lane l).power.state) :
    (modPower l (fun p => { p with timers := f p }) s).powerSound :=
  modPower_powerSound hs fun _ ⟨h1, h2, h3⟩ => ⟨h1, h2, hf h3⟩

/-- A change of what a lane senses. -/
theorem sense_powerSound (hs : s.powerSound) (g : Power → Power) (hg : ∀ p : Power, (g p).limit = p.limit ∧ (g p).faultCount = p.faultCount ∧
    (g p).state = p.state ∧ (g p).timers = p.timers) : (modPower l g s).powerSound := by
  refine modPower_powerSound hs fun c ⟨h1, h2, h3⟩ => ?_
  obtain ⟨e1, e2, e3, e4⟩ := hg (s.lane l).power
  exact ⟨by rw [e1]; exact h1, by rw [e2, e3]; exact h2, by rw [e3, e4]; exact h3⟩

theorem enterPower_strap (l : Lane) (st : PowerState) (c : LaneCause) (dp : DisablePending) (s : State) : (enterPower l st c dp s).strap = s.strap :=
  (enterPower_moves (any_powers (fun _ => False) l) st c dp s).framed.strap

/-- An entry to a state keeps power sound when the limit is sound and the count fits the state, whatever the lane's state was. -/
theorem enterPower_powerSound {st : PowerState} (hother : ∀ k, k ≠ l → (s.lane k).power.Sound (ceilingOf s.strap))
    (hlimit : s.limitSound l) (hcount : CountFits (s.lane l).power.faultCount st) (c : LaneCause) (dp : DisablePending) :
    (enterPower l st c dp s).powerSound := by
  rw [powerSound_iff]
  intro k
  rw [enterPower_power, enterPower_strap]
  split
  · exact Power.entered_sound hlimit hcount dp s.now
  · next h => exact hother k h

/-- A fault keeps power sound when the limit is sound and the count within 3. -/
theorem enterFault_powerSound (hother : ∀ k, k ≠ l → (s.lane k).power.Sound (ceilingOf s.strap)) (hlimit : s.limitSound l)
    (why : Trip) : (enterFault l why s).powerSound := by
  refine enterPower_powerSound (fun k hk => ?_) ?_ ?_ (.trip why) .no
  · rw [modPower_lane_eq, if_neg hk, modPower_strap]
    exact hother k hk
  · simpa [State.limitSound] using hlimit
  · simp only [modPower_lane]
    exact faultState_fits (by omega) (by omega)

/-- An entry to WAITING, or to FAULT while the flag is set. -/
theorem enterWaiting_powerSound (hother : ∀ k, k ≠ l → (s.lane k).power.Sound (ceilingOf s.strap)) (hlimit : s.limitSound l)
    (hcount : (s.lane l).power.faultCount ≤ 3) (c : LaneCause) : (enterWaiting l c s).powerSound := by
  unfold enterWaiting
  split
  · exact enterFault_powerSound hother hlimit _
  · exact enterPower_powerSound hother hlimit (.of_faultless hcount (by decide)) c .no

theorem State.powerSound.others (hs : s.powerSound) (l : Lane) : ∀ k, k ≠ l → (s.lane k).power.Sound (ceilingOf s.strap) :=
  fun k _ => powerSound_iff.mp hs k

theorem State.powerSound.enterFault (hs : s.powerSound) (why : Trip) : (enterFault l why s).powerSound :=
  enterFault_powerSound (hs.others l) (hs l).1 why

/-- An entry to a state that no fault leads to. -/
theorem State.powerSound.enterPower (hs : s.powerSound) {st : PowerState} (hst : st.Faultless) (c : LaneCause) (dp : DisablePending) :
    (enterPower l st c dp s).powerSound :=
  enterPower_powerSound (hs.others l) (hs l).1 (.of_faultless (hs l).2.1.1 hst) c dp

theorem State.powerSound.keepsPower (hs : s.powerSound) (h : KeepsPower s t) : t.powerSound := powerSound_of_same hs h.strap h.power

theorem State.powerSound.enterLaneLive (hs : s.powerSound) : (enterLaneLive l s).powerSound := by
  have hentered : (modPower l (Power.entered .live .no s.now) s).powerSound :=
    modPower_powerSound hs fun _ h => Power.entered_sound h.limit (.of_faultless h.count.1 (by decide)) .no s.now
  have hnotified := hentered.keepsPower (notify_keepsPower (laneNotice l .ramped (modPower l (Power.entered .live .no s.now) s)) _)
  unfold Machine.enterLaneLive
  dsimp only
  split
  · exact (hnotified.keepsPower (startCensus_keepsPower ..)).keepsPower (evalComplete_keepsPower ..)
  · exact hnotified.keepsPower (evalComplete_keepsPower ..)

theorem State.powerSound.enableLane (hs : s.powerSound) (l : Lane) : (enableLane l s).powerSound := by
  unfold Machine.enableLane
  split
  · exact enterWaiting_powerSound (hs.others l) (hs l).1 (hs l).2.1.1 _
  · exact hs

theorem State.powerSound.disableLane (hs : s.powerSound) (l : Lane) : (disableLane l s).powerSound := by
  unfold Machine.disableLane
  split
  · exact hs
  · exact hs.enterPower (by decide) _ _
  · exact hs.enterPower (by decide) _ _
  · exact hs.enterPower (by decide) _ _
  · exact hs.enterPower (by decide) _ _
  · exact hs.enterPower (by decide) _ _
  · exact sense_powerSound hs (fun p => { p with disablePending := if p.disablePending = .reset then .reset else .disable }) fun _ => ⟨rfl, rfl, rfl, rfl⟩

theorem State.powerSound.clearLatch (hs : s.powerSound) (l : Lane) : (clearLatch l s).powerSound := by
  unfold Machine.clearLatch
  split
  · refine enterWaiting_powerSound (fun k hk => ?_) ?_ ?_ _
    · rw [modPower_lane_eq, if_neg hk, modPower_strap]
      exact hs.others l k hk
    · simpa [State.limitSound] using (hs l).1
    · simp
  · exact hs

theorem State.powerSound.compareCurrent (hs : s.powerSound) : (compareCurrent l s).powerSound := by
  unfold Machine.compareCurrent
  split
  · next hsw =>
    split
    · exact hs.enterFault _
    · refine timers_powerSound hs fun h => { h with overcurrent := fun _ => ?_ }
      cases hst : (s.lane l).power.state <;> simp [hst, PowerState.switched] at hsw ⊢
  · exact hs

theorem State.powerSound.applyLimit (hs : s.powerSound) (n : Nat) : (applyLimit l n s).powerSound := by
  refine State.powerSound.compareCurrent ?_
  rw [powerSound_iff]
  intro k
  rw [modPower_lane_eq, modPower_strap]
  split
  · next e =>
    subst e
    obtain ⟨-, h2, h3⟩ := powerSound_iff.mp hs k
    have := one_le_ceilingOf s.strap
    exact ⟨show 1 ≤ clampLimit _ n ∧ clampLimit _ n ≤ _ by unfold clampLimit; omega, h2, h3⟩
  · exact powerSound_iff.mp hs k

theorem State.powerSound.watchCoupling (hs : s.powerSound) : (watchCoupling l s).powerSound := by
  unfold Machine.watchCoupling
  split
  · next hst => exact timers_powerSound hs fun h => { h with qualify := fun _ => hst }
  · exact hs

theorem State.powerSound.watchBackfeed (hs : s.powerSound) : (watchBackfeed l s).powerSound := by
  unfold Machine.watchBackfeed
  split
  · next hw =>
    refine timers_powerSound hs fun h => { h with backfeed := fun _ => ?_ }
    cases hst : (s.lane l).power.state <;> simp [hst, PowerState.watchesBackfeed] at hw ⊢
  · exact hs

theorem State.powerSound.watchRemoval (hs : s.powerSound) : (watchRemoval l s).powerSound := by
  unfold Machine.watchRemoval
  split
  · next hlive => exact timers_powerSound hs fun h => { h with removal := fun _ => by simpa [State.laneLive] using hlive }
  · exact hs

theorem State.powerSound.unlock (hs : s.powerSound) : (unlock l s).powerSound := by
  unfold Machine.unlock
  split
  · exact hs.enterPower (by decide) _ _
  · exact hs.watchCoupling

theorem State.powerSound.senseCurrent (hs : s.powerSound) (n : Nat) : (senseCurrent l n s).powerSound := by
  unfold Machine.senseCurrent
  split
  · have h := sense_powerSound (l := l) hs (fun p => { p with laneCurrent := n }) fun _ => ⟨rfl, rfl, rfl, rfl⟩
    exact h.compareCurrent.watchRemoval
  · exact hs

theorem State.powerSound.endDischarge (hs : s.powerSound) : (endDischarge l s).powerSound := by
  unfold Machine.endDischarge
  split <;> exact hs.enterPower (by decide) _ _

/-- A cooldown timer that runs says that the lane is in FAULT, where the next check may start. -/
theorem State.powerSound.cooldownCheck (hs : s.powerSound) (b : Bool) (hrun : (s.lane l).power.timers.cooldown.isSome = true) :
    (cooldownCheck l b s).powerSound := by
  unfold Machine.cooldownCheck
  split
  · exact hs.enterPower (by decide) _ _
  · exact timers_powerSound hs fun h => { h with cooldown := fun _ => h.cooldown hrun }

/-- A stability timer that runs says that the lane is LIVE, where every count fits (R34). -/
theorem State.powerSound.forgive (hs : s.powerSound) (hrun : (s.lane l).power.timers.stability.isSome = true) :
    (modPower l (fun p => { p with faultCount := 0, timers := { p.timers with stability := none } }) s).powerSound := by
  refine modPower_powerSound hs fun c ⟨h1, h2, h3⟩ => ⟨h1, ⟨Nat.zero_le _, fun h => ?_, fun h => ?_⟩, { h3 with stability := nofun }⟩
  · exact absurd ((h3.stability hrun).symm.trans h) nofun
  · exact absurd ((h3.stability hrun).symm.trans h) nofun

theorem State.powerSound.thermalLane (hs : s.powerSound) (l : Lane) : (thermalLane l s).powerSound := by
  unfold Machine.thermalLane
  split
  · split
    · exact (hs.enterFault _).enterPower (by decide) _ _
    · exact (hs.enterFault _).enterPower (by decide) _ _
    · exact hs.enterFault _
  · exact hs

/-- The clock, the pin, the flag, the queue of commands, the free values and the arm link are of no account to it. -/
theorem State.powerSound.frame (hs : s.powerSound) (pending : List Instr) (now choices : Nat) (flag : Bool) (arm : ArmLink) :
    ({ s with pending := pending, now := now, choices := choices, overTemp := flag, arm := arm } : State).powerSound :=
  powerSound_of_same hs rfl fun l => by cases l <;> rfl

theorem State.powerSound.arm (hs : s.powerSound) (b : ArmLink) : ({ s with arm := b } : State).powerSound :=
  hs.frame s.pending s.now s.choices s.overTemp b

theorem State.powerSound.setOverTemperature (hs : s.powerSound) : (setOverTemperature s).powerSound := by
  unfold Machine.setOverTemperature
  dsimp only
  split
  · have h := hs.frame s.pending s.now (s.choices + 1) true s.arm
    split
    · exact (h.thermalLane .b).thermalLane .a
    · exact (h.thermalLane .a).thermalLane .b
  · exact ((hs.frame s.pending s.now s.choices true s.arm).thermalLane .a).thermalLane .b

theorem State.powerSound.laneControl {action : Lane → State → State} (h : ∀ l t, t.powerSound → (action l t).powerSound) {args : List Octet}
    (hs : s.powerSound) : (laneControl action args s).2.powerSound := by
  unfold Machine.laneControl
  split
  · split
    · split
      · exact hs
      · exact h _ _ hs
    · exact hs
  · split
    · split
      · exact hs
      · exact h _ _ (hs.applyLimit _)
    · exact hs
  · exact hs

theorem State.powerSound.whenRunning (hs : s.powerSound) {f : State → State} (h : (f s).powerSound) : (whenRunning f s).powerSound := by
  unfold Machine.whenRunning
  split
  · exact hs
  · exact h

theorem State.powerSound.onTimer (hs : s.powerSound) {timer : PowerTimers → Option Nat} {f : State → State}
    (h : (timer (s.lane l).power.timers).isSome = true → (f s).powerSound) : (onTimer l timer f s).powerSound := by
  refine hs.whenRunning ?_
  split
  · next hr =>
    obtain ⟨m, hm, -⟩ := ranOut_iff.mp hr
    exact h (by simp [hm])
  · exact hs

/-! ## Resets -/

/-- A lane in a state without faults, with no fault counted and the limit at the ceiling, is sound. -/
theorem Power.sound_of_reset {st : PowerState} (hfree : st.Faultless) {code : Nat} (hst : p.state = st) (hcount : p.faultCount = 0)
    (hlimit : p.limit = ceilingOf code) (ht : p.timers.InPlace st) : p.Sound (ceilingOf code) :=
  ⟨hlimit.symm ▸ ⟨one_le_ceilingOf code, Nat.le_refl _⟩,
    .of_faultless (hcount ▸ Nat.zero_le 3) (hst ▸ hfree), hst ▸ ht⟩

theorem stopped_inPlace (st : PowerState) : PowerTimers.stopped.InPlace st := by constructor <;> nofun

theorem resetTo_sound (code : Nat) (p : Power) : (p.resetTo (ceilingOf code)).Sound (ceilingOf code) :=
  Power.sound_of_reset (st := .off) (by decide) rfl rfl rfl (stopped_inPlace _)

theorem softReset_sound (code now : Nat) (p : Power) : (p.softReset (ceilingOf code) now).Sound (ceilingOf code) := by
  unfold Power.softReset
  split
  · exact Power.sound_of_reset (st := .discharging) (by decide) rfl rfl rfl (timersOnEntry_inPlace ..)
  · exact Power.sound_of_reset (st := .off) (by decide) rfl rfl rfl (timersOnEntry_inPlace ..)

theorem softReset_powerSound (die : Bool) (s : State) : (softReset die s).powerSound := by
  have h : (softBlocks s).powerSound := powerSound_iff.mpr fun l => by cases l <;> exact softReset_sound ..
  unfold softReset
  split
  · exact h.setOverTemperature
  · exact h

theorem exec_powerSound_of_resets {c : Instr} (hs : s.powerSound) (hc : resets c = true) (h : exec c s = .next t) : t.powerSound := by
  have hreset (code : Nat) (now : Nat) (pin flag : Bool) :
      ({ resetBlocks code s with now := now, resetAsserted := pin, overTemp := flag } : State).powerSound :=
    powerSound_iff.mpr fun l => by cases l <;> exact resetTo_sound ..
  cases c <;> cases h
  case powerOn strap die => exact hreset (strapCode strap) 0 false die
  case pinReset => exact hreset s.strap s.now true false
  case resetRelease strap die =>
    split
    · exact hreset (strapCode strap) s.now false die
    · exact hs
  case resetPart die =>
    unfold takeReset
    split
    · split
      · split
        · unfold acceptReset
          split
          · exact (softReset_powerSound die _).arm _
          · exact softReset_powerSound die _
        · obtain ⟨b, hb⟩ := answerRequest_refuse .badLength _ s
          rw [hb]
          exact hs.arm b
      · exact hs
    · exact hs
  all_goals cases hc

theorem exec_powerSound_of_power {c : Instr} (hs : s.powerSound) (hc : actsOnPower c = true) (h : exec c s = .next t) : t.powerSound := by
  have harm (s : State) (b : ArmLink) (hs : s.powerSound) : ({ s with arm := b } : State).powerSound := hs.arm b
  cases c <;> cases h
  case laneControlEnable => exact takeRequest_keeps harm (fun _ _ hs => hs.laneControl fun l _ h => h.enableLane l) hs
  case laneControlDisable => exact takeRequest_keeps harm (fun _ _ hs => hs.laneControl fun l _ h => h.disableLane l) hs
  case laneControlClearLatch => exact takeRequest_keeps harm (fun _ _ hs => hs.laneControl fun l _ h => h.clearLatch l) hs
  case laneControlNone => exact takeRequest_keeps harm (fun _ _ hs => hs.laneControl fun l _ h => h) hs
  case lockAssert l =>
    have h := sense_powerSound (l := l) hs (fun p => { p with lock := true }) fun _ => ⟨rfl, rfl, rfl, rfl⟩
    exact h.whenRunning h.watchCoupling
  case lockDeassert l =>
    have h := sense_powerSound (l := l) hs (fun p => { p with lock := false }) fun _ => ⟨rfl, rfl, rfl, rfl⟩
    exact h.whenRunning h.unlock
  case probeCurrentChange l n =>
    have h := sense_powerSound (l := l) hs (fun p => { p with probeCurrent := n }) fun _ => ⟨rfl, rfl, rfl, rfl⟩
    exact h.whenRunning h.watchCoupling
  case backfeedVoltageChange l b =>
    have h := sense_powerSound (l := l) hs (fun p => { p with overSupply := b }) fun _ => ⟨rfl, rfl, rfl, rfl⟩
    exact h.whenRunning h.watchBackfeed
  case rampVoltageReached l =>
    refine hs.whenRunning ?_
    split
    · exact hs.enterLaneLive
    · exact hs
  case laneCurrentChange l n => exact hs.whenRunning (hs.senseCurrent n)
  case qualifyTimerExpiry l => exact hs.onTimer fun _ => hs.enterPower (by decide) _ _
  case rampTimerExpiry l => exact hs.onTimer fun _ => hs.enterFault _
  case overcurrentMaskExpiry l => exact hs.onTimer fun _ => hs.enterFault _
  case backfeedMaskExpiry l => exact hs.onTimer fun _ => hs.enterFault _
  case removalTimerExpiry l => exact hs.onTimer fun _ => hs.enterPower (by decide) _ _
  case liveStabilityExpiry l => exact hs.onTimer hs.forgive
  case dischargeTimerExpiry l => exact hs.onTimer fun _ => hs.endDischarge
  case cooldownExpiry l b => exact hs.onTimer (hs.cooldownCheck b)
  case overTemperatureSet =>
    refine hs.whenRunning ?_
    split
    · exact hs
    · exact hs.setOverTemperature
  all_goals cases hc

theorem exec_powerSound (c : Instr) (s t : State) (hs : s.powerSound) (h : exec c s = .next t) : t.powerSound := by
  cases hr : resets c with
  | true => exact exec_powerSound_of_resets hs hr h
  | false =>
    cases hp : actsOnPower c with
    | true => exact exec_powerSound_of_power hs hp h
    | false =>
      have hf := (exec_moves (home := fun _ => True) (apart := False) hr h False.elim (fun _ _ => trivial) (fun _ _ => trivial)
        fun _ _ => trivial).framed
      exact powerSound_of_same hs hf.strap fun l => (hf.power l).resolve_left (Bool.eq_false_iff.mp hp)

/-- Settles O56: each operation of lane power keeps limits, counts and timers sound, and no other command touches them. -/
theorem stepKeepsPowerSound : Obligations.StepKeepsPowerSound := by
  intro s t hs h
  exact step_keeps (P := State.powerSound) (fun s p n c hs => hs.frame p n c s.overTemp s.arm) exec_powerSound hs h

end Sys2Proof.Machine
end

section
/-! What lane completeness and the devices in hand look at (O37), the changes that leave it as it is, and the evaluation that makes it right again. -/

namespace Sys2Proof.Machine

variable {s t u : State} {l k : Lane} {slot : Nat} {H C : Lane → Prop}

/-! ## What is looked at -/

/-- What completeness and the devices in hand look at in an entry: its device, the reference with which it counts (none in a state that does not count), and
whether it is being assigned. -/
def Entry.seen (e : Entry) : Fingerprint × Option (Option Nat) × Bool :=
  (e.fp, if e.state.carriesData then some e.mapRef else none, e.state == .assigning)

/-- What a lane sees of a roster slot: of an entry of another lane, nothing. -/
def State.seen (s : State) (l : Lane) (j : Nat) : Option (Fingerprint × Option (Option Nat) × Bool) :=
  (s.entry j).bind fun e => if e.lane = l then some e.seen else none

/-- A change that a lane's completeness and the device in hand there do not see. -/
structure Kept (l : Lane) (s t : State) : Prop where
  live : t.laneLive l = s.laneLive l
  running : t.censusRunning l = s.censusRunning l
  find : (t.lane l).census.find = (s.lane l).census.find
  complete : (t.lane l).complete = (s.lane l).complete
  nameMap : t.nameMap = s.nameMap
  size : t.roster.length = s.roster.length
  seen : ∀ j, t.seen l j = s.seen l j

theorem Kept.refl (l : Lane) (s : State) : Kept l s s := ⟨rfl, rfl, rfl, rfl, rfl, rfl, fun _ => rfl⟩

theorem Kept.trans (h : Kept l s t) (h' : Kept l t u) : Kept l s u :=
  ⟨h'.live.trans h.live, h'.running.trans h.running, h'.find.trans h.find, h'.complete.trans h.complete, h'.nameMap.trans h.nameMap,
    h'.size.trans h.size, fun j => (h'.seen j).trans (h.seen j)⟩

theorem seen_eq (h : t.entry = s.entry) (l : Lane) (j : Nat) : t.seen l j = s.seen l j := by rw [State.seen, State.seen, h]

theorem seen_eq_none (h : ∀ e, s.entry slot = some e → e.lane ≠ l) : s.seen l slot = none := by
  unfold State.seen
  cases he : s.entry slot with
  | none => rfl
  | some e => simp [h e he]

theorem seen_of_entry {e : Entry} (he : s.entry slot = some e) (hl : e.lane = l) : s.seen l slot = some e.seen := by simp [State.seen, he, hl]

theorem entry_of_seen {x : Fingerprint × Option (Option Nat) × Bool} (h : s.seen l slot = some x) :
    ∃ e, s.entry slot = some e ∧ e.lane = l ∧ e.seen = x := by
  unfold State.seen at h
  cases he : s.entry slot with
  | none => simp [he] at h
  | some e =>
    by_cases hl : e.lane = l
    · exact ⟨e, rfl, hl, by simpa [he, hl] using h⟩
    · simp [he, hl] at h

/-! ## Counting -/

/-- A count over the entries of a table is a count over its places. -/
theorem countP_entriesFrom {α : Type} (p : α → Bool) (n : Nat) (xs : List (Option α)) :
    (entriesFrom n xs).countP (fun x => p x.2) = xs.countP (fun x => x.any p) := by
  induction xs generalizing n with
  | nil => rfl
  | cons x rest ih => cases x <;> simp [entriesFrom, List.countP_cons, ih]

/-- Counts over lists of one length agree when their tests agree place by place. -/
theorem countP_eq_of_getElem {α β : Type} {p : α → Bool} {q : β → Bool} {xs : List α} {ys : List β} (hlen : xs.length = ys.length)
    (h : ∀ (i : Nat) (hx : i < xs.length) (hy : i < ys.length), p xs[i] = q ys[i]) : xs.countP p = ys.countP q := by
  induction xs generalizing ys with
  | nil =>
    cases ys with
    | nil => rfl
    | cons y ys => cases hlen
  | cons x xs ih =>
    cases ys with
    | nil => cases hlen
    | cons y ys =>
      have h0 : p x = q y := h 0 (by simp) (by simp)
      rw [List.countP_cons, List.countP_cons, h0, ih (by simpa using hlen) fun i hx hy => h (i + 1) (by simpa using hx) (by simpa using hy)]

theorem getElem_roster {j : Nat} (h : j < s.roster.length) : s.roster[j] = s.entry j := by simp [State.entry, List.getD, List.getElem?_eq_getElem h]

/-- A test of an entry of a lane that only looks at what is seen. -/
theorem countEntries_kept (hsize : t.roster.length = s.roster.length) (hseen : ∀ j, t.seen l j = s.seen l j) {p : Entry → Bool}
    (hp : ∀ e f : Entry, e.seen = f.seen → p e = p f) : t.countEntries l p = s.countEntries l p := by
  unfold State.countEntries
  rw [countP_entriesFrom (fun e => e.lane == l && p e), countP_entriesFrom (fun e => e.lane == l && p e)]
  refine countP_eq_of_getElem hsize fun j hj hj' => ?_
  have h := hseen j
  rw [getElem_roster hj, getElem_roster hj']
  unfold State.seen at h
  cases ht : t.entry j with
  | none =>
    cases hs : s.entry j with
    | none => rfl
    | some e =>
      have hl : e.lane ≠ l := fun hl => by simp [ht, hs, hl] at h
      simp [hl]
  | some f =>
    cases hs : s.entry j with
    | none =>
      have hl : f.lane ≠ l := fun hl => by simp [ht, hs, hl] at h
      simp [hl]
    | some e =>
      by_cases hf : f.lane = l
      · by_cases he : e.lane = l
        · simp [hf, he, hp f e (by simpa [ht, hs, he, hf] using h)]
        · simp [ht, hs, he, hf] at h
      · by_cases he : e.lane = l
        · simp [ht, hs, he, hf] at h
        · rw [Option.any_some, Option.any_some, beq_eq_false_iff_ne.mpr hf, beq_eq_false_iff_ne.mpr he]
          rfl

theorem satisfied_kept (hsize : t.roster.length = s.roster.length) (hseen : ∀ j, t.seen l j = s.seen l j) (i : Nat) (m : MapEntry) :
    t.satisfied l i m = s.satisfied l i m := by
  have hcount {p : Entry → Bool} (hp : ∀ e f : Entry, e.seen = f.seen → p e = p f) := countEntries_kept hsize hseen hp
  unfold State.satisfied
  split
  · rw [hcount]
    intro e f h
    obtain ⟨hfp, hstate, -⟩ : e.fp = f.fp ∧ _ ∧ _ := by simpa [Entry.seen] using h
    have hc : e.state.carriesData = f.state.carriesData := by
      revert hstate
      cases e.state.carriesData <;> cases f.state.carriesData <;> simp
    rw [hfp, hc]
  · rw [hcount]
    intro e f h
    obtain ⟨-, hstate, -⟩ : e.fp = f.fp ∧ _ ∧ _ := by simpa [Entry.seen] using h
    revert hstate
    cases e.state.carriesData <;> cases f.state.carriesData <;> simp
    intro h
    rw [h]

theorem Kept.completeNow (h : Kept l s t) : t.completeNow l = s.completeNow l := by
  have hsat := satisfied_kept h.size h.seen
  simp only [State.completeNow, State.unsatisfied, State.mapEntries, h.live, h.running, h.nameMap, hsat]

/-! ## The two properties, lane by lane -/

/-- The device in hand on a lane, if there is one, is in a run and stands in the roster there: what `findsHome` says of the lane. -/
def State.homeOn (s : State) (l : Lane) : Prop :=
  ∀ g, (s.lane l).census.find = some g → (s.lane l).census.run ≠ .idle ∧
    ∃ slot e, s.entry slot = some e ∧ e.fp = g.fp ∧ e.lane = l ∧ (g.kind ≠ .rejoin → e.state = .assigning)

/-- The lane's completeness is as its condition stands: what `completeSound` says of the lane. -/
def State.completeOn (s : State) (l : Lane) : Prop := (s.lane l).complete = s.completeNow l

theorem Kept.completeOn (h : Kept l s t) (hs : s.completeOn l) : t.completeOn l := by rw [State.completeOn, h.complete, h.completeNow]; exact hs

theorem Kept.run (h : Kept l s t) (hs : (s.lane l).census.run ≠ .idle) : (t.lane l).census.run ≠ .idle := by
  have := h.running
  rw [State.censusRunning, State.censusRunning, bne_iff_ne.mpr hs] at this
  exact bne_iff_ne.mp this

theorem Kept.homeOn (h : Kept l s t) (hs : s.homeOn l) : t.homeOn l := by
  intro g hg
  rw [h.find] at hg
  obtain ⟨hrun, j, e, he, hfp, hl, hst⟩ := hs g hg
  obtain ⟨f, hf, hfl, hfe⟩ := entry_of_seen ((h.seen j).trans (seen_of_entry he hl))
  obtain ⟨h1, -, h3⟩ : f.fp = e.fp ∧ _ ∧ _ := by simpa [Entry.seen] using hfe
  exact ⟨h.run hrun, j, f, hf, h1.trans hfp, hfl, fun hk => by simpa [hst hk] using h3⟩

theorem homeOn_of_no_find (h : (s.lane l).census.find = none) : s.homeOn l := fun g hg => by rw [h] at hg; cases hg

/-- The devices in hand are at home on the lanes of `H`, completeness is right on those of `C`, and the roster has its size. -/
structure State.Tidy (H C : Lane → Prop) (s : State) : Prop where
  home : ∀ l, H l → s.homeOn l
  complete : ∀ l, C l → s.completeOn l
  size : s.roster.length = 32

/-- All lanes of `P` but one. -/
abbrev Besides (P : Lane → Prop) (l : Lane) : Lane → Prop := fun k => P k ∧ k ≠ l

theorem State.Tidy.besides (h : s.Tidy H C) (l : Lane) : s.Tidy (Besides H l) (Besides C l) :=
  ⟨fun k hk => h.home k hk.1, fun k hk => h.complete k hk.1, h.size⟩

/-- Completeness of a lane is no longer claimed. -/
theorem State.Tidy.open (h : s.Tidy H C) (l : Lane) : s.Tidy H (Besides C l) := ⟨h.home, fun k hk => h.complete k hk.1, h.size⟩

/-- The device in hand on a lane is no longer claimed to be at home. -/
theorem State.Tidy.release (h : s.Tidy H C) (l : Lane) : s.Tidy (Besides H l) C := ⟨fun k hk => h.home k hk.1, h.complete, h.size⟩

theorem State.Tidy.keep (h : s.Tidy H C) (hk : ∀ k, Kept k s t) : t.Tidy H C :=
  ⟨fun k hH => (hk k).homeOn (h.home k hH), fun k hC => (hk k).completeOn (h.complete k hC), (hk .a).size.trans h.size⟩

/-- A change that one lane alone sees. -/
theorem State.Tidy.keepOthers (h : s.Tidy (Besides H l) (Besides C l)) (hk : ∀ k, k ≠ l → Kept k s t) : t.Tidy (Besides H l) (Besides C l) :=
  ⟨fun k hH => (hk k hH.2).homeOn (h.home k hH), fun k hC => (hk k hC.2).completeOn (h.complete k hC),
    (hk (otherLane l) (by cases l <;> decide)).size.trans h.size⟩

/-- A lane where no device is in hand. -/
theorem State.Tidy.close (h : s.Tidy (Besides H l) C) (hf : s.homeOn l) : s.Tidy H C :=
  ⟨fun k hk => if e : k = l then e ▸ hf else h.home k ⟨hk, e⟩, h.complete, h.size⟩

/-! ## Changes that no lane sees -/

/-- The moves that neither completeness nor the devices in hand see. -/
def Scope.calm : Scope where
  part
    | .slot _ | .power _ | .census _ | .complete _ | .nameMap => False
    | _ => True
  home := fun _ => True
  apart := False

theorem Framed.kept {A : Scope} (h : Framed A s t) (hslot : ∀ j, ¬ A.part (.slot j)) (hpower : ¬ A.part (.power l)) (hcensus : ¬ A.part (.census l))
    (hcomplete : ¬ A.part (.complete l)) (hmap : ¬ A.part .nameMap) : Kept l s t where
  live := laneLive_eq ((h.power l).resolve_left hpower)
  running := by rw [State.censusRunning, (h.census l).resolve_left hcensus]; rfl
  find := by rw [(h.census l).resolve_left hcensus]
  complete := (h.complete l).resolve_left hcomplete
  nameMap := h.nameMap.resolve_left hmap
  size := h.rosterSize
  seen := seen_eq (funext fun j => (h.slot j).resolve_left (hslot j)) l

theorem Moves.kept (h : Moves Scope.calm s t) (k : Lane) : Kept k s t :=
  (Moves.framed h).kept (fun _ h => h) (fun h => h) (fun h => h) (fun h => h) (fun h => h)

theorem State.Tidy.calm (h : s.Tidy H C) (hm : Moves Scope.calm s t) : t.Tidy H C := h.keep (Moves.kept hm)

theorem calm_cycles : Scope.calm.Cycles := ⟨trivial, trivial, trivial⟩

theorem State.Tidy.notify (h : s.Tidy H C) (n : Notice) : (notify n s).Tidy H C := h.calm (notify_moves (A := Scope.calm) trivial n s)

/-- A change of a lane that is not seen there. -/
theorem modLane_kept {g : LaneState → LaneState} (hlive : ((g (s.lane l)).power.state == .live) = ((s.lane l).power.state == .live))
    (hrunning : ((g (s.lane l)).census.run != .idle) = ((s.lane l).census.run != .idle))
    (hfind : (g (s.lane l)).census.find = (s.lane l).census.find) (hcomplete : (g (s.lane l)).complete = (s.lane l).complete) (k : Lane) :
    Kept k s (modLane l g s) := by
  by_cases hk : k = l
  · subst hk
    exact ⟨by simp [State.laneLive, hlive], by simp [State.censusRunning, hrunning], by simp [hfind], by simp [hcomplete], by simp, by simp,
      seen_eq (funext fun j => modLane_entry ..) k⟩
  · have hl : (modLane l g s).lane k = s.lane k := by rw [modLane_lane_eq, if_neg hk]
    exact ⟨by rw [State.laneLive, hl]; rfl, by rw [State.censusRunning, hl]; rfl, by rw [hl], by rw [hl], by simp, by simp,
      seen_eq (funext fun j => modLane_entry ..) k⟩

/-- A change of a lane is not seen by the other. -/
theorem modLane_keptOther (g : LaneState → LaneState) (hk : k ≠ l) : Kept k s (modLane l g s) := by
  have hl : (modLane l g s).lane k = s.lane k := by rw [modLane_lane_eq, if_neg hk]
  exact ⟨by rw [State.laneLive, hl]; rfl, by rw [State.censusRunning, hl]; rfl, by rw [hl], by rw [hl], by simp, by simp,
    seen_eq (funext fun j => modLane_entry ..) k⟩

/-- A change of a Census Engine that leaves the run going or not and the device in hand. -/
theorem State.Tidy.modCensus (h : s.Tidy H C) {g : Census → Census} (hrun : ((g (s.lane l).census).run != .idle) = ((s.lane l).census.run != .idle) := by rfl)
    (hfind : (g (s.lane l).census).find = (s.lane l).census.find := by rfl) : (modCensus l g s).Tidy H C :=
  h.keep (modLane_kept (g := fun x => { x with census := g x.census }) rfl hrun hfind rfl)

/-- A change of the entry in a slot that no lane sees. -/
theorem setEntry_kept {e f : Entry} (he : s.entry slot = some e) (hl : f.lane = e.lane) (hseen : f.seen = e.seen) (k : Lane) :
    Kept k s (setEntry slot (some f) s) := by
  refine ⟨rfl, rfl, rfl, rfl, rfl, by simp, fun j => ?_⟩
  by_cases hj : slot = j
  · subst hj
    rw [State.seen, State.seen, entry_setEntry_same (slot_lt_of_entry he), he]
    simp [hl, hseen]
  · rw [State.seen, State.seen, entry_setEntry_ne hj]

theorem State.Tidy.setEntry_seen (h : s.Tidy H C) {e f : Entry} (he : s.entry slot = some e) (hl : f.lane = e.lane := by rfl)
    (hseen : f.seen = e.seen := by rfl) : (setEntry slot (some f) s).Tidy H C := h.keep (setEntry_kept he hl hseen)

/-- A slot that no entry of the lane leaves or takes is not seen there. -/
theorem setEntry_keptOther {x : Option Entry} (hold : ∀ e, s.entry slot = some e → e.lane ≠ k) (hnew : ∀ f, x = some f → f.lane ≠ k) :
    Kept k s (setEntry slot x s) := by
  refine ⟨rfl, rfl, rfl, rfl, rfl, by simp, fun j => ?_⟩
  by_cases hj : slot = j
  · subst hj
    rw [seen_eq_none hold, seen_eq_none fun f hf => ?_]
    by_cases hlt : slot < s.roster.length
    · rw [entry_setEntry_same hlt] at hf
      exact hnew f hf
    · rw [entry_eq_none (by simpa using hlt)] at hf
      cases hf
  · rw [State.seen, State.seen, entry_setEntry_ne hj]

/-! ## The evaluation -/

theorem completeNow_modLane_complete (b : Bool) : (modLane l (fun x => { x with complete := b }) s).completeNow k = s.completeNow k := by
  have hsat (i : Nat) (m : MapEntry) : (modLane l (fun x => { x with complete := b }) s).satisfied k i m = s.satisfied k i m :=
    satisfied_kept (by simp) (seen_eq (funext fun j => modLane_entry ..) k) i m
  have hlane : ((modLane l (fun x => { x with complete := b }) s).lane k).power = (s.lane k).power ∧
      ((modLane l (fun x => { x with complete := b }) s).lane k).census = (s.lane k).census := by
    rw [modLane_lane_eq]
    split <;> exact ⟨rfl, rfl⟩
  simp only [State.completeNow, State.unsatisfied, State.mapEntries, hsat, State.laneLive, State.censusRunning, hlane.1, hlane.2, modLane_nameMap]

/-- After its evaluation a lane's completeness is right (R137). -/
theorem evalComplete_completeOn (l : Lane) (s : State) : (evalComplete l s).completeOn l := by
  unfold evalComplete
  split
  · next h => exact h.symm
  · refine (Moves.kept (notify_moves (A := Scope.calm) trivial _ _) l).completeOn ?_
    rw [State.completeOn, completeNow_modLane_complete]
    simp

theorem evalComplete_home (l : Lane) (h : s.homeOn k) : (evalComplete l s).homeOn k := by
  have hd := evalComplete_keepsDevices (P := fun _ => False) l s
  intro g hg
  rw [hd.lane k] at hg ⊢
  obtain ⟨hrun, j, e, he, hrest⟩ := h g hg
  exact ⟨hrun, j, e, (hd.others j id).trans he, hrest⟩

theorem evalComplete_keptOther (l : Lane) (s : State) (hk : k ≠ l) : Kept k s (evalComplete l s) := by
  obtain ⟨-, h⟩ | ⟨-, h⟩ := evalComplete_cases l s
  · rw [h]
    exact .refl k s
  · rw [h]
    exact (modLane_keptOther _ hk).trans (Moves.kept (notify_moves (A := Scope.calm) trivial _ _) k)

/-- An evaluation claims a lane's completeness again. -/
theorem State.Tidy.eval (h : s.Tidy H (Besides C l)) : (evalComplete l s).Tidy H C where
  home k hk := evalComplete_home l (h.home k hk)
  complete k hk := if e : k = l then e ▸ evalComplete_completeOn l s else (evalComplete_keptOther l s e).completeOn (h.complete k ⟨hk, e⟩)
  size := (evalComplete_keepsDevices (P := fun _ => False) l s).size.trans h.size

theorem State.Tidy.evalAgain (h : s.Tidy H C) (l : Lane) : (evalComplete l s).Tidy H C := (h.open l).eval

/-- Both evaluations claim completeness whatever was claimed before. -/
theorem State.Tidy.evalBoth (h : s.Tidy H fun _ => False) (l : Lane) : (evalComplete (otherLane l) (evalComplete l s)).Tidy H C := by
  have h1 : (evalComplete l s).Tidy H (· = l) := State.Tidy.eval ⟨h.home, fun k hk => absurd hk.1 hk.2, h.size⟩
  refine State.Tidy.eval ⟨h1.home, fun k hk => h1.complete k ?_, h1.size⟩
  obtain ⟨-, hne⟩ := hk
  cases k <;> cases l <;> first | rfl | exact absurd rfl hne

end Sys2Proof.Machine
end

section
/-! What the operations on entries and runs keep of completeness and of the devices in hand (O37): naming, removal, runs, outcomes. -/

namespace Sys2Proof.Machine

variable {s t u : State} {l k : Lane} {slot : Nat} {H C : Lane → Prop}

/-! ## Work on one entry -/

/-- The entry in a slot is worked on: it stands on a lane whose evaluation is due, and it is not being assigned for a device in hand there. -/
structure State.Work (slot : Nat) (l : Lane) (H C : Lane → Prop) (s : State) : Prop where
  tidy : s.Tidy H (Besides C l)
  here : ∀ e, s.entry slot = some e → e.lane = l ∧ (H l → e.state ≠ .assigning)

theorem State.Work.eval (h : s.Work slot l H C) : (evalComplete l s).Tidy H C := h.tidy.eval

theorem State.Work.calm (h : s.Work slot l H C) (hm : Moves Scope.calm s t) (he : t.entry slot = s.entry slot) : t.Work slot l H C :=
  ⟨h.tidy.calm hm, by rw [he]; exact h.here⟩

theorem State.Work.notify (h : s.Work slot l H C) (n : Notice) : (notify n s).Work slot l H C := ⟨h.tidy.notify n, by simpa using h.here⟩

/-- The entry is rewritten as the same device; it may leave every state but ASSIGNING. -/
theorem State.Work.set (h : s.Work slot l H C) {e f : Entry} (he : s.entry slot = some e) (hl : f.lane = e.lane := by rfl) (hfp : f.fp = e.fp := by rfl)
    (hst : H l → e.state ≠ .assigning → f.state ≠ .assigning := by exact fun _ => nofun) : (setEntry slot (some f) s).Work slot l H C := by
  obtain ⟨hel, hes⟩ := h.here e he
  have hsame : (setEntry slot (some f) s).entry slot = some f := entry_setEntry_same (slot_lt_of_entry he) _
  refine ⟨⟨fun k hk g hg => ?_, fun k hk => ?_, by simpa using h.tidy.size⟩, fun x hx => ?_⟩
  · obtain ⟨hrun, j, y, hy, hyfp, hyl, hyst⟩ := h.tidy.home k hk g hg
    by_cases hj : slot = j
    · subst hj
      obtain rfl : e = y := Option.some.inj (he.symm.trans hy)
      obtain rfl : k = l := hyl.symm.trans hel
      exact ⟨hrun, slot, f, hsame, hfp.trans hyfp, hl.trans hyl, fun hkind => absurd (hyst hkind) (hes hk)⟩
    · exact ⟨hrun, j, y, (entry_setEntry_ne hj _).trans hy, hyfp, hyl, hyst⟩
  · refine (setEntry_keptOther (fun y hy => ?_) fun y hy => ?_).completeOn (h.tidy.complete k hk)
    · rw [he] at hy
      cases hy
      exact hel.symm ▸ hk.2.symm
    · cases hy
      exact (hl.trans hel).symm ▸ hk.2.symm
  · rw [hsame] at hx
    cases hx
    exact ⟨hl.trans hel, fun hH => hst hH (hes hH)⟩

theorem State.Work.modEntry (h : s.Work slot l H C) {f : Entry → Entry} (hl : ∀ e, (f e).lane = e.lane := by exact fun _ => rfl)
    (hfp : ∀ e, (f e).fp = e.fp := by exact fun _ => rfl) (hst : ∀ e, e.state ≠ .assigning → (f e).state ≠ .assigning := by exact fun _ h => h) :
    (modEntry slot f s).Work slot l H C := by
  unfold Machine.modEntry
  split
  · next e he => exact h.set he (hl e) (hfp e) fun _ => hst e
  · exact h

theorem State.Work.moveEntry (h : s.Work slot l H C) {f : Entry → Entry} (d : DeviceDetail) (c : DeviceCause) (hl : ∀ e, (f e).lane = e.lane := by exact fun _ => rfl)
    (hfp : ∀ e, (f e).fp = e.fp := by exact fun _ => rfl) (hst : ∀ e, (f e).state ≠ .assigning := by exact fun _ => nofun) :
    (moveEntry slot f d c s).Work slot l H C := by
  unfold Machine.moveEntry
  split
  · next e he => exact (h.set he (hl e) (hfp e) fun _ _ => hst e).notify _
  · exact h

theorem State.Work.enterLive (h : s.Work slot l H C) (c : DeviceCause) : (enterLive slot c s).Work slot l H C := h.moveEntry (f := Entry.toLive s.now) ..

theorem State.Work.proveOrEcho (h : s.Work slot l H C) (c : DeviceCause) : (proveOrEcho slot c s).Work slot l H C := by
  unfold Machine.proveOrEcho
  split
  · next e he =>
    split
    · exact h.enterLive c
    · exact h.set he rfl rfl fun _ hst => hst
  · exact h

theorem State.Work.enterProving (h : s.Work slot l H C) (c : DeviceCause) : (enterProving slot c s).Work slot l H C :=
  (h.moveEntry (f := Entry.toProving c) ..).proveOrEcho _

theorem State.Work.holdEntry (h : s.Work slot l H C) (w : HeldReason) : (holdEntry slot w s).Work slot l H C := by
  unfold Machine.holdEntry
  split
  · next e he =>
    split
    · exact h.set he rfl rfl fun _ hst => hst
    · exact h.moveEntry (f := fun e => { e with state := .held, held := some w }) ..
  · exact h

theorem State.Work.giveName (h : s.Work slot l H C) (c : Carried) : (giveName slot c s).Work slot l H C :=
  h.modEntry (f := fun e => { e with name := some c.name, source := some c.source, mapRef := c.mapRef, held := none })

theorem State.Work.notifyNamed (h : s.Work slot l H C) (c : Carried) : (notifyNamed slot c s).Work slot l H C := by
  unfold Machine.notifyNamed
  split
  · exact h.notify _
  · exact h

theorem State.Work.nameAndProve (h : s.Work slot l H C) (c : Carried) (cause : DeviceCause) : (nameAndProve slot l c cause s).Tidy H C :=
  (((h.giveName c).enterProving cause).notifyNamed c).eval

theorem State.Work.crossThreshold (h : s.Work slot l H C) : (crossThreshold slot s).Work slot l H C := by
  unfold Machine.crossThreshold
  split
  · split
    · exact h.enterLive _
    · exact h
  · exact h

/-- Work on an entry of a lane may begin anywhere. -/
theorem State.Tidy.work (h : s.Tidy H C) (hhere : ∀ e, s.entry slot = some e → e.lane = l ∧ (H l → e.state ≠ .assigning)) : s.Work slot l H C :=
  ⟨h.open l, hhere⟩

theorem State.Tidy.workOn (h : s.Tidy H C) {e : Entry} (he : s.entry slot = some e) (hst : H e.lane → e.state ≠ .assigning) : s.Work slot e.lane H C :=
  h.work fun f hf => by
    rw [he] at hf
    cases hf
    exact ⟨rfl, hst⟩

/-! ## Resolution and removal -/

/-- A change of the provisional cursor is seen by no lane. -/
theorem Kept.range (k : Lane) (s : State) (r : NameRange) : Kept k s { s with range := r } := by
  cases k <;> exact ⟨rfl, rfl, rfl, rfl, rfl, rfl, fun _ => rfl⟩

theorem State.Tidy.range (h : s.Tidy H C) (r : NameRange) : ({ s with range := r } : State).Tidy H C := h.keep fun k => Kept.range k s r

theorem State.Tidy.resolveEntry (h : s.Tidy H C) (hst : ∀ e, s.entry slot = some e → H e.lane → e.state ≠ .assigning) (cause : DeviceCause) :
    (resolveEntry slot cause s).Tidy H C := by
  unfold Machine.resolveEntry
  split
  · next e he =>
    split
    · next n src ref cursor _ =>
      exact ((h.range { s.range with cursor := cursor }).workOn (slot := slot) (e := e) he (hst e he)).nameAndProve ..
    · exact ((h.workOn he (hst e he)).holdEntry _).eval
  · exact h

theorem State.Tidy.reresolveSlot (h : s.Tidy H C) (j : Nat) : (reresolveSlot s j).Tidy H C := by
  unfold Machine.reresolveSlot
  split
  · next hheld =>
    refine h.resolveEntry (fun e he _ hst => ?_) _
    simp [State.slotHeld, he, hst] at hheld
  · exact h

theorem State.Tidy.foldl {α : Type} {f : State → α → State} (hf : ∀ s a, s.Tidy H C → (f s a).Tidy H C) (h : s.Tidy H C) (xs : List α) :
    (xs.foldl f s).Tidy H C := by
  induction xs generalizing s with
  | nil => exact h
  | cons x xs ih => exact ih (hf s x h)

theorem State.Tidy.reresolveHeld (h : s.Tidy H C) : (reresolveHeld s).Tidy H C := State.Tidy.foldl (fun _ j h => h.reresolveSlot j) h _

/-- The removal of an entry that is no device in hand. -/
theorem State.Tidy.removeEntry (h : s.Tidy H C) (hfree : ∀ e g, s.entry slot = some e → H e.lane → (s.lane e.lane).census.find = some g → g.fp ≠ e.fp)
    (cause : DeviceCause) : (removeEntry slot cause s).Tidy H C := by
  unfold Machine.removeEntry
  split
  · next e he =>
    have hgone : (setEntry slot none s).Tidy H fun _ => False := by
      refine ⟨fun k hk g hg => ?_, fun _ => False.elim, by simpa using h.size⟩
      obtain ⟨hrun, j, y, hy, hyfp, hyl, hyst⟩ := h.home k hk g hg
      refine ⟨hrun, j, y, (entry_setEntry_ne (fun hj => ?_) _).trans hy, hyfp, hyl, hyst⟩
      subst hj
      obtain rfl : e = y := Option.some.inj (he.symm.trans hy)
      exact hfree e g he (hyl.symm ▸ hk) (hyl.symm ▸ hg) hyfp.symm
    exact (hgone.notify _).reresolveHeld.evalBoth e.lane
  · exact h

/-- A lane's entries go while no device in hand is claimed there. -/
theorem State.Tidy.removeLane (h : s.Tidy (Besides H l) C) (cause : DeviceCause) : (removeLane l cause s).Tidy (Besides H l) C := by
  refine State.Tidy.foldl (fun s j h => ?_) h _
  unfold removeIfOn
  split
  · next e he =>
    split
    · next hl =>
      refine h.removeEntry (fun f g hf hH => ?_) _
      rw [he] at hf
      cases hf
      exact absurd hl hH.2
    · exact h
  · exact h

/-- The moves of a removal leave the Census Engines alone. -/
def Scope.rosterOnly : Scope where
  part
    | .census _ => False
    | _ => True
  home := fun _ => False
  apart := False

theorem rosterOnly_names : Scope.rosterOnly.Names := { notices := trivial, complete := fun _ => trivial, cursor := trivial }

theorem Moves.census (h : Moves Scope.rosterOnly s t) (k : Lane) : (t.lane k).census = (s.lane k).census := ((Moves.framed h).census k).resolve_left id

theorem removeEntry_census (cause : DeviceCause) (s : State) (k : Lane) : ((removeEntry slot cause s).lane k).census = (s.lane k).census :=
  Moves.census (removeEntry_moves rosterOnly_names trivial (fun _ _ => trivial) cause) k

theorem removeLane_census (l : Lane) (cause : DeviceCause) (s : State) (k : Lane) : ((removeLane l cause s).lane k).census = (s.lane k).census :=
  Moves.census (removeLane_moves rosterOnly_names (fun _ _ _ _ => trivial) (fun _ _ => trivial) cause) k

/-! ## Runs -/

/-- What happens to a lane is not seen by the other. -/
theorem State.Tidy.ownLane (h : s.Tidy (Besides H l) (Besides C l)) (g : LaneState → LaneState) : (modLane l g s).Tidy (Besides H l) (Besides C l) :=
  h.keepOthers fun _ hk => modLane_keptOther g hk

theorem State.Tidy.noFind (h : s.Tidy (Besides H l) C) (hf : (s.lane l).census.find = none) : s.Tidy H C := h.close (homeOn_of_no_find hf)

/-- The changes of a lane outside power, census and completeness. -/
theorem State.Tidy.lane (h : s.Tidy H C) {g : LaneState → LaneState} (hp : (g (s.lane l)).power = (s.lane l).power := by rfl)
    (hc : (g (s.lane l)).census = (s.lane l).census := by rfl) (hx : (g (s.lane l)).complete = (s.lane l).complete := by rfl) : (modLane l g s).Tidy H C :=
  h.keep (modLane_kept (by rw [hp]) (by rw [hc]) (by rw [hc]) hx)

theorem State.Tidy.takeBackDue (h : s.Tidy H C) (l : Lane) : (takeBackDue l s).Tidy H C := h.calm (takeBackDue_moves calm_cycles l s)

theorem State.Tidy.refuseForward (h : s.Tidy H C) (l : Lane) (why : Reason) : (refuseForward l why s).Tidy H C :=
  h.calm (refuseForward_moves (A := Scope.calm) trivial trivial trivial why s)

theorem State.Tidy.setOffer (h : s.Tidy H C) (l : Lane) (o : Option CensusOffer) : (setOffer l o s).Tidy H C :=
  h.modCensus (g := fun c => { c with offer := o })

theorem State.Tidy.offerProbe (h : s.Tidy H C) (l : Lane) (p : Prefix) (n : Nat) (ks : List Nat) : (offerProbe l p n ks s).Tidy H C :=
  h.modCensus (g := fun c => { c with hand := some ⟨p, n, ks, []⟩, offer := some (.probe p) })

theorem State.Tidy.offerOpening (h : s.Tidy H C) (l : Lane) : (offerOpening l s).Tidy H C := by
  unfold Machine.offerOpening
  split
  · exact h.setOffer ..
  · exact h.offerProbe ..

theorem evalComplete_census (l : Lane) (s : State) (k : Lane) : ((evalComplete l s).lane k).census = (s.lane k).census := by
  rw [(evalComplete_keepsDevices (P := fun _ => False) l s).lane k]

theorem calm_census (h : Moves Scope.calm s t) (k : Lane) : (t.lane k).census = (s.lane k).census := ((Moves.framed h).census k).resolve_left id

/-- Whatever was so on the lane, a run that starts there leaves it right: no device is in hand, and completeness is evaluated. -/
theorem State.Tidy.startCensus (h : s.Tidy (Besides H l) (Besides C l)) (m : CensusMode) : (startCensus l m s).Tidy H C := by
  have hback := takeBackDue_moves calm_cycles l (Machine.modCensus l (Census.started m) s)
  have hstarted : (Machine.takeBackDue l (Machine.modCensus l (Census.started m) s)).Tidy (Besides H l) (Besides C l) :=
    (h.ownLane fun x => { x with census := x.census.started m }).calm hback
  have hfind : ((Machine.takeBackDue l (Machine.modCensus l (Census.started m) s)).lane l).census.find = none := by
    rw [calm_census hback]
    simp [Census.started]
  cases m with
  | fresh =>
    have hgone : (Machine.removeLane l .recensus (Machine.takeBackDue l (Machine.modCensus l (Census.started .fresh) s))).Tidy H (Besides C l) :=
      (hstarted.removeLane (l := l) .recensus).noFind ((removeLane_census ..).symm ▸ hfind)
    exact (((hgone.refuseForward l .laneBusy).lane (g := fun x => { x with unaddress := [] })).eval).setOffer l (some .broadcast)
  | additive =>
    have hopen := (hstarted.noFind hfind).refuseForward l .laneBusy
    exact ((hopen.keep (modLane_kept (g := fun x => { x with census := { x.census with taken := x.unaddress }, unaddress := [] }) rfl rfl rfl rfl)).eval).offerOpening l

/-- The end of a run leaves the lane right, whatever was so there. -/
theorem State.Tidy.endCensus (h : s.Tidy (Besides H l) (Besides C l)) (o : CensusOutcome) : (endCensus l o s).Tidy H C := by
  have hended := h.ownLane fun x => { x with census := x.census.ended o, unaddress := x.census.taken ++ x.unaddress }
  exact ((hended.noFind (by simp [Census.ended])).notify _).eval

theorem State.Tidy.endsCensus (h : s.Tidy H C) (l : Lane) (o : CensusOutcome) : (Machine.endCensus l o s).Tidy H C := (h.besides l).endCensus o

theorem State.Tidy.recallCensus (h : s.Tidy H C) (l : Lane) : (recallCensus l s).Tidy H C := by
  unfold Machine.recallCensus
  split
  · exact (h.besides l).startCensus _
  · exact h

/-! ## Outcomes at an entry -/

theorem State.Work.enterLost (h : s.Work slot l H C) (c : DeviceCause) : (enterLost slot l c s).Tidy H C :=
  (h.moveEntry (f := Entry.toLost s.now) ..).eval.recallCensus l

theorem State.Work.enterSuspect (h : s.Work slot l H C) (c : DeviceCause) : (enterSuspect slot l c s).Tidy H C :=
  (h.moveEntry (f := fun e => { e with state := .suspect, fail := 1, silenceFrom := none, echo := true, checked := false }) ..).eval

theorem State.Tidy.applyOk (h : s.Tidy H C) {e : Entry} (he : s.entry slot = some e) : (applyOk slot e s).Tidy H C := by
  unfold Machine.applyOk
  split
  · next hst =>
    have hne : e.state ≠ .assigning := by rw [hst]; nofun
    exact (((h.workOn he fun _ => hne).set (f := { e with clean := min 15 (e.clean + 1), fail := 0 }) he rfl rfl fun _ _ => hne).proveOrEcho _).eval
  · exact h.setEntry_seen (f := { e with silenceFrom := some s.now, echo := false, checked := false }) he
  · next hst => exact ((h.workOn he fun _ => by rw [hst]; nofun).enterLive _).eval
  · next hst => exact ((h.workOn he fun _ => by rw [hst]; nofun).enterProving _).eval
  · exact h
  · exact h

theorem State.Work.lostOrEcho (h : s.Work slot l H C) {e f : Entry} (he : s.entry slot = some e) (hl : f.lane = e.lane) (hfp : f.fp = e.fp)
    (hst : f.state = e.state) (href : f.mapRef = e.mapRef) (c : DeviceCause) (hs : s.Tidy H C) : (lostOrEcho slot f c s).Tidy H C := by
  unfold Machine.lostOrEcho
  split
  · obtain rfl : f.lane = l := hl.trans (h.here e he).1
    exact (h.set he hl hfp fun _ hne => hst.symm ▸ hne).enterLost c
  · exact hs.setEntry_seen (f := { f with echo := true }) he hl (by simp [Entry.seen, hfp, hst, href])

theorem State.Tidy.applyFailure (h : s.Tidy H C) {e : Entry} (he : s.entry slot = some e) (o : ExchangeOutcome) : (applyFailure slot e o s).Tidy H C := by
  unfold Machine.applyFailure
  split
  · next hst =>
    exact (h.workOn he fun _ => by rw [hst]; nofun).lostOrEcho (f := { e with clean := 0, fail := min 7 (e.fail + 1) }) he rfl rfl rfl rfl _ h
  · next hst =>
    have hw := h.workOn he fun _ => by rw [hst]; nofun
    split
    · exact (hw.enterProving _).eval
    · split
      · exact (hw.set (f := { e with fail := 1 }) he rfl rfl fun _ hne => hne).enterLost _
      · exact hw.enterSuspect _
  · next hst =>
    have hw := h.workOn he fun _ => by rw [hst]; nofun
    split
    · exact (hw.enterProving _).eval
    · exact hw.lostOrEcho (f := { e with fail := min 7 (e.fail + 1) }) he rfl rfl rfl rfl _ h
  · exact h
  · exact h
  · exact h

theorem State.Tidy.applyOutcome (h : s.Tidy H C) (r : EntryRef) (o : ExchangeOutcome) (status : Option Octet) : (applyOutcome r o status s).Tidy H C := by
  unfold Machine.applyOutcome
  split
  · exact h
  · next e hr =>
    obtain ⟨he, -, -⟩ := referenced_eq_some hr
    split
    · exact h
    · split
      · exact h
      · exact (h.setEntry_seen (f := e.refreshed s.now status) he).applyOk (entry_setEntry_same (slot_lt_of_entry he) _)
      · exact h.applyFailure he _
      · exact h.applyFailure he _

theorem State.Tidy.silenceDue (h : s.Tidy H C) (slot : Nat) : (silenceDue slot s).Tidy H C := by
  unfold Machine.silenceDue
  split
  · next e he =>
    split
    · exact h.setEntry_seen (f := { e with echo := true, checked := true }) he
    · exact h
  · exact h

theorem State.Tidy.recallDue (h : s.Tidy H C) (slot : Nat) : (recallDue slot s).Tidy H C := by
  unfold Machine.recallDue
  split
  · next e he =>
    split
    · exact h.setEntry_seen (f := { e with echo := true, recallFrom := some s.now }) he
    · exact h
  · exact h

end Sys2Proof.Machine
end

section
/-! What the census walk and the exchanges keep of completeness and of the devices in hand (O37). -/

namespace Sys2Proof.Machine

/- These proofs are elaborated one after another: side by side they keep more threads waiting than the check has memory for. -/
set_option Elab.async false

variable {s t u : State} {l k : Lane} {slot : Nat} {H C : Lane → Prop}

theorem calm_devicesDistinct (h : Moves Scope.calm s t) (hd : s.DevicesDistinct) : t.DevicesDistinct :=
  (NoNewDevice.of_entries fun j => ((Moves.framed h).slot j).resolve_left id).devicesDistinct hd

/-! ## The walk -/

theorem State.Tidy.nextRecord (h : s.Tidy H C) (l : Lane) : (nextRecord l s).Tidy H C := by
  unfold Machine.nextRecord
  split
  · next p rest _ => exact (h.modCensus (l := l) (g := fun c => { c with work := rest })).offerProbe ..
  · split
    · exact (h.modCensus (l := l) (g := fun c => { c with confirming := c.confirming + 1 })).offerProbe ..
    · exact h.endsCensus ..

theorem State.Tidy.countDuplicate (h : s.Tidy H C) (l : Lane) : (countDuplicate l s).Tidy H C := h.calm (countDuplicate_moves (A := Scope.calm) trivial s)

theorem State.Tidy.declareDuplicate (h : s.Tidy H C) (l : Lane) (f : Fingerprint) (x : Bool) : (declareDuplicate l f x s).Tidy H C :=
  ((h.modCensus (l := l) (g := fun c => { c with dups := min 255 (c.dups + 1) })).countDuplicate l).notify _

theorem State.Tidy.declareOpen (h : s.Tidy H C) (l : Lane) (p : ProbeInHand) : (declareOpen l p s).Tidy H C :=
  State.Tidy.foldl (fun _ _ h => h.declareDuplicate ..) h _

theorem State.Tidy.pushChildren (h : s.Tidy H C) (l : Lane) (p : Prefix) (ks : List Nat) : (pushChildren l p ks s).Tidy H C := by
  unfold Machine.pushChildren
  split
  · exact (h.modCensus (l := l) (g := fun c => { c with work := ks.map p.child ++ c.work })).nextRecord l
  · exact h.endsCensus ..

theorem State.Tidy.afterFinds (h : s.Tidy H C) (l : Lane) : (afterFinds l s).Tidy H C := by
  unfold Machine.afterFinds
  split
  · exact h.nextRecord l
  · split
    · exact h.endsCensus ..
    · split
      · exact h.pushChildren ..
      · split
        · exact h.nextRecord l
        · split
          · exact (h.declareOpen ..).nextRecord l
          · exact h.offerProbe ..

/-! ## Finds -/

/-- A new entry is seen by no other lane. -/
theorem State.Tidy.create (h : s.Tidy (Besides H l) C) {x : Find} (hx : (s.lane l).census.find = some x) (hrun : (s.lane l).census.run ≠ .idle)
    (hslot : s.freeSlot = some slot) (a : Nat) : (setEntry slot (some (.assigned l a x.fp)) s).Tidy H (Besides C l) := by
  have hfree := entry_of_freeSlot hslot
  have hlt : slot < s.roster.length := h.size ▸ List.mem_range.mp (List.mem_of_find?_eq_some hslot)
  have hother : (setEntry slot (some (.assigned l a x.fp)) s).Tidy (Besides H l) (Besides C l) :=
    (h.open l).keepOthers fun k hk => setEntry_keptOther (fun e he => by rw [hfree] at he; cases he) fun f hf => by
      cases hf
      exact hk.symm
  refine hother.close fun g hg => ⟨hrun, slot, _, entry_setEntry_same hlt _, ?_, rfl, fun _ => rfl⟩
  cases hx.symm.trans hg
  rfl

theorem State.Tidy.createEntry (h : s.Tidy (Besides H l) C) {x : Find} (hx : (s.lane l).census.find = some x) (hrun : (s.lane l).census.run ≠ .idle) :
    (createEntry l x.fp s).Tidy H C := by
  unfold Machine.createEntry
  split
  · next slot a hslot _ => exact (h.create hx hrun hslot a).eval.setOffer ..
  · exact (h.open l).endCensus _

/-- An entry that moves away is not the device in hand on its lane (R81). -/
theorem find_ne_of_move (hd : s.DevicesDistinct) {f : Fingerprint} {e : Entry} (hdec : s.decideFind l f = .move slot e) (hk : k ≠ l) (hs : s.homeOn k)
    {g : Find} (hg : (s.lane k).census.find = some g) : g.fp ≠ f := by
  obtain ⟨he, hfp, hl, hlost, hrejoin⟩ := decideFind_move hdec
  rintro rfl
  obtain ⟨-, j, y, hy, hyfp, -, hyst⟩ := hs g hg
  obtain rfl := hd.fingerprints slot j e y he hy (hfp.trans hyfp.symm)
  cases he.symm.trans hy
  obtain rfl : k = otherLane l := by revert hk; cases k <;> cases l <;> simp [otherLane]
  have hkind : g.kind ≠ .rejoin := fun hkind => by simp [State.rejoining, hg, hkind] at hrejoin
  exact absurd (hlost.symm.trans (hyst hkind)) nofun

/-- The lane of the entry of a find: a rejoin is of the run's lane (R81). -/
theorem decideFind_rejoin {f : Fingerprint} {a : Nat} (h : s.decideFind l f = .rejoin a) :
    ∃ slot e, s.entry slot = some e ∧ e.fp = f ∧ e.lane = l ∧ e.address = a := by
  unfold State.decideFind at h
  split at h
  · cases h
  · next slot e hs =>
    obtain ⟨he, hfp⟩ := findEntry_some hs
    split at h
    · next hl =>
      cases h
      exact ⟨slot, e, he, by simpa using hfp, hl, rfl⟩
    · split at h <;> cases h

theorem takeInHand_find (l : Lane) (x : Find) (rest : List Fingerprint) (s : State) : ((takeInHand l x rest s).lane l).census.find = some x := by
  simp [takeInHand]

theorem takeInHand_run (l : Lane) (x : Find) (rest : List Fingerprint) (s : State) :
    ((takeInHand l x rest s).lane l).census.run = (s.lane l).census.run := by simp [takeInHand]

/-- Completeness does not look at the device in hand. -/
theorem modCensus_completeOn {g : Census → Census} (hrun : ((g (s.lane l).census).run != .idle) = ((s.lane l).census.run != .idle))
    (h : s.completeOn k) : (modCensus l g s).completeOn k := by
  by_cases hl : k = l
  · subst hl
    have hsat (i : Nat) (m : MapEntry) : (modCensus k g s).satisfied k i m = s.satisfied k i m :=
      satisfied_kept (by simp) (seen_eq (funext fun j => modCensus_entry ..) k) i m
    rw [State.completeOn, State.completeNow, State.unsatisfied] at h ⊢
    simpa only [State.mapEntries, hsat, State.laneLive, State.censusRunning, modCensus_nameMap, modCensus_lane, hrun] using h
  · exact (modLane_keptOther (g := fun x => { x with census := g x.census }) hl).completeOn h

/-- A change of the device in hand is seen by its lane alone. -/
theorem State.Tidy.changeFind (h : s.Tidy H C) {g : Census → Census} (hrun : ((g (s.lane l).census).run != .idle) = ((s.lane l).census.run != .idle)) :
    (Machine.modCensus l g s).Tidy (Besides H l) C :=
  ⟨fun k hk => (modLane_keptOther _ hk.2).homeOn (h.home k hk.1), fun k hk => modCensus_completeOn hrun (h.complete k hk), by simpa using h.size⟩

theorem State.Tidy.takeInHand (h : s.Tidy H C) (l : Lane) (x : Find) (rest : List Fingerprint) : (takeInHand l x rest s).Tidy (Besides H l) C :=
  h.changeFind (g := fun c => { c with find := some x, hand := c.hand.map (fun h => { h with finds := rest }) }) rfl

theorem State.Tidy.takeFinds (h : s.Tidy H C) (hd : s.DevicesDistinct) (hrun : (s.lane l).census.run ≠ .idle) (fs : List Fingerprint) :
    (takeFinds l fs s).Tidy H C := by
  induction fs generalizing s with
  | nil => exact h.afterFinds l
  | cons f rest ih =>
    unfold Machine.takeFinds
    split
    · next a hdec =>
      obtain ⟨slot, e, he, hfp, hl, -⟩ := decideFind_rejoin hdec
      refine ((h.takeInHand l ⟨f, .rejoin, none⟩ rest).close fun g hg => ?_).setOffer ..
      rw [takeInHand_find] at hg
      cases hg
      exact ⟨(takeInHand_run ..).symm ▸ hrun, slot, e, (modCensus_entry ..).trans he, hfp, hl, fun hk => absurd rfl hk⟩
    · next slot e hdec =>
      obtain ⟨he, hfp, hl, -⟩ := decideFind_move hdec
      split
      · exact h.endsCensus ..
      · have hhand := h.takeInHand l ⟨f, .move, e.carried⟩ rest
        have hgone : (Machine.removeEntry slot .moved (Machine.takeInHand l ⟨f, .move, e.carried⟩ rest s)).Tidy (Besides H l) C := by
          refine hhand.removeEntry (fun y g hy hH hg => ?_) _
          obtain rfl : e = y := Option.some.inj (he.symm.trans ((modCensus_entry ..).symm.trans hy))
          rw [show ((Machine.takeInHand l ⟨f, .move, e.carried⟩ rest s).lane e.lane).census = (s.lane e.lane).census by
            rw [Machine.takeInHand, modCensus_lane_eq, if_neg hl]] at hg
          exact hfp ▸ find_ne_of_move hd hdec hl (h.home _ hH.1) hg
        exact hgone.createEntry (x := ⟨f, .move, e.carried⟩) ((removeEntry_census ..).symm ▸ takeInHand_find ..)
          ((removeEntry_census ..).symm ▸ (takeInHand_run ..).symm ▸ hrun)
    · have hdup := h.declareDuplicate l f true
      have hcount : Moves (Scope.any fun _ => True) s (Machine.declareDuplicate l f true s) :=
        (modCensus_moves (A := Scope.any fun _ => True) trivial (fun c => { c with dups := min 255 (c.dups + 1) })).trans
          ((countDuplicate_moves trivial _).trans (notify_moves trivial ..))
      refine ih hdup (hcount.devicesDistinct trivial hd) ?_
      rw [Machine.declareDuplicate, notify_lane, calm_census (countDuplicate_moves (A := Scope.calm) trivial _), modCensus_lane]
      exact hrun
    · exact (h.takeInHand l ⟨f, .new, none⟩ rest).createEntry (x := ⟨f, .new, none⟩) (takeInHand_find ..) ((takeInHand_run ..).symm ▸ hrun)

theorem State.Tidy.continueRun (h : s.Tidy H C) (hd : s.DevicesDistinct) (hrun : (s.lane l).census.run ≠ .idle) : (continueRun l s).Tidy H C := by
  unfold Machine.continueRun
  split
  · exact h.endsCensus ..
  · split
    · exact h.takeFinds hd hrun _
    · exact h.offerOpening l

/-! ## Outcomes of the run's exchanges -/

/-- After its find has ended a lane has no device in hand. -/
theorem State.Tidy.clearFind (h : s.Tidy (Besides H l) C) : (clearFind l s).Tidy H C :=
  have hb : (Machine.clearFind l s).Tidy (Besides (Besides H l) l) C := h.changeFind (g := fun c => { c with find := none }) rfl
  State.Tidy.noFind ⟨fun k hk => hb.home k ⟨hk, hk.2⟩, hb.complete, hb.size⟩ (by simp [Machine.clearFind])

theorem clearFind_run (l : Lane) (s : State) : ((clearFind l s).lane l).census.run = (s.lane l).census.run := by simp [clearFind]

theorem State.Tidy.markAssigned (h : s.Tidy H C) (slot : Nat) : (markAssigned slot s).Tidy H C := by
  unfold Machine.markAssigned modEntry
  split
  · next e he => exact h.setEntry_seen (f := { e with lastGood := some s.now }) he
  · exact h

theorem State.Tidy.countFound (h : s.Tidy H C) (l : Lane) : (countFound l s).Tidy H C :=
  h.modCensus (g := fun c => { c with found := min 32 (c.found + 1) })

/-- The entry of a find that is recorded as assigned. -/
theorem countFound_markAssigned_entry {e : Entry} (he : s.entry slot = some e) :
    (countFound l (markAssigned slot s)).entry slot = some { e with lastGood := some s.now } := by
  rw [countFound, modCensus_entry, markAssigned, modEntry, he]
  exact entry_setEntry_same (slot_lt_of_entry he) _

theorem countFound_markAssigned_census (slot : Nat) (s : State) :
    ((countFound l (markAssigned slot s)).lane l).census.run = (s.lane l).census.run ∧
      ((countFound l (markAssigned slot s)).lane l).census.find = (s.lane l).census.find := by
  have h : ((markAssigned slot s).lane l).census = (s.lane l).census := Moves.census (markAssigned_moves (A := Scope.rosterOnly) trivial s) l
  rw [countFound, modCensus_lane, h]
  exact ⟨rfl, rfl⟩

/-- While no device in hand is claimed on the lane, its entries may be worked on. -/
theorem State.Tidy.workHere (h : s.Tidy (Besides H l) C) {e : Entry} (he : s.entry slot = some e) (hl : e.lane = l) : s.Work slot l (Besides H l) C :=
  hl ▸ h.workOn he fun hH => absurd hl hH.2

theorem State.Tidy.resolveHere (h : s.Tidy (Besides H l) C) {e : Entry} (he : s.entry slot = some e) (hl : e.lane = l) (cause : DeviceCause) :
    (Machine.resolveEntry slot cause s).Tidy (Besides H l) C :=
  h.resolveEntry (fun f hf hH => absurd hl (by rw [he] at hf; cases hf; exact hH.2)) cause

theorem State.Tidy.rejoinOk (h : s.Tidy (Besides H l) C) {e : Entry} (he : s.entry slot = some e) (hl : e.lane = l) (x : Entry) :
    (rejoinOk l slot x s).Tidy (Besides H l) C := by
  unfold Machine.rejoinOk
  split
  · exact h.resolveHere he hl _
  · exact ((h.workHere he hl).enterProving _).eval

theorem State.Tidy.rejoinFailed (h : s.Tidy (Besides H l) C) {e : Entry} (he : s.entry slot = some e) (hl : e.lane = l) :
    (rejoinFailed l slot e s).Tidy (Besides H l) C := by
  unfold Machine.rejoinFailed
  split
  · exact (h.workHere he hl).enterLost _
  · exact (h.workHere he hl).enterLost _
  · exact (h.workHere he hl).enterLost _
  all_goals exact h

theorem State.Tidy.assignOk (h : s.Tidy (Besides H l) C) {e : Entry} (he : s.entry slot = some e) (hl : e.lane = l) (x : Find) :
    (assignOk l slot x s).Tidy (Besides H l) C := by
  unfold Machine.assignOk
  split
  · exact (h.workHere he hl).nameAndProve ..
  · exact h.resolveHere he hl _

theorem KeepsDevices.census {P : Nat → Prop} (h : KeepsDevices P s t) (k : Lane) : (t.lane k).census = (s.lane k).census := by rw [h.lane k]

theorem rejoinOk_census (l : Lane) (slot : Nat) (e : Entry) (s : State) (k : Lane) : ((rejoinOk l slot e s).lane k).census = (s.lane k).census := by
  unfold rejoinOk
  split
  · exact (resolveEntry_keepsDevices (P := fun _ => True) trivial _ s).census k
  · rw [evalComplete_census, (enterProving_keepsDevices (P := fun _ => True) trivial _ s).census]

theorem assignOk_census (l : Lane) (slot : Nat) (x : Find) (s : State) (k : Lane) : ((assignOk l slot x s).lane k).census = (s.lane k).census := by
  unfold assignOk
  split
  · exact (nameAndProve_keepsDevices (P := fun _ => True) trivial ..).census k
  · exact (resolveEntry_keepsDevices (P := fun _ => True) trivial _ s).census k

/-- A recall census does not start while a run is going (R92). -/
theorem recallCensus_running (h : (s.lane l).census.run ≠ .idle) : recallCensus l s = s := by
  simp [recallCensus, State.censusRunning, h]

theorem enterLost_running (h : (s.lane l).census.run ≠ .idle) (slot : Nat) (c : DeviceCause) :
    enterLost slot l c s = evalComplete l (moveEntry slot (Entry.toLost s.now) .lost c s) := by
  refine recallCensus_running ?_
  rwa [evalComplete_census, (moveEntry_keepsDevices (P := fun _ => True) (f := Entry.toLost s.now) (fun _ => rfl) trivial _ _ s).census]

theorem rejoinFailed_census (h : (s.lane l).census.run ≠ .idle) (slot : Nat) (e : Entry) : ((rejoinFailed l slot e s).lane l).census = (s.lane l).census := by
  have hlost (c : DeviceCause) : ((enterLost slot l c s).lane l).census = (s.lane l).census := by
    rw [enterLost_running h, evalComplete_census, (moveEntry_keepsDevices (P := fun _ => True) (f := Entry.toLost s.now) (fun _ => rfl) trivial _ _ s).census]
  unfold rejoinFailed
  split
  · exact hlost _
  · exact hlost _
  · exact hlost _
  all_goals rfl

theorem State.Tidy.assignFailed (h : s.Tidy H C) {e : Entry} (he : s.entry slot = some e) (hl : e.lane = l) (o : ExchangeOutcome) :
    (assignFailed l slot e o s).Tidy H C := by
  have hgone : (Machine.removeEntry slot .assignFailed (Machine.clearFind l s)).Tidy H C := by
    refine (h.release l).clearFind.removeEntry (fun y g hy _ hg => ?_) _
    obtain rfl : e = y := Option.some.inj (he.symm.trans ((clearFind_entry ..).symm.trans hy))
    simp [hl, Machine.clearFind] at hg
  exact (hgone.notify _).setOffer ..

/-- All devices are at home and completeness is right: `findsHome` and `completeSound` in a roster of its size. -/
abbrev State.AllTidy (s : State) : Prop := s.Tidy (fun _ => True) fun _ => True

theorem any_walks (l : Lane) : (Scope.any fun _ => True).Walks l :=
  { any_powers (fun _ => True) l with counters := trivial, slots := fun _ => trivial, home := trivial }

/-- The entry of the device in hand stands on the run's lane. -/
theorem lane_of_find (hs : s.homeOn l) (hd : s.DevicesDistinct) {x : Find} (hx : (s.lane l).census.find = some x) {e : Entry}
    (he : s.entryWithFp x.fp = some (slot, e)) : s.entry slot = some e ∧ e.lane = l := by
  obtain ⟨hslot, hfp⟩ := findEntry_some he
  obtain ⟨-, j, y, hy, hyfp, hyl, -⟩ := hs x hx
  obtain rfl := hd.fingerprints slot j e y hslot hy ((by simpa using hfp : e.fp = x.fp).trans hyfp.symm)
  cases hslot.symm.trans hy
  exact ⟨hslot, hyl⟩

theorem State.AllTidy.assignOutcome (h : s.AllTidy) (hd : s.DevicesDistinct) (hrun : (s.lane l).census.run ≠ .idle) (o : ExchangeOutcome) :
    (assignOutcome l o s).AllTidy := by
  have hA := any_walks l
  unfold Machine.assignOutcome
  split
  · exact h.continueRun hd hrun
  · next x hx =>
    split
    · exact (h.release l).clearFind.continueRun ((clearFind_moves hA.census s).devicesDistinct trivial hd) ((clearFind_run ..).symm ▸ hrun)
    · next slot e hs =>
      obtain ⟨he, hl⟩ := lane_of_find (h.home l trivial) hd hx hs
      have hmarked := ((h.release l).markAssigned slot).countFound l
      have hmark := (markAssigned_moves (hA.slots slot) s).trans (countFound_moves hA.census _)
      obtain ⟨hmrun, hmfind⟩ := countFound_markAssigned_census (l := l) slot s
      have hme := countFound_markAssigned_entry (l := l) he
      split
      · split
        · refine (hmarked.rejoinOk hme hl e).clearFind.continueRun ?_ ?_
          · exact Moves.devicesDistinct (hmark.trans ((rejoinOk_moves hA ..).trans (clearFind_moves hA.census _))) trivial hd
          · rw [clearFind_run, rejoinOk_census, hmrun]
            exact hrun
        · refine ((h.release l).rejoinFailed he hl).clearFind.continueRun ?_ ?_
          · exact Moves.devicesDistinct ((rejoinFailed_moves hA ..).trans (clearFind_moves hA.census _)) trivial hd
          · rw [clearFind_run, rejoinFailed_census hrun]
            exact hrun
      · split
        · refine (hmarked.assignOk hme hl x).clearFind.continueRun ?_ ?_
          · exact Moves.devicesDistinct (hmark.trans (assignOk_moves hA hme (hmfind.trans hx))) trivial hd
          · rw [clearFind_run, assignOk_census, hmrun]
            exact hrun
        · exact h.assignFailed he hl _

theorem State.Tidy.countCollisions (h : s.Tidy H C) (l : Lane) (n : Nat) : (countCollisions l n s).Tidy H C :=
  h.calm (countCollisions_moves (A := Scope.calm) trivial n s)

theorem State.Tidy.lastDuplicates (h : s.Tidy H C) (l : Lane) (p : ProbeInHand) : (lastDuplicates l p s).Tidy H C := by
  unfold Machine.lastDuplicates
  split
  · exact h.declareOpen ..
  · exact h

theorem State.AllTidy.probeResult (h : s.AllTidy) (hd : s.DevicesDistinct) (hrun : (s.lane l).census.run ≠ .idle) (guard : Nat) (slots : List SlotObs) :
    (probeResult l guard slots s).AllTidy := by
  unfold Machine.probeResult
  split
  · exact h.continueRun hd hrun
  · next p _ =>
    dsimp only
    generalize hn : List.length _ = n
    have hcount := h.countCollisions l n
    split
    · exact (hcount.lastDuplicates ..).endsCensus ..
    · split
      · exact hcount.endsCensus ..
      · refine State.Tidy.takeFinds (hcount.modCensus (g := fun c => { c with hand := some _ })) ?_ ?_ _
        · exact (NoNewDevice.of_entries fun j => modCensus_entry ..).devicesDistinct
            (calm_devicesDistinct (countCollisions_moves (A := Scope.calm) trivial n s) hd)
        · rw [modCensus_lane, calm_census (countCollisions_moves (A := Scope.calm) trivial n s)]
          exact hrun

theorem State.AllTidy.censusOutcome (h : s.AllTidy) (hd : s.DevicesDistinct) (kind : BusKind) (guard : Nat) (slots : List SlotObs) (o : ExchangeOutcome) :
    (censusOutcome l kind guard slots o s).AllTidy := by
  have hguard : (guardFailed l s).AllTidy := h.endsCensus ..
  unfold Machine.censusOutcome
  split
  · exact h
  · next hrun =>
    split
    · exact h
    · split
      · exact h.assignOutcome hd hrun o
      · split
        · exact h.probeResult hd hrun ..
        · exact hguard
      · split
        · exact h.continueRun hd hrun
        · exact hguard

/-! ## Exchanges -/

theorem State.AllTidy.toSource (h : s.AllTidy) (hd : s.DevicesDistinct) (x : Exchange) (o : ExchangeOutcome) (p : List Octet) (slots : List SlotObs) :
    (toSource l x o p slots s).AllTidy := by
  unfold Machine.toSource
  split
  · exact h.censusOutcome hd ..
  · exact h.calm (cycleOutcome_moves calm_cycles ..)
  · exact h
  · exact h.calm (forwardAnswer_moves calm_cycles ..)
  · exact h
  · exact h

theorem State.AllTidy.toSupervision (h : s.AllTidy) (x : Exchange) (o : ExchangeOutcome) (p : List Octet) : (toSupervision x o p s).AllTidy := by
  unfold Machine.toSupervision
  split
  · exact h.applyOutcome ..
  · exact h

/-- The end of an exchange begins with moves that no lane sees. -/
theorem endExchange_calm (l : Lane) (o : ExchangeOutcome) (s : State) : Moves Scope.calm s (countOutcome l o (clearExchange l s)) :=
  (clearExchange_moves (A := Scope.calm) trivial).trans (countOutcome_moves (A := Scope.calm) trivial o _)

theorem State.AllTidy.endExchange (h : s.AllTidy) (hd : s.DevicesDistinct) (x : Exchange) (o : ExchangeOutcome) (p : List Octet) (slots : List SlotObs) :
    (endExchange l x o p slots s).AllTidy :=
  have hm := endExchange_calm l o s
  (State.AllTidy.toSource (h.calm hm) (calm_devicesDistinct hm hd) x o p slots).toSupervision x o p

theorem State.AllTidy.failAttempt (h : s.AllTidy) (hd : s.DevicesDistinct) (x : Exchange) (o : ExchangeOutcome) : (failAttempt l x o s).AllTidy := by
  unfold Machine.failAttempt
  split
  · exact h.calm (enterGuard_moves (A := Scope.calm) trivial trivial trivial ..)
  · exact h.endExchange hd ..

/-! ## Grants -/

theorem State.Tidy.beginExchange (h : s.Tidy H C) (l : Lane) (x : Exchange) : (beginExchange l x s).Tidy H C := by
  refine h.calm (Relation.ReflTransGen.trans (b := Machine.enterGuard l x (countStarted l s)) ?_ (setRx_moves (A := Scope.calm) trivial _))
  refine Relation.ReflTransGen.trans (b := countStarted l s) ?_ (enterGuard_moves (A := Scope.calm) trivial trivial trivial ..)
  exact modCounters_moves (A := Scope.calm) trivial (g := fun c => { c with started := addSat c.started }) 
    fun _ ⟨_, h2, h3, h4, h5, h6, h7⟩ => ⟨addSat_le _, h2, h3, h4, h5, h6, h7⟩

theorem State.Tidy.grantCensus (h : s.Tidy H C) (l : Lane) : (grantCensus l s).Tidy H C := by
  unfold Machine.grantCensus
  split
  · exact (h.modCensus (l := l) (g := Census.granted)).beginExchange ..
  · exact h

theorem State.Tidy.grantCycle (h : s.Tidy H C) (l : Lane) (d : Due) : (grantCycle l d s).Tidy H C := by
  unfold Machine.grantCycle
  split
  · exact (h.calm (setCursor_moves (A := Scope.calm) trivial l _ s)).beginExchange ..
  · exact h.calm (giveBackDue_moves calm_cycles ..)

theorem State.Tidy.grantForward (h : s.Tidy H C) (l : Lane) (r : ForwardRecord) (rest : List ForwardRecord) : (grantForward l r rest s).Tidy H C := by
  have ht : (takeForward l rest s).Tidy H C := h.lane (g := fun y => { y with forward := rest, lastTurn := .forward })
  unfold Machine.grantForward
  split
  · exact ht.beginExchange ..
  · split
    · exact ht.calm (offer_moves (A := Scope.calm) trivial trivial ..)
    · split
      · exact ht.beginExchange ..
      · exact ht.calm (offer_moves (A := Scope.calm) trivial trivial ..)

theorem State.Tidy.turnSupervision (h : s.Tidy H C) (l : Lane) : (turnSupervision l s).Tidy H C := h.lane (g := fun y => { y with lastTurn := .supervision })

theorem State.Tidy.grantEcho (h : s.Tidy H C) (l : Lane) {e : Entry} (he : s.entry slot = some e) : (grantEcho l slot e s).Tidy H C := by
  have hquiet : (setEntry slot (some { e with echo := false }) (Machine.turnSupervision l s)).Tidy H C :=
    (h.turnSupervision l).setEntry_seen (f := { e with echo := false }) ((modLane_entry ..).trans he)
  exact (hquiet.lane (l := l) (g := fun y => { y with lastServed := slot })).beginExchange ..

theorem State.Tidy.grantSupervision (h : s.Tidy H C) (l : Lane) : (grantSupervision l s).Tidy H C := by
  unfold Machine.grantSupervision
  split
  · next a rest _ => exact ((h.turnSupervision l).lane (l := l) (g := fun y => { y with unaddress := rest })).beginExchange ..
  · split
    · split
      · next e he => exact h.grantEcho l he
      · exact h
    · exact h

theorem State.Tidy.grantInTurn (h : s.Tidy H C) (l : Lane) : (grantInTurn l s).Tidy H C := by
  unfold Machine.grantInTurn
  split
  · split
    · exact h.grantSupervision l
    · exact h.grantForward ..
  · split
    · exact h.grantSupervision l
    · exact h

theorem State.Tidy.grantOnce (h : s.Tidy H C) (l : Lane) : (grantOnce l s).Tidy H C := by
  unfold Machine.grantOnce
  split
  · exact h.grantCensus l
  · split
    · exact h.grantCycle ..
    · exact h.grantInTurn l

theorem State.Tidy.grantLoop (h : s.Tidy H C) (l : Lane) (n : Nat) : (grantLoop l n s).Tidy H C := by
  induction n generalizing s with
  | zero => exact h
  | succ n ih =>
    unfold Machine.grantLoop
    split
    · exact h
    · exact ih (h.grantOnce l)

end Sys2Proof.Machine
end

section
/-! What lane power and the requests keep of completeness and of the devices in hand (O37). -/

namespace Sys2Proof.Machine

variable {s t u : State} {l k : Lane} {slot : Nat} {H C : Lane → Prop}

/-! ## Lane power -/

/-- A change of a lane's power that leaves it LIVE or not. -/
theorem State.Tidy.power (h : s.Tidy H C) {g : Power → Power} (hg : ((g (s.lane l).power).state == .live) = ((s.lane l).power.state == .live) := by rfl) :
    (modPower l g s).Tidy H C := h.keep (modLane_kept (g := fun x => { x with power := g x.power }) hg rfl rfl rfl)

/-- Any change of a lane's power opens its completeness. -/
theorem State.Tidy.openPower (h : s.Tidy H C) (g : Power → Power) : (modPower l g s).Tidy H (Besides C l) := by
  have hother (k : Lane) (hk : k ≠ l) : Kept k s (modPower l g s) := modLane_keptOther _ hk
  have hcensus : ((modPower l g s).lane l).census = (s.lane l).census := by simp
  refine ⟨fun k hk => ?_, fun k hk => (hother k hk.2).completeOn (h.complete k hk.1), by simpa using h.size⟩
  by_cases hl : k = l
  · subst hl
    intro x hx
    rw [hcensus] at hx ⊢
    obtain ⟨hrun, j, e, he, hrest⟩ := h.home k hk x hx
    exact ⟨hrun, j, e, (modLane_entry ..).trans he, hrest⟩
  · exact (hother k hl).homeOn (h.home k hk)

theorem State.Tidy.discardSupervision (h : s.Tidy H C) (l : Lane) : (discardSupervision l s).Tidy H C := by
  refine h.keep fun k => ?_
  have hroster : Kept k s { s with roster := s.roster.map (Option.map (fun e => if e.lane = l then { e with echo := false } else e)) } := by
    refine ⟨by cases k <;> rfl, by cases k <;> rfl, by cases k <;> rfl, by cases k <;> rfl, rfl, by simp, fun j => ?_⟩
    unfold State.seen State.entry
    rw [List.getD_eq_getElem?_getD, List.getD_eq_getElem?_getD, List.getElem?_map]
    cases s.roster[j]? with
    | none => rfl
    | some x =>
      cases x with
      | none => rfl
      | some e => by_cases he : e.lane = l <;> simp [he, Entry.seen]
  exact hroster.trans (modLane_kept (g := fun x => { x with unaddress := [] }) rfl rfl rfl rfl k)

theorem abandonExchange_calm (l : Lane) (s : State) : Moves Scope.calm s (abandonExchange l s) := by
  unfold abandonExchange
  split
  · next x _ =>
    rw [abandon_eq]
    refine Relation.ReflTransGen.trans (b := clearExchange l s) (clearExchange_moves (A := Scope.calm) trivial) ?_
    unfold toSource
    split
    · rw [censusOutcome_abandoned]
    · exact cycleOutcome_moves calm_cycles ..
    · exact Moves.refl _
    · exact forwardAnswer_moves calm_cycles ..
    · exact Moves.refl _
    · exact Moves.refl _
  · exact Moves.refl s

theorem endCensus_find (l : Lane) (o : CensusOutcome) (s : State) : ((endCensus l o s).lane l).census.find = none := by
  unfold endCensus
  dsimp only
  rw [evalComplete_census, notify_lane, modLane_lane]
  rfl

/-- After its run has gone down a lane has no device in hand. -/
theorem censusDown_find (h : s.homeOn l) : ((censusDown l s).lane l).census.find = none := by
  unfold censusDown
  split
  · exact endCensus_find ..
  · next hr =>
    cases hf : (s.lane l).census.find with
    | none => rfl
    | some g => exact absurd (h g hf).1 (by simpa [State.censusRunning] using hr)

theorem State.AllTidy.teardown (h : s.AllTidy) (l : Lane) : (teardown l s).AllTidy := by
  have hback : (takeBackDue l (abandonExchange l s)).AllTidy := (h.calm (abandonExchange_calm l s)).takeBackDue l
  have hdown : (censusDown l (takeBackDue l (abandonExchange l s))).AllTidy := by
    unfold censusDown
    split
    · exact hback.endsCensus ..
    · exact hback
  have hquiet := (hdown.refuseForward l .departed).discardSupervision l
  refine ((hquiet.release l).removeLane (l := l) .laneDown).noFind ?_
  rw [removeLane_census]
  have hlast : ((discardSupervision l (refuseForward l .departed (censusDown l (takeBackDue l (abandonExchange l s))))).lane l).census =
      ((refuseForward l .departed (censusDown l (takeBackDue l (abandonExchange l s)))).lane l).census := by
    rw [discardSupervision, modLane_lane]
    cases l <;> rfl
  rw [hlast, calm_census (refuseForward_moves (A := Scope.calm) trivial trivial trivial ..)]
  exact censusDown_find (hback.home l trivial)

theorem State.AllTidy.enterPower (h : s.AllTidy) {st : PowerState} (hst : st ≠ .live) (c : LaneCause) (dp : DisablePending) :
    (enterPower l st c dp s).AllTidy := by
  unfold Machine.enterPower leaveLive
  split
  · exact State.AllTidy.teardown (((h.openPower (Power.entered st dp s.now)).notify _).eval) l
  · next hlive =>
    exact (h.power (g := Power.entered st dp s.now) (by
      rw [show (Power.entered st dp s.now (s.lane l).power).state = st from rfl, beq_eq_false_iff_ne.mpr hst, beq_eq_false_iff_ne.mpr hlive])).notify _

theorem faultState_ne_live (n : Nat) : faultState n ≠ .live := by unfold faultState; split <;> decide

theorem State.AllTidy.enterFault (h : s.AllTidy) (why : Trip) : (enterFault l why s).AllTidy :=
  State.AllTidy.enterPower (h.power (g := fun p => { p with faultCount := min 3 ((s.lane l).power.faultCount + 1), lastFault := some why })) (faultState_ne_live _) _ _

theorem State.AllTidy.enterWaiting (h : s.AllTidy) (c : LaneCause) : (enterWaiting l c s).AllTidy := by
  unfold Machine.enterWaiting
  split
  · exact h.enterFault _
  · exact h.enterPower (by decide) _ _

theorem State.AllTidy.enterLaneLive (h : s.AllTidy) : (enterLaneLive l s).AllTidy := by
  have hnotified := (h.openPower (l := l) (Power.entered .live .no s.now)).notify (laneNotice l .ramped (modPower l (Power.entered .live .no s.now) s))
  unfold Machine.enterLaneLive
  dsimp only
  split
  · exact ((hnotified.release l).startCensus (C := fun _ => True) .fresh).evalAgain l
  · exact hnotified.eval

theorem State.AllTidy.enableLane (h : s.AllTidy) (l : Lane) : (enableLane l s).AllTidy := by
  unfold Machine.enableLane
  split
  · exact h.enterWaiting _
  · exact h

theorem State.AllTidy.disableLane (h : s.AllTidy) (l : Lane) : (disableLane l s).AllTidy := by
  unfold Machine.disableLane
  split
  · exact h
  · exact h.enterPower (by decide) _ _
  · exact h.enterPower (by decide) _ _
  · exact h.enterPower (by decide) _ _
  · exact h.enterPower (by decide) _ _
  · exact h.enterPower (by decide) _ _
  · exact h.power (g := fun p => { p with disablePending := if p.disablePending = .reset then .reset else .disable })

theorem State.AllTidy.clearLatch (h : s.AllTidy) (l : Lane) : (clearLatch l s).AllTidy := by
  unfold Machine.clearLatch
  split
  · exact State.AllTidy.enterWaiting (h.power (g := fun p => { p with faultCount := 0 })) _
  · exact h

/-- A change of a lane's timers. -/
theorem State.Tidy.timers (h : s.Tidy H C) (f : Power → PowerTimers) : (modPower l (fun p => { p with timers := f p }) s).Tidy H C :=
  h.power (g := fun p => { p with timers := f p })

theorem State.AllTidy.compareCurrent (h : s.AllTidy) : (compareCurrent l s).AllTidy := by
  unfold Machine.compareCurrent
  split
  · split
    · exact h.enterFault _
    · exact h.timers _
  · exact h

theorem State.AllTidy.applyLimit (h : s.AllTidy) (n : Nat) : (applyLimit l n s).AllTidy :=
  State.AllTidy.compareCurrent (h.power (g := fun p => { p with limit := clampLimit (ceilingOf s.strap) n }))

theorem State.AllTidy.watchCoupling (h : s.AllTidy) : (watchCoupling l s).AllTidy := by
  unfold Machine.watchCoupling
  split
  · exact h.timers _
  · exact h

theorem State.AllTidy.watchBackfeed (h : s.AllTidy) : (watchBackfeed l s).AllTidy := by
  unfold Machine.watchBackfeed
  split
  · exact h.timers _
  · exact h

theorem State.AllTidy.watchRemoval (h : s.AllTidy) : (watchRemoval l s).AllTidy := by
  unfold Machine.watchRemoval
  split
  · exact h.timers _
  · exact h

theorem State.AllTidy.unlock (h : s.AllTidy) : (unlock l s).AllTidy := by
  unfold Machine.unlock
  split
  · exact h.enterPower (by decide) _ _
  · exact h.watchCoupling

theorem State.AllTidy.senseCurrent (h : s.AllTidy) (n : Nat) : (senseCurrent l n s).AllTidy := by
  unfold Machine.senseCurrent
  split
  · exact (State.AllTidy.compareCurrent (h.power (g := fun p => { p with laneCurrent := n }))).watchRemoval
  · exact h

theorem State.AllTidy.endDischarge (h : s.AllTidy) : (endDischarge l s).AllTidy := by
  unfold Machine.endDischarge
  split <;> exact h.enterPower (by decide) _ _

theorem State.AllTidy.cooldownCheck (h : s.AllTidy) (b : Bool) : (cooldownCheck l b s).AllTidy := by
  unfold Machine.cooldownCheck
  split
  · exact h.enterPower (by decide) _ _
  · exact h.timers fun p => { p.timers with cooldown := some (s.now + recheckMs) }

theorem State.AllTidy.thermalLane (h : s.AllTidy) (l : Lane) : (thermalLane l s).AllTidy := by
  unfold Machine.thermalLane
  split
  · split
    · exact State.AllTidy.enterPower (h.enterFault _) (by decide) _ _
    · exact State.AllTidy.enterPower (h.enterFault _) (by decide) _ _
    · exact h.enterFault _
  · exact h

/-- The clock, the flag, the queue of commands, the free values and the arm link are seen by no lane. -/
theorem Kept.frame (k : Lane) (s : State) (pending : List Instr) (now choices : Nat) (flag : Bool) (arm : ArmLink) :
    Kept k s { s with pending := pending, now := now, choices := choices, overTemp := flag, arm := arm } := by
  cases k <;> exact ⟨rfl, rfl, rfl, rfl, rfl, rfl, fun _ => rfl⟩

theorem State.Tidy.frame (h : s.Tidy H C) (pending : List Instr) (now choices : Nat) (flag : Bool) (arm : ArmLink) :
    ({ s with pending := pending, now := now, choices := choices, overTemp := flag, arm := arm } : State).Tidy H C :=
  h.keep fun k => Kept.frame k s pending now choices flag arm

theorem State.Tidy.arm (h : s.Tidy H C) (b : ArmLink) : ({ s with arm := b } : State).Tidy H C := h.frame s.pending s.now s.choices s.overTemp b

theorem State.AllTidy.setOverTemperature (h : s.AllTidy) : (setOverTemperature s).AllTidy := by
  unfold Machine.setOverTemperature
  dsimp only
  split
  · have h2 : State.AllTidy { s with overTemp := true, choices := s.choices + 1 } := h.frame s.pending s.now (s.choices + 1) true s.arm
    split
    · exact (h2.thermalLane .b).thermalLane .a
    · exact (h2.thermalLane .a).thermalLane .b
  · have h1 : State.AllTidy { s with overTemp := true } := h.frame s.pending s.now s.choices true s.arm
    exact (h1.thermalLane .a).thermalLane .b

/-! ## Requests -/

theorem State.AllTidy.laneControl {action : Lane → State → State} (ha : ∀ l t, t.AllTidy → (action l t).AllTidy) {args : List Octet} (h : s.AllTidy) :
    State.AllTidy (laneControl action args s).2 := by
  unfold Machine.laneControl
  split
  · split
    · split
      · exact h
      · exact ha _ _ h
    · exact h
  · split
    · split
      · exact h
      · exact ha _ _ (h.applyLimit _)
    · exact h
  · exact h

theorem State.Tidy.onLaneSlots (h : s.Tidy H C) {f : Nat → Entry → State → State}
    (hf : ∀ j e s, s.entry j = some e → e.lane = l → s.Tidy H C → (f j e s).Tidy H C) : (onLaneSlots l f s).Tidy H C := by
  refine State.Tidy.foldl (fun s j h => ?_) h _
  split
  · next e he =>
    split
    · next hl => exact hf j e s he hl h
    · exact h
  · exact h

/-- An entry that crosses its threshold was in PROVING. -/
theorem State.Tidy.crossThreshold (h : s.Tidy H C) {e : Entry} (he : s.entry slot = some e) : (crossThreshold slot s).Tidy H (Besides C e.lane) := by
  unfold Machine.crossThreshold
  simp only [he]
  split
  · next hp => exact ((h.workOn he fun _ => by rw [hp.1]; nofun).enterLive _).tidy
  · exact h.open _

theorem State.Tidy.applyOptions (h : s.Tidy H C) (l : Lane) : (applyOptions l s).Tidy H C := by
  refine State.Tidy.onLaneSlots (State.Tidy.onLaneSlots h fun j e s he hl h => ?_) fun j e s he hl h => ?_
  · subst hl
    exact (h.crossThreshold he).eval
  · unfold judgeSilence
    split
    · exact h.silenceDue j
    · exact h.recallDue j
    all_goals exact h

theorem State.AllTidy.stopCensus (h : s.AllTidy) (l : Lane) : (stopCensus l s).AllTidy := by
  unfold Machine.stopCensus
  split
  · next hr =>
    split
    · exact h.modCensus (g := fun c => { c with run := .stopping }) (by rw [hr]; rfl)
    · exact h.endsCensus ..
  · exact h
  · exact h

theorem State.Tidy.nameEntry (h : s.Tidy H C) {e : Entry} (he : s.entry slot = some e) (hst : e.state ≠ .assigning) (c : Carried) :
    (nameEntry slot e c s).Work slot e.lane H C := by
  have hgiven := (h.workOn he fun _ => hst).giveName c
  unfold Machine.nameEntry
  split
  · exact hgiven.enterProving _
  · split
    · exact hgiven.crossThreshold
    · exact hgiven
  all_goals exact hgiven

/-- Both evaluations after anything that keeps the devices in hand at home. -/
theorem State.Tidy.evaluated (h : s.Tidy H C) (l : Lane) : (evalComplete (otherLane l) (evalComplete l s)).Tidy H fun _ => True :=
  State.Tidy.evalBoth ⟨h.home, fun _ => False.elim, h.size⟩ l

theorem State.AllTidy.nameDevice (h : s.AllTidy) {e : Entry} (he : s.entry slot = some e) (hst : e.state ≠ .assigning) (n : Nat) :
    (nameDevice slot e n s).AllTidy := by
  have hnamed := ((h.nameEntry he hst ⟨n, .request, none⟩).notifyNamed ⟨n, .request, none⟩).tidy
  unfold Machine.nameDevice
  dsimp only
  split
  · exact hnamed.reresolveHeld.evaluated _
  · exact hnamed.evaluated _

/-- An entry may be released while no census runs on its lane (R149). -/
theorem State.AllTidy.releaseEntry (h : s.AllTidy) {e : Entry} (he : s.entry slot = some e) (hidle : s.censusRunning e.lane = false) :
    (releaseEntry slot e s).AllTidy := by
  have hgone : (removeEntry slot .released s).AllTidy := by
    refine h.removeEntry (fun y g hy _ hg => ?_) _
    cases he.symm.trans hy
    exact absurd (h.home _ trivial g hg).1 (by simpa [State.censusRunning] using hidle)
  unfold Machine.releaseEntry addUnaddress
  split
  · exact hgone
  · exact hgone.lane (g := fun x => { x with unaddress := x.unaddress ++ [e.address] })

/-- A change of the references that are dropped leaves the devices in hand at home; completeness is evaluated later. -/
theorem State.Tidy.dropRef (h : s.Tidy H fun _ => False) (hit : Nat → Bool) (j : Nat) : (dropRef hit s j).Tidy H fun _ => False := by
  unfold Machine.dropRef
  split
  · next e he =>
    split
    · have hset : (setEntry j (some { e with mapRef := none }) s).Tidy H fun _ => False := by
        refine ⟨fun k hk g hg => ?_, fun _ => False.elim, by simpa using h.size⟩
        obtain ⟨hrun, i, y, hy, hyrest⟩ := h.home k hk g hg
        refine ⟨hrun, ?_⟩
        by_cases hij : j = i
        · subst hij
          cases he.symm.trans hy
          exact ⟨j, _, entry_setEntry_same (slot_lt_of_entry he) _, hyrest⟩
        · exact ⟨i, y, (entry_setEntry_ne hij _).trans hy, hyrest⟩
      have hcross := hset.crossThreshold (entry_setEntry_same (slot_lt_of_entry he) _)
      exact ⟨hcross.home, fun _ => False.elim, hcross.size⟩
    · exact h
  · exact h

theorem State.Tidy.dropCarried (h : s.Tidy H fun _ => False) (hit : Nat → Bool) (l : Lane) : (dropCarried hit l s).Tidy H fun _ => False := by
  refine ⟨fun k hk g hg => ?_, fun _ => False.elim, by simpa [Machine.dropCarried] using h.size⟩
  unfold Machine.dropCarried at hg ⊢
  simp only [modCensus_entry]
  rw [modCensus_lane_eq] at hg ⊢
  split at hg
  · next hl =>
    rw [if_pos hl]
    obtain ⟨x, hx, rfl⟩ := Option.map_eq_some_iff.mp hg
    exact h.home k hk x hx
  · next hl =>
    rw [if_neg hl]
    exact h.home k hk g hg

theorem State.Tidy.mapChanged (h : s.Tidy H fun _ => False) (hit : Nat → Bool) : (mapChanged hit s).Tidy H fun _ => True := by
  have hdropped := State.Tidy.foldl (f := Machine.dropRef hit) (fun _ j h => h.dropRef hit j) h (List.range rosterSlots)
  unfold Machine.mapChanged bothLanes
  exact ((hdropped.dropCarried hit .a).dropCarried hit .b).reresolveHeld.evaluated .a

/-- The name map is looked at by completeness alone. -/
theorem State.Tidy.nameMap (h : s.Tidy H C) (m : List (Option MapEntry)) : ({ s with nameMap := m } : State).Tidy H fun _ => False :=
  ⟨fun k hk => by cases k <;> exact h.home _ hk, fun _ => False.elim, h.size⟩

theorem State.Tidy.setOptions (h : s.Tidy H C) (l : Lane) (o : LaneOptions) : (setOptions l o s).Tidy H C :=
  h.lane (g := fun x => { x with options := o })

/-- The requests that change the name map. -/
theorem State.AllTidy.mapSet (h : s.AllTidy) (m : List (Option MapEntry)) (hit : Nat → Bool) : State.AllTidy (mapChanged hit { s with nameMap := m }) :=
  (h.nameMap m).mapChanged hit

theorem State.AllTidy.storeMap (h : s.AllTidy) (i : Octet) (m : MapEntry) (b : Bool) : State.AllTidy (storeMap i m b s).2 := by
  unfold Machine.storeMap Machine.doneClamped Machine.setMap
  dsimp only
  exact h.mapSet (s.nameMap.set i.toNat (some m)) (only i.toNat)

/-! ## Every command -/

theorem State.AllTidy.whenRunning (h : s.AllTidy) {f : State → State} (hf : (f s).AllTidy) : (whenRunning f s).AllTidy := by
  unfold Machine.whenRunning
  split
  · exact h
  · exact hf

theorem State.AllTidy.onTimer (h : s.AllTidy) {timer : PowerTimers → Option Nat} {f : State → State} (hf : (f s).AllTidy) : (onTimer l timer f s).AllTidy := by
  refine h.whenRunning ?_
  split
  · exact hf
  · exact h

theorem State.AllTidy.inPhase (h : s.AllTidy) {ph : Phase} {f : Exchange → State → State} (hf : ∀ x, (f x s).AllTidy) : (inPhase l ph f s).AllTidy := by
  refine h.whenRunning ?_
  split
  · split
    · exact hf _
    · exact h
  · exact h

theorem exec_allTidy_of_power {c : Instr} (hs : s.AllTidy) (hc : actsOnPower c = true) (h : exec c s = .next t) : t.AllTidy := by
  have harm (s : State) (b : ArmLink) (hs : s.AllTidy) : State.AllTidy { s with arm := b } := hs.arm b
  have hsense (l : Lane) {g : Power → Power} (hg : ∀ p, (g p).state = p.state) : (modPower l g s).AllTidy := hs.power (by rw [hg])
  cases c <;> cases h
  case laneControlEnable => exact takeRequest_keeps harm (fun _ _ hs => State.AllTidy.laneControl (fun l _ h => h.enableLane l) hs) hs
  case laneControlDisable => exact takeRequest_keeps harm (fun _ _ hs => State.AllTidy.laneControl (fun l _ h => h.disableLane l) hs) hs
  case laneControlClearLatch => exact takeRequest_keeps harm (fun _ _ hs => State.AllTidy.laneControl (fun l _ h => h.clearLatch l) hs) hs
  case laneControlNone => exact takeRequest_keeps harm (fun _ _ hs => State.AllTidy.laneControl (fun _ _ h => h) hs) hs
  case lockAssert l =>
    have h := hsense l (g := fun p => { p with lock := true }) fun _ => rfl
    exact h.whenRunning h.watchCoupling
  case lockDeassert l =>
    have h := hsense l (g := fun p => { p with lock := false }) fun _ => rfl
    exact h.whenRunning h.unlock
  case probeCurrentChange l n =>
    have h := hsense l (g := fun p => { p with probeCurrent := n }) fun _ => rfl
    exact h.whenRunning h.watchCoupling
  case backfeedVoltageChange l b =>
    have h := hsense l (g := fun p => { p with overSupply := b }) fun _ => rfl
    exact h.whenRunning h.watchBackfeed
  case rampVoltageReached l =>
    refine hs.whenRunning ?_
    split
    · exact hs.enterLaneLive
    · exact hs
  case laneCurrentChange l n => exact hs.whenRunning (hs.senseCurrent n)
  case qualifyTimerExpiry l => exact hs.onTimer (hs.enterPower (by decide) _ _)
  case rampTimerExpiry l => exact hs.onTimer (hs.enterFault _)
  case overcurrentMaskExpiry l => exact hs.onTimer (hs.enterFault _)
  case backfeedMaskExpiry l => exact hs.onTimer (hs.enterFault _)
  case removalTimerExpiry l => exact hs.onTimer (hs.enterPower (by decide) _ _)
  case liveStabilityExpiry l => exact hs.onTimer (hsense l fun _ => rfl)
  case dischargeTimerExpiry l => exact hs.onTimer hs.endDischarge
  case cooldownExpiry l b => exact hs.onTimer (hs.cooldownCheck b)
  case overTemperatureSet =>
    refine hs.whenRunning ?_
    split
    · exact hs
    · exact hs.setOverTemperature
  all_goals cases hc

/-- The events that end exchanges, and grants. -/
theorem exec_allTidy_of_work {c : Instr} (hs : s.AllTidy) (hd : s.DevicesDistinct) (hp : actsOnPower c = false) (hc : actsOnWork c = true)
    (h : exec c s = .next t) : t.AllTidy := by
  have harm (s : State) (b : ArmLink) (hs : s.AllTidy) : State.AllTidy { s with arm := b } := hs.arm b
  cases c <;> cases h
  case guardLimitReached l => exact hs.inPhase fun x => hs.failAttempt hd ..
  case requestTailBit l =>
    refine hs.inPhase fun x => ?_
    unfold afterTail
    split
    · exact (hs.lane (g := fun y => { y with exch := some _ })).lane (g := fun x => { x with counters := _ })
    · split
      · exact hs.lane (g := fun y => { y with exch := some _ })
      · exact hs.endExchange hd ..
  case replyTimeout l => exact hs.inPhase fun x => hs.failAttempt hd ..
  case replyFrameEnd l how =>
    refine hs.inPhase fun x => ?_
    unfold replyEnded
    split
    · exact hs.endExchange hd ..
    · have hrx := setRx_moves (A := Scope.calm) (l := l) trivial (rxAfter how) (s := s)
      exact State.AllTidy.failAttempt (hs.calm hrx) (calm_devicesDistinct hrx hd) ..
  case slotsEnd l =>
    refine hs.inPhase fun x => ?_
    unfold onProbe endSlots
    split
    · split
      · exact hs.endExchange hd ..
      · exact hs
    · exact hs
  case exchangeGrant l =>
    refine hs.whenRunning ?_
    unfold grantLane
    split
    · exact hs.grantLoop ..
    · exact hs
  case startCensus =>
    refine takeRequest_keeps harm (fun args s hs => ?_) hs
    unfold actStartCensus
    split
    · split
      · split
        · exact hs
        · split
          · exact hs
          · exact (hs.besides _).startCensus _
      · exact hs
    · exact hs
  all_goals cases hp <;> cases hc

/-- The requests and timers that act on entries, runs and the name map. -/
theorem exec_allTidy_of_request {c : Instr} (hs : s.AllTidy) (hw : actsOnWork c = false) (hc : actsOnRoster c = true ∨ actsOnCensus c = true)
    (h : exec c s = .next t) : t.AllTidy := by
  have harm (s : State) (b : ArmLink) (hs : s.AllTidy) : State.AllTidy { s with arm := b } := hs.arm b
  cases c <;> cases h
  case stopCensus =>
    refine takeRequest_keeps harm (fun args s hs => ?_) hs
    unfold actStopCensus
    split
    · split
      · exact hs.stopCensus _
      · exact hs
    · exact hs
  case laneOptionsWrite =>
    refine takeRequest_keeps harm (fun args s hs => ?_) hs
    unfold actLaneOptionsWrite
    split
    · split
      · split
        · exact hs
        · dsimp only [doneClamped]
          exact State.Tidy.applyOptions (State.Tidy.setOptions hs ..) _
      · exact hs
    · exact hs
  case mapWrite =>
    refine takeRequest_keeps harm (fun args s hs => ?_) hs
    unfold actMapWrite
    split
    · split
      · exact hs.storeMap ..
      · exact hs
    · split
      · exact hs.storeMap ..
      · exact hs
    · exact hs
  case mapClear =>
    refine takeRequest_keeps harm (fun args s hs => ?_) hs
    unfold actMapClear
    split
    · split
      · dsimp only [done]
        exact hs.mapSet ..
      · split
        · exact hs
        · dsimp only [done]
          exact hs.mapSet ..
    · exact hs
  case setProvisionalRange =>
    refine takeRequest_keeps harm (fun args s hs => ?_) hs
    unfold actSetProvisionalRange
    split
    · split
      · split
        · exact hs
        · dsimp only [done]
          exact (hs.range _).reresolveHeld
      · exact hs
    · exact hs
  case nameDevice =>
    refine takeRequest_keeps harm (fun args s hs => ?_) hs
    unfold actNameDevice
    split
    · split
      · exact hs
      · split
        · exact hs
        · next slot x hx =>
          split
          · exact hs
          · next hst =>
            split
            · exact hs
            · exact hs.nameDevice (findEntry_some hx).1 hst _
    · exact hs
  case release =>
    refine takeRequest_keeps harm (fun args s hs => ?_) hs
    unfold actRelease
    split
    · split
      · exact hs
      · next slot x hx =>
        split
        · exact hs
        · next hidle => exact hs.releaseEntry (findEntry_some hx).1 (by simpa using hidle)
    · exact hs
  case silenceCheckDue j => exact hs.whenRunning (hs.silenceDue j)
  case recallEchoDue j => exact hs.whenRunning (hs.recallDue j)
  all_goals cases hw <;> obtain hc | hc := hc <;> cases hc

end Sys2Proof.Machine
end

section
/-! Lane completeness (O37): its condition in terms of entries and indices, and the step that keeps it. -/

namespace Sys2Proof.Machine

variable {s t u : State} {l k : Lane} {slot : Nat} {H C : Lane → Prop}

/-! ## Every step -/

/-- A part that holds nothing, with no LIVE lane. -/
theorem State.Fresh.allTidy (h : s.Fresh) (hl : ∀ l, s.laneLive l = false) : s.AllTidy := by
  refine ⟨fun l _ => homeOn_of_no_find ?_, fun l _ => ?_, h.tablesSound.2.1⟩
  · obtain ⟨c, p, hlane⟩ := h.lane l
    rw [hlane]
    rfl
  · obtain ⟨c, p, hlane⟩ := h.lane l
    rw [State.completeOn, State.completeNow, hl, hlane]
    rfl

theorem resetBlocks_laneLive (code : Nat) (s : State) (l : Lane) : (resetBlocks code s).laneLive l = false := by cases l <;> rfl

theorem softBlocks_laneLive (s : State) (l : Lane) : (softBlocks s).laneLive l = false := by
  have h (x : LaneState) : ((x.softReset (ceilingOf s.strap) s.now).power.state == .live) = false := by
    unfold LaneState.softReset Power.softReset
    dsimp only
    split <;> rfl
  cases l <;> exact h _

theorem softReset_allTidy (die : Bool) (s : State) : (softReset die s).AllTidy := by
  have h := (softBlocks_fresh s).allTidy (softBlocks_laneLive s)
  unfold softReset
  split
  · exact h.setOverTemperature
  · exact h

theorem exec_allTidy_of_resets {c : Instr} (hs : s.AllTidy) (hc : resets c = true) (h : exec c s = .next t) : t.AllTidy := by
  have hreset (code now : Nat) (pin flag : Bool) : State.AllTidy { resetBlocks code s with now := now, resetAsserted := pin, overTemp := flag } :=
    ((resetBlocks_fresh code s).setClock now pin flag).allTidy fun l => by cases l <;> [exact resetBlocks_laneLive code s .a; exact resetBlocks_laneLive code s .b]
  cases c <;> cases h
  case powerOn strap die => exact hreset (strapCode strap) 0 false die
  case pinReset => exact hreset s.strap s.now true false
  case resetRelease strap die =>
    split
    · exact hreset (strapCode strap) s.now false die
    · exact hs
  case resetPart die =>
    unfold takeReset
    split
    · split
      · split
        · unfold acceptReset
          split
          · exact (softReset_allTidy die _).arm _
          · exact softReset_allTidy die _
        · obtain ⟨b, hb⟩ := answerRequest_refuse .badLength _ s
          rw [hb]
          exact hs.arm b
      · exact hs
    · exact hs
  all_goals cases hc

theorem exec_allTidy (c : Instr) (hs : s.AllTidy) (hd : s.DevicesDistinct) (h : exec c s = .next t) : t.AllTidy := by
  cases hr : resets c with
  | true => exact exec_allTidy_of_resets hs hr h
  | false =>
    cases hp : actsOnPower c with
    | true => exact exec_allTidy_of_power hs hp h
    | false =>
      cases hw : actsOnWork c with
      | true => exact exec_allTidy_of_work hs hd hp hw h
      | false =>
        by_cases hc : actsOnRoster c = true ∨ actsOnCensus c = true
        · exact exec_allTidy_of_request hs hw hc h
        · have hf := (exec_moves (home := fun _ => True) (apart := False) hr h False.elim (fun _ _ => trivial) (fun _ _ => trivial)
            fun _ _ => trivial).framed
          obtain ⟨hroster, hcensus⟩ := not_or.mp hc
          refine hs.keep fun k => hf.kept (fun j => hroster) (by simp [scopeOf, hp]) hcensus hc fun hm => hroster ?_
          obtain rfl | rfl := hm <;> rfl

theorem allTidy_iff : s.AllTidy ↔ s.findsHome ∧ s.completeSound ∧ s.roster.length = 32 :=
  ⟨fun h => ⟨fun l g hg => h.home l trivial g hg, fun l => h.complete l trivial, h.size⟩, fun ⟨h1, h2, h3⟩ => ⟨fun l _ g hg => h1 l g hg, fun l _ => h2 l, h3⟩⟩

theorem step_allTidy (hs : s.AllTidy) (hd : s.DevicesDistinct) (h : step s = .next t) : t.AllTidy := by
  obtain ⟨c, rest, -, hc⟩ | ⟨-, rfl⟩ := step_cases h
  · exact exec_allTidy c (hs.frame rest s.now s.choices s.overTemp s.arm) (hd := ⟨hd.fingerprints, hd.addresses, hd.range⟩) hc
  · obtain ⟨pending, choices, ht⟩ := tick_frame s
    rw [ht]
    exact hs.frame pending _ choices s.overTemp s.arm

/-! ## The condition -/

section tables
variable {α : Type} {xs : List (Option α)}

theorem entriesFrom_nodup (n : Nat) (xs : List (Option α)) : ((entriesFrom n xs).map Prod.fst).Nodup := by
  induction xs generalizing n with
  | nil => exact List.nodup_nil
  | cons x rest ih =>
    cases x with
    | none => exact ih (n + 1)
    | some e =>
      refine List.nodup_cons.mpr ⟨fun h => ?_, ih (n + 1)⟩
      obtain ⟨⟨i, y⟩, hy, hi⟩ := List.mem_map.mp h
      obtain ⟨hle, -⟩ := mem_entriesFrom.mp hy
      simp only at hi
      omega

/-- The indices of the entries that satisfy a test, each once. -/
theorem nodup_filter_entriesFrom (p : Nat × α → Bool) : (((entriesFrom 0 xs).filter p).map Prod.fst).Nodup :=
  List.Nodup.sublist (List.filter_sublist.map _) (entriesFrom_nodup 0 xs)

theorem mem_filter_entriesFrom {p : Nat × α → Bool} {i : Nat} :
    i ∈ ((entriesFrom 0 xs).filter p).map Prod.fst ↔ ∃ x, xs.getD i none = some x ∧ p (i, x) = true := by
  have hget (x : α) : xs[i]? = some (some x) ↔ xs.getD i none = some x := by
    rw [List.getD_eq_getElem?_getD]
    cases xs[i]? <;> simp
  simp [List.mem_map, List.mem_filter, mem_entriesFrom, hget]

/-- A count over a table is the length of any list of the indices that count, each once. -/
theorem countP_entriesFrom_eq {p : Nat × α → Bool} {is : List Nat} (hn : is.Nodup) (h : ∀ i, i ∈ is ↔ ∃ x, xs.getD i none = some x ∧ p (i, x) = true) :
    (entriesFrom 0 xs).countP p = is.length := by
  have hperm : (((entriesFrom 0 xs).filter p).map Prod.fst).Perm is :=
    (List.perm_ext_iff_of_nodup (nodup_filter_entriesFrom p) hn).mpr fun i => mem_filter_entriesFrom.trans (h i).symm
  rw [List.countP_eq_length_filter, ← hperm.length_eq, List.length_map]

end tables

/-- An entry of the lane in LIVE or SUSPECT that passes a test stands in a slot. -/
def State.presentAt (s : State) (l : Lane) (j : Nat) (p : Entry → Prop) : Prop :=
  ∃ e, s.entry j = some e ∧ e.lane = l ∧ (e.state = .live ∨ e.state = .suspect) ∧ p e

theorem carriesData_iff (st : EntryState) : st.carriesData = true ↔ st = .live ∨ st = .suspect := by cases st <;> decide

theorem present_iff {p : Entry → Prop} {q : Entry → Bool} (hpq : ∀ e, q e = true ↔ p e) (j : Nat) :
    s.presentAt l j p ↔ ∃ e, s.roster.getD j none = some e ∧ (e.lane == l && (e.state.carriesData && q e)) = true := by
  simp only [State.presentAt, Bool.and_eq_true, beq_iff_eq, carriesData_iff, hpq]
  rfl

/-- An EXACT entry is satisfied by a LIVE or SUSPECT entry of its device (R136). -/
theorem satisfied_exact {i : Nat} {m : MapEntry} (hm : m.kind = .exact) :
    s.satisfied l i m = true ↔ ∃ j, s.presentAt l j fun e => e.fp.extractLsb' 24 24 = m.makerModel ∧ e.fp.extractLsb' 0 24 = m.serial := by
  have hq (e : Entry) : (fpMakerModel e.fp == m.makerModel && fpSerial e.fp == m.serial) = true ↔
      (e.fp.extractLsb' 24 24 = m.makerModel ∧ e.fp.extractLsb' 0 24 = m.serial) := by
    rw [Bool.and_eq_true, beq_iff_eq, beq_iff_eq]
    rfl
  simp only [State.satisfied, hm, State.countEntries, decide_eq_true_eq, List.countP_pos_iff, Bool.and_assoc, present_iff hq]
  constructor
  · rintro ⟨⟨j, e⟩, hmem, he⟩
    exact ⟨j, e, mem_roster.mp hmem, he⟩
  · rintro ⟨j, e, hmem, he⟩
    exact ⟨⟨j, e⟩, mem_roster.mpr hmem, he⟩

/-- A MODEL entry is satisfied by as many LIVE or SUSPECT entries that refer to it as its span (R136). -/
theorem satisfied_model {i : Nat} {m : MapEntry} (hm : m.kind = .model) :
    s.satisfied l i m = true ↔ ∃ slots : List Nat, slots.Nodup ∧ slots.length = m.span ∧ ∀ j, j ∈ slots ↔ s.presentAt l j fun e => e.mapRef = some i := by
  have hq (e : Entry) : (e.mapRef == some i) = true ↔ e.mapRef = some i := beq_iff_eq
  simp only [State.satisfied, hm, State.countEntries, beq_iff_eq, present_iff hq]
  constructor
  · intro h
    exact ⟨_, nodup_filter_entriesFrom _, by rw [List.length_map, ← List.countP_eq_length_filter]; exact h, fun j => mem_filter_entriesFrom⟩
  · rintro ⟨slots, hn, hlen, hmem⟩
    rw [← hlen]
    exact countP_entriesFrom_eq hn hmem

/-- A required map entry of the lane at an index is not satisfied. -/
def State.missingAt (s : State) (l : Lane) (i : Nat) : Prop :=
  ∃ m, s.mapEntry i = some m ∧ m.required = true ∧ m.restriction = some l ∧ s.satisfied l i m = false

theorem unsatisfied_eq {indices : List Nat} (hn : indices.Nodup) (h : ∀ i, i ∈ indices ↔ s.missingAt l i) : s.unsatisfied l = indices.length := by
  refine countP_entriesFrom_eq hn fun i => (h i).trans ?_
  simp only [State.missingAt, Bool.and_eq_true, beq_iff_eq, Bool.not_eq_true', and_assoc]
  rfl

/-- Settles O37: the condition counts the indices that are missing; every change that a lane's completeness or its device in hand sees is followed by an
evaluation of that lane. -/
theorem completeness : Obligations.Completeness := by
  refine ⟨fun s l _ _ => ?_, fun s t htables hd hfinds hcomplete h => ?_⟩
  · intro present satisfied missing indices hn hmem now
    have hsat (i : Nat) (m : MapEntry) : satisfied i m ↔ s.satisfied l i m = true := by
      cases hm : m.kind with
      | exact =>
        simp only [satisfied, hm]
        exact (satisfied_exact hm).symm
      | model =>
        simp only [satisfied, hm]
        exact (satisfied_model hm).symm
    have hcount : s.unsatisfied l = indices.length := unsatisfied_eq hn fun i => (hmem i).trans (by
      simp only [missing, hsat, Bool.not_eq_true]
      rfl)
    have hnow : s.completeNow l = now := by
      simp only [State.completeNow, State.laneLive, State.censusRunning, hcount, now]
      have hidle (r : RunState) : (!(r != .idle)) = (r == .idle) := by cases r <;> rfl
      rw [hidle]
      cases indices <;> rfl
    refine ⟨hnow, ?_⟩
    rw [evalComplete, hnow, hcount]
    rfl
  · have := step_allTidy (allTidy_iff.mpr ⟨hfinds, hcomplete, htables.2.1⟩) hd h
    obtain ⟨h1, h2, -⟩ := allTidy_iff.mp this
    exact ⟨h1, h2⟩

end Sys2Proof.Machine
end

section
/-! The queue of commands, and what the resets leave (O1, O3, O4, O5, O6, O55). -/

namespace Sys2Proof.Machine

variable {s t : State} {l : Lane}

/-- Settles O1: the front command of the queue is the one that is run. -/
theorem stepRunsFrontCommand : Obligations.StepRunsFrontCommand := by
  intro c rest s h
  unfold step
  rw [h]
  rfl

/-! ## Reset values -/

/-- Settles O3: each value stands in the reset state as it is written. -/
theorem resetHoldsTheStatedValues : Obligations.ResetHoldsTheStatedValues := by
  have hlane (l : Lane) : State.reset.lane l = LaneState.initial 5 := by cases l <;> rfl
  refine ⟨rfl, rfl, rfl, rfl, rfl, rfl, rfl, rfl, rfl, rfl, fun l => ?_, rfl, rfl, rfl, rfl, rfl, rfl, rfl, rfl, rfl, rfl, rfl, rfl, rfl⟩
  rw [hlane]
  exact ⟨rfl, rfl, rfl, rfl, rfl, rfl, rfl, rfl, rfl, rfl, rfl, rfl, rfl, rfl, rfl⟩

theorem reset_fresh : State.reset.Fresh := ⟨rfl, fun l => by cases l <;> exact ⟨5, _, rfl⟩, rfl, rfl, rfl, rfl, rfl, rfl, rfl, rfl⟩

/-- Settles O55: a part that holds nothing meets every invariant, with its lanes OFF. -/
theorem resetIsSound : Obligations.ResetIsSound := by
  have hoff (l : Lane) : (State.reset.lane l).power = Power.initial 5 := by cases l <;> rfl
  have htidy := allTidy_iff.mp (reset_fresh.allTidy fun l => by rw [State.laneLive, hoff]; rfl)
  have hhoused := reset_fresh.housed (fun _ => False) (fun _ => False) fun _ => False
  refine ⟨powerSound_iff.mpr fun l => ?_, reset_fresh.countersSound, reset_fresh.queuesSound, reset_fresh.tablesSound,
    fun j e he => (hhoused.entries j e he).elim, fun l h => ?_, reset_fresh.namesDistinct, reset_fresh.devicesDistinct,
    htidy.1, htidy.2.1, reset_fresh.rangeSound, reset_fresh.workSound, nofun⟩
  · rw [hoff]
    exact Power.sound_of_reset (st := .off) (by decide) rfl rfl rfl (stopped_inPlace _)
  · exact (h.elim (hhoused.runs l) (hhoused.inFlight l)).elim

/-! ## Power-on, pin reset and its release -/

theorem resetBlocks_eq (code : Nat) (s : State) : resetBlocks code s = stateAfterReset code s := rfl

theorem exec_powerOn (strap : Strap) (die : Bool) (s : State) :
    exec (.powerOn strap die) s = .next { stateAfterReset (strapCode strap) s with now := 0, overTemp := die } := rfl

theorem exec_pinReset (s : State) : exec .pinReset s = .next { stateAfterReset s.strap s with resetAsserted := true } := rfl

theorem exec_resetRelease (h : s.resetAsserted = true) (strap : Strap) (die : Bool) :
    exec (.resetRelease strap die) s = .next { stateAfterReset (strapCode strap) s with overTemp := die } :=
  congrArg Host.Outcome.next (if_pos h)

/-- Settles O4: the blocks after each reset, with the strap code that is read. -/
theorem resetsSetEveryBlock : Obligations.ResetsSetEveryBlock := by
  intro s code die hcode
  have hstrap : strapCode (.resistor code) = code := if_pos hcode
  refine ⟨?_, rfl, rfl, rfl, fun h => ⟨?_, exec_resetRelease h .opened die, exec_resetRelease h .shorted die⟩⟩
  · rw [exec_powerOn, hstrap]
  · rw [exec_resetRelease h, hstrap]

/-! ## Under RESET# -/

theorem whenRunning_of_reset (h : s.resetAsserted = true) (f : State → State) : whenRunning f s = s := if_pos h

theorem nextRequest_of_reset (h : s.resetAsserted = true) : s.nextRequest = none := by simp [State.nextRequest, h]

theorem takeRequest_of_reset (h : s.resetAsserted = true) (row : RequestRow) (act : List Octet → State → Done) : takeRequest row act s = s :=
  takeRequest_other fun r hr => by rw [nextRequest_of_reset h] at hr; cases hr

theorem takeReset_of_reset (h : s.resetAsserted = true) (die : Bool) : takeReset die s = s := by
  unfold takeReset
  rw [nextRequest_of_reset h]

/-- The forms of the rows that do not act under RESET#: those of a running part, the requests, and the soft reset. -/
theorem exec_forms {c : Instr} (hc : actsUnderReset c = false) (s : State) :
    (∃ f, exec c s = .next (whenRunning f s)) ∨ (∃ row act, exec c s = .next (takeRequest row act s)) ∨ ∃ die, exec c s = .next (takeReset die s) := by
  cases c
  case resetPart die => exact .inr (.inr ⟨die, rfl⟩)
  case identify | readStatus | laneControlEnable | laneControlDisable | laneControlClearLatch | laneControlNone | laneOptionsWrite | laneOptionsRead |
      writeProfile | readProfile | startCensus | stopCensus | readRoster | find | mapWrite | mapClear | mapRead | setProvisionalRange | nameDevice |
      release | cycleListWrite | cycleListClear | cycleListRead | cycleControlStart | cycleControlStop | cycleControlNone | fetchNotices |
      noticeMasksWrite | noticeMasksRead | readCounters | unknownRequest => exact .inr (.inl ⟨_, _, rfl⟩)
  case powerOn | pinReset | resetRelease | lockAssert | lockDeassert | probeCurrentChange | backfeedVoltageChange => cases hc
  all_goals exact .inl ⟨_, rfl⟩

theorem exec_of_reset {c : Instr} (h : s.resetAsserted = true) (hc : actsUnderReset c = false) : exec c s = .next s := by
  obtain ⟨f, hf⟩ | ⟨row, act, hf⟩ | ⟨die, hf⟩ := exec_forms hc s
  · rw [hf, whenRunning_of_reset h]
  · rw [hf, takeRequest_of_reset h]
  · rw [hf, takeReset_of_reset h]

/-- A soft reset does not touch the reset pin. -/
theorem takeReset_resetAsserted (die : Bool) (s : State) : (takeReset die s).resetAsserted = s.resetAsserted := by
  have hsoft (s : State) : (softReset die s).resetAsserted = s.resetAsserted := (softReset_moves (fun _ => True) die s).framed.resetAsserted
  unfold takeReset
  split
  · next r hr =>
    split
    · split
      · unfold acceptReset
        split
        · exact hsoft s
        · rw [hsoft, offer_frame]
      · obtain ⟨b, hb⟩ := answerRequest_refuse .badLength r s
        rw [hb]
    · rfl
  · rfl

/-- A change of what a lane senses leaves the part as quiet as it was. -/
theorem State.resetQuiet.sense (hs : s.resetQuiet) {g : Power → Power} (hg : ∀ p, (g p).state = p.state) : (modPower l g s).resetQuiet := by
  intro h
  rw [modPower_resetAsserted] at h
  obtain ⟨hoff, htx, hout, hreq, hnotices, hroster⟩ := hs h
  refine ⟨fun k => ?_, by simpa using htx, by simpa using hout, by simpa using hreq, by simpa using hnotices, by simpa using hroster⟩
  rw [modPower_lane_eq]
  split
  · simpa [hg] using hoff k
  · exact hoff k

theorem stateAfterReset_quiet (code : Nat) (s : State) (pin : Bool) : ({ stateAfterReset code s with resetAsserted := pin } : State).resetQuiet :=
  fun _ => ⟨fun l => by cases l <;> rfl, rfl, rfl, rfl, rfl, rfl⟩

theorem exec_resetQuiet_of_reset {c : Instr} (hs : s.resetQuiet) (hp : s.resetAsserted = true) (hc : actsUnderReset c = true) (h : exec c s = .next t) :
    t.resetQuiet := by
  have hlock {g : Power → Power} (hg : ∀ p, (g p).state = p.state) (l : Lane) (f : State → State) : (whenRunning f (modPower l g s)).resetQuiet := by
    rw [whenRunning_of_reset (by simpa using hp)]
    exact hs.sense hg
  cases c <;> cases h
  case powerOn strap die => exact nofun
  case pinReset => exact stateAfterReset_quiet s.strap s true
  case resetRelease strap die =>
    rw [if_pos hp]
    exact nofun
  case lockAssert l => exact hlock (g := fun p => { p with lock := true }) (fun _ => rfl) l _
  case lockDeassert l => exact hlock (g := fun p => { p with lock := false }) (fun _ => rfl) l _
  case probeCurrentChange l n => exact hlock (g := fun p => { p with probeCurrent := n }) (fun _ => rfl) l _
  case backfeedVoltageChange l b => exact hlock (g := fun p => { p with overSupply := b }) (fun _ => rfl) l _
  all_goals cases hc

theorem exec_resetQuiet_of_running {c : Instr} (hs : s.resetQuiet) (hp : s.resetAsserted = false) (hc : resets c = true) (h : exec c s = .next t) :
    t.resetQuiet := by
  cases c <;> cases h
  case powerOn strap die => exact nofun
  case pinReset => exact stateAfterReset_quiet s.strap s true
  case resetRelease strap die =>
    rw [if_neg (by simp [hp])]
    exact hs
  case resetPart die => exact fun ht => absurd (ht.symm.trans ((takeReset_resetAsserted die s).trans hp)) nofun
  all_goals cases hc

theorem exec_resetQuiet (c : Instr) (s t : State) (hs : s.resetQuiet) (h : exec c s = .next t) : t.resetQuiet := by
  cases hp : s.resetAsserted with
  | true =>
    cases hc : actsUnderReset c with
    | false =>
      rw [exec_of_reset hp hc] at h
      cases h
      exact hs
    | true => exact exec_resetQuiet_of_reset hs hp hc h
  | false =>
    cases hc : resets c with
    | false =>
      have hf := (exec_moves (home := fun _ => True) (apart := False) hc h False.elim (fun _ _ => trivial) (fun _ _ => trivial)
        fun _ _ => trivial).framed
      exact fun ht => absurd (ht.symm.trans (hf.resetAsserted.trans hp)) nofun
    | true => exact exec_resetQuiet_of_running hs hp hc h

/-- Settles O5: every row asks first whether the part runs, and the sensed levels are kept outside it. -/
theorem nothingActsUnderReset : Obligations.NothingActsUnderReset := by
  refine ⟨fun c s h hc => exec_of_reset h hc, fun s t hs h => ?_⟩
  refine step_keeps (P := State.resetQuiet) (fun s _ _ _ hs h => ?_) exec_resetQuiet hs h
  obtain ⟨hoff, hrest⟩ := hs h
  exact ⟨fun l => by cases l <;> [exact hoff .a; exact hoff .b], hrest⟩

/-! ## The soft reset -/

theorem laneSoftReset_eq (code now : Nat) (x : LaneState) : x.softReset (ceilingOf code) now = laneAfterSoftReset code now x := by
  unfold LaneState.softReset Power.softReset laneAfterSoftReset
  cases x.power.state <;> rfl

theorem softBlocks_eq (s : State) : softBlocks s = { stateAfterReset s.strap s with
    resetAsserted := s.resetAsserted
    arm := s.arm.softReset
    laneA := laneAfterSoftReset s.strap s.now s.laneA
    laneB := laneAfterSoftReset s.strap s.now s.laneB } := by
  rw [← laneSoftReset_eq, ← laneSoftReset_eq]
  rfl

theorem softBlocks_lane (s : State) (l : Lane) : (softBlocks s).lane l = laneAfterSoftReset s.strap s.now (s.lane l) := by
  rw [softBlocks_eq]
  cases l <;> rfl

/-- A RESET PART at the front of the request queue is taken. -/
theorem takeReset_asked {tag : Octet} {args : List Octet} {rest : List Request} (h : s.Asked tag (0x18 :: args) rest) (die : Bool) :
    takeReset die s = if args = [] then acceptReset die ⟨tag, 0x18 :: args⟩ s
      else answerRequest (fun _ s => refuse .badLength s) ⟨tag, 0x18 :: args⟩ s := by
  have hnext : s.nextRequest = some ⟨tag, 0x18 :: args⟩ := by
    rw [State.nextRequest, if_pos ⟨h.running, h.room⟩, h.front]
    rfl
  rw [takeReset, hnext]
  rfl

/-- An accepted soft reset while the link is UP leaves the RESPONSE as the one frame. -/
theorem exec_resetPart {tag : Octet} {rest : List Request} (h : s.Asked tag [0x18] rest) (die : Bool) :
    exec (.resetPart die) s = .next (keepFrame ⟨0, .response, tag, [0x18, 0, octet s.notices.queue.length]⟩ (softReset die s)) := by
  have ht := takeReset_asked h die
  rw [if_pos rfl, acceptReset, if_pos h.linkUp] at ht
  exact congrArg Host.Outcome.next ht

theorem exec_resetPart_of_args {tag a : Octet} {args : List Octet} {rest : List Request} (h : s.Asked tag (0x18 :: a :: args) rest) (die : Bool) :
    exec (.resetPart die) s = .next (s.answered rest tag 0x18 .badLength []) := by
  have ht := takeReset_asked h die
  have hrefused := takeRequest_refused (row := .resetPart) (act := fun _ s => refuse .badLength s) h rfl rfl
  have hnext : s.nextRequest = some ⟨tag, 0x18 :: a :: args⟩ := by
    rw [State.nextRequest, if_pos ⟨h.running, h.room⟩, h.front]
    rfl
  rw [takeRequest, hnext] at hrefused
  rw [if_neg (by simp)] at ht
  exact congrArg Host.Outcome.next (ht.trans hrefused)

/-- A hot die finds one lane discharging towards OFF: that lane goes through FAULT to OFF, with its two notices (R31, R183). -/
theorem thermalLane_of_reset (hst : (s.lane l).power.state = .discharging) (hdp : (s.lane l).power.disablePending = .reset) :
    thermalLane l s = enterPower l .off .reset .no (enterFault l .thermal s) := by
  rw [thermalLane, hst, hdp]
  rfl

/-- The moves of lane power that leave the other lane's power alone. -/
def Scope.powerOf (l : Lane) : Scope where
  part
    | .power k => k = l
    | .overTemp => False
    | _ => True
  home := fun _ => True
  apart := False

theorem powerOf_powers (l : Lane) : (Scope.powerOf l).Powers l where
  notices := trivial
  complete := fun _ => trivial
  cursor := trivial
  cycle := trivial
  outbound := trivial
  drops := trivial
  census := trivial
  unaddress := trivial
  forward := trivial
  power := rfl
  exchange := trivial
  slots := fun _ => trivial

theorem Moves.otherPower {k : Lane} (h : Moves (Scope.powerOf l) s t) (hk : k ≠ l) : (t.lane k).power = (s.lane k).power :=
  ((Moves.framed h).power k).resolve_left hk

theorem thermalLane_of_off (h : (s.lane l).power.state = .off) : thermalLane l s = s := by
  rw [thermalLane, h]
  rfl

theorem setOverTemperature_of_one (hother : (s.lane (otherLane l)).power.state = .off) : setOverTemperature s = thermalLane l { s with overTemp := true } := by
  cases l with
  | a =>
    rw [setOverTemperature, show s.laneB.power.state = .off from hother, Bool.and_comm]
    refine thermalLane_of_off ?_
    rw [(thermalLane_moves (powerOf_powers .a) { s with overTemp := true }).otherPower (by decide)]
    exact hother
  | b =>
    rw [setOverTemperature, show s.laneA.power.state = .off from hother]
    exact congrArg (thermalLane .b) (thermalLane_of_off hother)

/-- A notice that the reset masks let pass into a queue with room. -/
theorem notify_of_room {n : Notice} (hpass : s.notices.masks.passes n = true) (hroom : s.notices.queue.length < 16) :
    notify n s = { s with notices := { s.notices with queue := s.notices.queue ++ [⟨n, false⟩] } } := by
  rw [notify, if_pos hpass, pushNotice, if_pos (show _ < noticeCapacity from hroom)]

theorem passes_lane (l : Lane) (st : PowerState) (c : LaneCause) (n : Nat) : Masks.initial.passes (.lane l st c n) = true := by simp [Masks.passes, Notice.kindBit, Notice.kindCode, Masks.initial]

/-- A discharge on the way to OFF under a hot die: FAULT with count 1, then OFF. -/
theorem thermalLane_softReset (hst : (s.lane l).power.state = .discharging) (hdp : (s.lane l).power.disablePending = .reset)
    (hcount : (s.lane l).power.faultCount = 0) (hnotices : s.notices = .initial) :
    let t := thermalLane l s
    (t.lane l).power.state = .off ∧ (t.lane l).power.faultCount = 1 ∧ (t.lane l).power.lastFault = some .thermal ∧
      t.notices = { NoticeUnit.initial with queue := [⟨.lane l .fault (.trip .thermal) 1, false⟩, ⟨.lane l .off .reset 1, false⟩] } := by
  have hfault := enterFault_of_not_live (by rw [hst]; decide) .thermal (show min 3 ((s.lane l).power.faultCount + 1) = 1 by rw [hcount]; rfl)
  dsimp only
  rw [thermalLane_of_reset hst hdp, enterPower_of_not_live (by simp [hfault, faultState]), hfault]
  refine ⟨by simp, by simp, by simp [Power.entered], ?_⟩
  rw [notify_lane, setLane_lane, entered_faultCount]
  have hfirst (x : LaneState) : (notify (.lane l .fault (.trip .thermal) 1) (s.setLane l x)).notices =
      { NoticeUnit.initial with queue := [⟨.lane l .fault (.trip .thermal) 1, false⟩] } := by
    rw [notify_of_room (by rw [setLane_notices, hnotices]; exact passes_lane ..) (by rw [setLane_notices, hnotices]; decide), setLane_notices, hnotices]
    rfl
  rw [notify_of_room]
  · dsimp only
    rw [setLane_notices]
    exact congrArg (fun u : NoticeUnit => { u with queue := u.queue ++ [(⟨.lane l .off .reset 1, false⟩ : NoticeRecord)] }) (hfirst _)
  · rw [setLane_notices]
    exact (congrArg (fun u : NoticeUnit => u.masks.passes _) (hfirst _)).trans (passes_lane ..)
  · rw [setLane_notices]
    exact (congrArg (fun u : NoticeUnit => u.queue.length < 16) (hfirst _)).mpr (show 1 < 16 by decide)

theorem softBlocks_of_powered (h : (s.lane l).power.state = .ramping ∨ (s.lane l).power.state = .live) :
    ((softBlocks s).lane l).power.state = .discharging ∧ ((softBlocks s).lane l).power.disablePending = .reset ∧
      ((softBlocks s).lane l).power.faultCount = 0 := by
  rw [softBlocks_lane, laneAfterSoftReset, if_pos h]
  exact ⟨rfl, rfl, rfl⟩

theorem softBlocks_of_unpowered (h1 : (s.lane l).power.state ≠ .ramping) (h2 : (s.lane l).power.state ≠ .live) :
    ((softBlocks s).lane l).power.state = .off ∧ ((softBlocks s).lane l).power.faultCount = 0 := by
  rw [softBlocks_lane, laneAfterSoftReset, if_neg (not_or.mpr ⟨h1, h2⟩)]
  exact ⟨rfl, rfl⟩

/-- Settles O6: the soft reset, block by block; a hot die finds the one lane that was powered on its way to OFF. -/
theorem resetPartSoftReset : Obligations.SoftReset := by
  refine fun s tag rest => ⟨fun h => ?_, fun a args die h => exec_resetPart_of_args h die, fun l h hpowered h1 h2 => ?_⟩
  · rw [exec_resetPart h, softReset, if_neg (by decide), softBlocks_eq]
    refine congrArg Host.Outcome.next ?_
    rw [h.running]
    simp only [keepFrame, modArm, ArmLink.softReset, h.linkUp]
    rfl
  · obtain ⟨hst, hdp, hcount⟩ := softBlocks_of_powered hpowered
    obtain ⟨hoff, hzero⟩ := softBlocks_of_unpowered h1 h2
    have hthermal : softReset true s = thermalLane l { softBlocks s with overTemp := true } := by
      rw [softReset, if_pos rfl, setOverTemperature_of_one hoff]
    have hlane (k : Lane) : State.lane { softBlocks s with overTemp := true } k = (softBlocks s).lane k := by cases k <;> rfl
    have hmoves := thermalLane_moves (powerOf_powers l) { softBlocks s with overTemp := true }
    obtain ⟨k1, k2, k3, k4⟩ := thermalLane_softReset (s := { softBlocks s with overTemp := true }) (l := l) (by rw [hlane]; exact hst)
      (by rw [hlane]; exact hdp) (by rw [hlane]; exact hcount) rfl
    have hother := hmoves.otherPower (k := otherLane l) (by cases l <;> decide)
    rw [hlane] at hother
    refine ⟨_, exec_resetPart h true, ?_⟩
    rw [hthermal]
    simp only [keepFrame, modArm_lane, modArm_overTemp, modArm_notices, modArm_arm]
    refine ⟨?_, k1, k2, k3, by rw [hother]; exact hoff, by rw [hother]; exact hzero, by rw [k4], trivial, ?_⟩
    · exact (Moves.framed hmoves).overTemp.resolve_left id
    · rw [State.alertAsserted, modArm_notices, k4]
      simp [NoticeUnit.initial, Masks.initial]

end Sys2Proof.Machine
end

section
/-! PROOFS. The arm link's own events (O9), notices and offers (O12), READ COUNTERS (O21) and the entry to a power state (O24). -/

namespace Sys2Proof.Machine

/-! ## A running part -/

theorem whenRunning_of_running {f : State → State} {s : State} (h : s.resetAsserted = false) : whenRunning f s = f s := by
  simp [whenRunning, h]

/-! ## Notices and offers -/

theorem notify_of_masked {n : Notice} {s : State} (h : s.notices.masks.passes n = false) : notify n s = s := by simp [notify, h]

theorem notify_of_full {n : Notice} {s : State} (h : s.notices.masks.passes n = true) (hfull : 16 ≤ s.notices.queue.length) :
    notify n s = { s with notices := { s.notices with queue := s.notices.queue.dropLast ++ [⟨n, true⟩] } } := by
  simp [notify, h, pushNotice, noticeCapacity, Nat.not_lt.mpr hfull]

theorem offer_of_down {f : ArmFrame} {s : State} (h : s.arm.linkUp = false) : offer f s = countOutboundDrop s := by simp [offer, h]

/-- Settles O12: each clause is one branch of `notify`, `passes` or `offer`. -/
theorem noticesAndOffers : Obligations.NoticesAndOffers := by
  intro n f s
  refine ⟨notify_of_masked, notify_of_room, notify_of_full, fun _ _ _ _ => ?_, fun _ _ _ _ => ?_, fun _ _ _ _ _ _ => ?_, fun _ _ _ _ _ => ?_, fun _ _ _ _ => ?_,
    fun _ _ _ _ => ?_, fun _ _ _ => rfl, fun _ _ => ?_, offer_of_room, fun h => ?_⟩
  case refine_3 d _ _ => cases d <;> rfl
  case refine_8 => exact h.elim offer_of_down offer_of_full
  all_goals exact Bool.and_true _

/-! ## The entry to a power state -/

/-- Settles O24: the timers after an entry are `timersOnEntry`, field by field. -/
theorem entryToAPowerState : Obligations.EntryToAPowerState := by
  intro p st dp now
  refine ⟨rfl, rfl, rfl, rfl, rfl, rfl, rfl, rfl, ?_, timersOnEntry_inPlace st now p, ?_, ?_, ?_, ?_, ?_, ?_, ?_, ?_⟩
  · cases st <;> rfl
  · rintro rfl
    simp [Power.entered, timersOnEntry, watchTimer, Power.coupled, Power.probeDraws, startTimer, qualifyMs]
  · rintro rfl; rfl
  · rintro rfl; rfl
  · rintro rfl; rfl
  · rintro rfl; rfl
  · rintro rfl
    simp [Power.entered, timersOnEntry, watchTimer, Power.underCurrent, startTimer, removalMs]
  · rintro (rfl | rfl) <;> rfl
  · rintro (rfl | rfl | rfl) <;> cases hbackfeed : p.timers.backfeed <;>
      simp [Power.entered, timersOnEntry, PowerState.watchesBackfeed, watchTimer, startTimer, hbackfeed, backfeedMs]

/-! ## READ COUNTERS -/

theorem linkCounters_octets (c : LinkCounters) : c.octets = octets2 c.framesGood ++ octets2 c.corrupt ++ octets2 c.framingErrors ++
    octets2 c.inboundOverflow ++ octets2 c.misdirected ++ octets2 c.outboundDrops := rfl

theorem clearLaneGroup_eq (clear : Bool) (l : Lane) (s : State) : clearLaneGroup clear l s =
    s.setLane l { s.lane l with counters := if clear then ⟨0, 0, 0, 0, 0, 0, 0⟩ else (s.lane l).counters } := by
  cases clear
  · exact (setLane_lane_self s l).symm
  · rfl

theorem clearLaneGroup_ignoresArm (clear : Bool) (l : Lane) : IgnoresArm (clearLaneGroup clear l) := by
  intro g s
  cases clear <;> cases l <;> rfl

theorem actReadCounters_lane (l : Lane) (flags : Octet) (s : State) : actReadCounters [octet (laneCode l), flags] s =
    done (octet (laneCode l) :: (s.lane l).counters.octets) (clearLaneGroup (flags.getLsbD 7) l s) := by
  cases l <;> rfl

theorem exec_readCounters_link {s : State} {tag flags : Octet} {rest : List Request} (h : s.Asked tag [0x17, 0, flags] rest) :
    exec .readCounters s = .next (
      { s with arm := { s.arm with counters := if flags.getLsbD 7 then ⟨0, 0, 0, 0, 0, 0⟩ else s.arm.counters } }.answered rest tag 0x17 .ok
        (0 :: s.arm.counters.octets)) := by
  refine congrArg Host.Outcome.next ((takeRequest_asked h rfl).trans ?_)
  have hact : actOn actReadCounters [0x17, 0, flags] (s.taken tag [0x17, 0, flags]) =
      done (0 :: s.arm.counters.octets) (clearLinkGroup (flags.getLsbD 7) (s.taken tag [0x17, 0, flags])) := rfl
  rw [hact]
  cases flags.getLsbD 7 <;>
    simp [placeFrame, State.taken, appendFrame, popRequest, modArm, modLink, State.answered, responseTo, h.front, done, clearLinkGroup, State.waiting,
      requestCode, LinkCounters.zero]

theorem exec_readCounters_lane {s : State} {l : Lane} {tag flags : Octet} {rest : List Request}
    (h : s.Asked tag [0x17, octet (laneCode l), flags] rest) :
    exec .readCounters s = .next ((clearLaneGroup (flags.getLsbD 7) l s).answered rest tag 0x17 .ok
      (octet (laneCode l) :: (s.lane l).counters.octets)) := by
  refine congrArg Host.Outcome.next (takeRequest_of_ignoresArm h rfl (clearLaneGroup_ignoresArm (flags.getLsbD 7) l) ?_)
  refine (actReadCounters_lane l flags _).trans ?_
  rw [taken_lane]
  rfl

theorem actReadCounters_of_no_group {g : Octet} (hg : 2 < g.toNat) (flags : Octet) (s : State) :
    actReadCounters [g, flags] s = refuse .badArgument s := by
  simp only [actReadCounters]
  split
  · omega
  · omega
  · omega
  · rfl

/-- Settles O21: the values go into the RESPONSE as they stood, and the clear acts on the group named. -/
theorem readCounters : Obligations.ReadCounters := by
  refine fun s tag flags rest => ⟨exec_readCounters_link, fun l h => ?_, fun g hg h => ?_⟩
  · rw [exec_readCounters_lane h, clearLaneGroup_eq]
    rfl
  · exact congrArg Host.Outcome.next (takeRequest_of_refuse h rfl (actReadCounters_of_no_group hg flags))

/-! ## The arm link's own events -/

theorem receiveFrame_of_framing {c : FrameClass} (h : c = .misaligned ∨ c = .short) (s : State) : receiveFrame c s = countFramingError s := by
  obtain rfl | rfl := h <;> rfl

theorem transmit_of_waiting {s : State} {f : ArmFrame} {rest : List ArmFrame} (htx : s.arm.tx = none) (hout : s.arm.outbound = f :: rest) :
    transmit s = { s with arm := { s.arm with tx := some f.lineBits, outbound := rest } } := by
  simp [transmit, htx, hout, modArm]

theorem transmit_of_nothing {s : State} (h : s.arm.tx.isSome = true ∨ s.arm.outbound = []) : transmit s = s := by
  unfold transmit
  split
  next htx hout => simp [htx, hout] at h
  next => rfl

/-- The link goes DOWN (R17, R18), field by field. -/
theorem linkDown_eq (s : State) : linkDown s = { s with
    arm := { s.arm with linkUp := false, linkTimer := none, outbound := [] }
    laneA := { s.laneA with forward := [] }
    laneB := { s.laneB with forward := [] }
    seq := (stopSequencer s).seq } := by
  cases hstate : s.seq.state <;> simp [linkDown, bothLanes, modLane, State.setLane, State.lane, modArm, stopSequencer, modSeq, hstate]

/-- Settles O9: each row of the arm link takes its branch, and `linkDown_eq` says what the loss of the link does. -/
theorem armLinkEvents : Obligations.ArmLinkEvents := by
  intro s n bits hrun
  have hwhen (f : State → State) : whenRunning f s = f s := whenRunning_of_running hrun
  refine ⟨fun hrx => ?_, fun hrx => ⟨?_, fun hn => ?_, fun hn => ?_, fun hc => ?_, fun hc => ?_⟩, fun hrx => ?_, fun f rest htx hout => ?_, fun h => ?_, ?_,
    fun m hup htimer => ⟨fun hm => ?_, fun hm => ?_⟩⟩
  · simp only [exec, execOpeningDelimiter, hwhen, hrx, if_true]; rfl
  · simp only [exec, execFrameLong, hwhen, hrx, if_true]; rfl
  · simp only [exec, execFrameBreak, hwhen, hrx, if_true, breakClass, hn]; rfl
  · simp only [exec, execFrameBreak, hwhen, hrx, if_true, breakClass, Nat.not_le.mpr hn, if_false]; rfl
  · simp only [exec, execArmFrameReceived, hwhen, hrx, if_true, hc]; rfl
  · simp only [exec, execArmFrameReceived, hwhen, hrx, if_true, receiveFrame_of_framing hc]; rfl
  · simp only [exec, execDiscardEnd, hwhen, hrx, if_true]; rfl
  · simp only [exec, execTransmitStart, hwhen, transmit_of_waiting htx hout, ArmFrame.lineBits, ArmFrame.body]
    cases f.kind <;> rfl
  · simp only [exec, execTransmitStart, hwhen, transmit_of_nothing h]
  · simp only [exec, execTransmitTailBit, hwhen]; rfl
  · simp only [exec, execLinkTimerExpiry, hwhen, hup, htimer, ranOut, hm, decide_true, Bool.and_self, if_true, linkDown_eq]
    cases hstate : s.seq.state <;> simp [stopSequencer, modSeq, hstate]
  · simp only [exec, execLinkTimerExpiry, hwhen, hup, htimer, ranOut, Nat.not_le.mpr hm, decide_false, Bool.and_false, Bool.false_eq_true, if_false]

end Sys2Proof.Machine
end

section
/-! PROOFS. The step on an empty queue (O2): what comes due is a list without repetitions whose members are the timers that run out, and `arrange` permutes it. -/

namespace Sys2Proof.Machine

/-! ## The order is free -/

theorem arrange_perm (choice : Nat) (cs : List Instr) : (arrange choice cs).Perm cs := by
  induction cs generalizing choice with
  | nil => exact .nil
  | cons c rest ih =>
    cases rest with
    | nil => exact .refl _
    | cons d rest =>
      have hrest := ih (choice + 1)
      refine (List.perm_insertIdx c _ ?_).trans (hrest.cons c)
      rw [hrest.length_eq]
      exact Nat.le_of_lt_succ (Nat.mod_lt _ (Nat.succ_pos _))

/-- The state in which one ms has passed and nothing has come to wait yet. -/
def State.later (s : State) : State := { s with now := s.now + 1 }

@[simp] theorem later_now (s : State) : s.later.now = s.now + 1 := rfl
@[simp] theorem later_lane (s : State) (l : Lane) : s.later.lane l = s.lane l := by cases l <;> rfl
@[simp] theorem later_entry (s : State) (slot : Nat) : s.later.entry slot = s.entry slot := rfl
@[simp] theorem later_arm (s : State) : s.later.arm = s.arm := rfl
@[simp] theorem later_seq (s : State) : s.later.seq = s.seq := rfl

theorem tick_pending {s : State} (h : s.pending = []) : (tick s).pending.Perm s.later.dueNow := by
  have htick : (tick s).pending = s.pending ++ arrange (s.choices + 2) s.later.dueNow := by
    change (presentDue s.later).pending = _
    unfold presentDue
    split
    next hnone => simp only [hnone, arrange, List.append_nil]; rfl
    next => rfl
  rw [htick, h]
  exact arrange_perm _ _

/-! ## Which timers have come due -/

@[simp] theorem mem_dueAt {now : Nat} {t : Option Nat} {i c : Instr} : c ∈ dueAt now t i ↔ t = some now ∧ c = i := by
  unfold dueAt
  split <;> simp [*]

theorem dueAt_sublist (now : Nat) (t : Option Nat) (i : Instr) : (dueAt now t i).Sublist [i] := by
  unfold dueAt
  split
  · exact .refl _
  · exact List.nil_sublist _

theorem reachesAt_eq_true {now interval : Nat} {start : Option Nat} :
    reachesAt now interval start = true ↔ ∃ m, start = some m ∧ interval ≠ 0 ∧ m + interval = now := by
  cases start <;> simp [reachesAt]

theorem mem_entryDue {now interval slot : Nat} {e : Entry} {c : Instr} : c ∈ entryDue now interval slot e ↔
    (e.state = .live ∧ reachesAt now interval e.silenceFrom = true ∧ c = .silenceCheckDue slot) ∨
      (e.state = .lost ∧ reachesAt now interval e.recallFrom = true ∧ c = .recallEchoDue slot) := by
  unfold entryDue
  cases e.state <;> simp

/-- The commands of the entries' timers that are due now. -/
def State.entriesDue (s : State) : List Instr :=
  (entriesFrom 0 s.roster).flatMap (fun x => entryDue s.now (s.lane x.2.lane).options.silenceInterval x.1 x.2)

theorem mem_entriesDue {s : State} {c : Instr} : c ∈ s.entriesDue ↔
    ∃ slot e, s.entry slot = some e ∧ c ∈ entryDue s.now (s.lane e.lane).options.silenceInterval slot e := by
  simp only [State.entriesDue, List.mem_flatMap, Prod.exists, mem_roster]

/-! ## Nothing comes due twice -/

/-- The timer rows of a lane, each once. -/
def laneTimers (below110 : Bool) (l : Lane) : List Instr :=
  [.qualifyTimerExpiry l, .rampTimerExpiry l, .overcurrentMaskExpiry l, .backfeedMaskExpiry l, .removalTimerExpiry l, .liveStabilityExpiry l,
    .dischargeTimerExpiry l, .cooldownExpiry l below110]

theorem laneDue_sublist (now : Nat) (b : Bool) (l : Lane) (t : PowerTimers) : (laneDue now b l t).Sublist (laneTimers b l) :=
  (((((((dueAt_sublist ..).append (dueAt_sublist ..)).append (dueAt_sublist ..)).append (dueAt_sublist ..)).append (dueAt_sublist ..)).append
    (dueAt_sublist ..)).append (dueAt_sublist ..)).append (dueAt_sublist ..)

theorem entryDue_nodup (now interval slot : Nat) (e : Entry) : (entryDue now interval slot e).Nodup := by
  unfold entryDue
  cases e.state <;> simp only [List.nodup_nil] <;> split <;> simp

theorem entriesDue_nodup (s : State) : s.entriesDue.Nodup := by
  refine List.nodup_flatMap.mpr ⟨fun x _ => ?_, ?_⟩
  · exact (entryDue_nodup _ _ _ _)
  · have hslots := List.pairwise_map.mp (entriesFrom_nodup 0 s.roster)
    refine hslots.imp (fun {x y} hne c hx hy => ?_)
    rw [mem_entryDue] at hx hy
    grind

/-- The rows of the timers that are no entry's. -/
def partTimers (belowA belowB : Bool) : List Instr :=
  [.linkTimerExpiry] ++ laneTimers belowA .a ++ laneTimers belowB .b ++ [.periodTimerExpiry]

theorem partTimers_nodup (a b : Bool) : (partTimers a b).Nodup := by cases a <;> cases b <;> decide

theorem dueNow_sublist (s : State) : ∃ a b, s.dueNow.Sublist (partTimers a b ++ s.entriesDue) :=
  ⟨_, _, ((((dueAt_sublist ..).append (laneDue_sublist ..)).append (laneDue_sublist ..)).append (dueAt_sublist ..)).append (.refl _)⟩

theorem disjoint_entriesDue (a b : Bool) (s : State) : (partTimers a b).Disjoint s.entriesDue := by
  intro c hc hdue
  obtain ⟨slot, e, -, h⟩ := mem_entriesDue.mp hdue
  rcases mem_entryDue.mp h with ⟨-, -, rfl⟩ | ⟨-, -, rfl⟩ <;> simp [partTimers, laneTimers] at hc

theorem dueNow_nodup (s : State) : s.dueNow.Nodup := by
  obtain ⟨a, b, h⟩ := dueNow_sublist s
  exact h.nodup (List.nodup_append'.mpr ⟨partTimers_nodup a b, entriesDue_nodup s, disjoint_entriesDue a b s⟩)

theorem isMsTimer_of_dueNow {s : State} {c : Instr} (h : c ∈ s.dueNow) : isMsTimer c = true := by
  obtain ⟨a, b, hsub⟩ := dueNow_sublist s
  rcases List.mem_append.mp (hsub.subset h) with hc | hc
  · simp only [partTimers, laneTimers, List.mem_append, List.mem_cons, List.not_mem_nil, or_false] at hc
    rcases hc with ((rfl | rfl | rfl | rfl | rfl | rfl | rfl | rfl | rfl) | rfl | rfl | rfl | rfl | rfl | rfl | rfl | rfl) | rfl <;> rfl
  · obtain ⟨slot, e, -, he⟩ := mem_entriesDue.mp hc
    rcases mem_entryDue.mp he with ⟨-, -, rfl⟩ | ⟨-, -, rfl⟩ <;> rfl

/-! ## O2 -/

theorem mem_dueNow {s : State} {c : Instr} : c ∈ s.dueNow ↔ c ∈ dueAt s.now s.arm.linkTimer .linkTimerExpiry ∨
    c ∈ laneDue s.now (Config.dieBelow110 s.choices) .a (s.lane .a).power.timers ∨
    c ∈ laneDue s.now (Config.dieBelow110 (s.choices + 1)) .b (s.lane .b).power.timers ∨
    c ∈ dueAt s.now s.seq.timer .periodTimerExpiry ∨ c ∈ s.entriesDue := by
  simp only [State.dueNow, State.entriesDue, List.mem_append, or_assoc, lane_a, lane_b]

/-- Settles O2: the queue after the step is a permutation of what is due at the new moment. -/
theorem idleStepPassesOneMillisecond : Obligations.IdleStepPassesOneMillisecond := by
  intro s hpending
  have hperm := tick_pending hpending
  obtain ⟨pending, choices, hframe⟩ := tick_frame s
  have hmem (c : Instr) : c ∈ (tick s).pending ↔ c ∈ s.later.dueNow := hperm.mem_iff
  refine ⟨tick s, by rw [step, hpending], by rw [hframe], hperm.nodup_iff.mpr (dueNow_nodup _), fun c hc => isMsTimer_of_dueNow ((hmem c).mp hc), ?_, ?_, fun l => ?_,
    fun slot => ?_⟩
  · simp [hmem, mem_dueNow, laneDue, mem_entriesDue, mem_entryDue]
  · simp [hmem, mem_dueNow, laneDue, mem_entriesDue, mem_entryDue]
  · simp only [hmem, mem_dueNow, later_now, later_lane]
    cases l
    · simpa [laneDue, mem_entriesDue, mem_entryDue] using fun _ cool _ => cool
    · simpa [laneDue, mem_entriesDue, mem_entryDue] using fun _ cool _ => cool
  · simp [hmem, mem_dueNow, laneDue, mem_entriesDue, mem_entryDue, reachesAt_eq_true]

end Sys2Proof.Machine
end

section
/-! PROOFS. Framing: what bit insertion makes (O7), and the line receiver over a run of frames (O8). -/

namespace Sys2Proof.Machine

/-! ## Bit insertion -/

theorem lineLegal_insertFrom {run : Nat} (hrun : run ≤ 5) (bits : List Bool) : lineLegal run (insertFrom run bits) = true := by
  induction bits generalizing run with
  | nil => cases run <;> rfl
  | cons b bs ih =>
    cases b with
    | false => simpa [insertFrom, lineLegal] using ih (Nat.zero_le 5)
    | true =>
      by_cases h : run = 5
      · simpa [insertFrom, h, lineLegal] using ih (Nat.zero_le 5)
      · simp only [insertFrom, h, if_false, lineLegal, Bool.and_eq_true, decide_eq_true_eq]
        exact ⟨by omega, ih (by omega)⟩

theorem lineLegal_insertBits (bits : List Bool) : lineLegal 0 (insertBits bits) = true := lineLegal_insertFrom (Nat.zero_le 5) bits

theorem length_insertFrom {run : Nat} (hrun : run ≤ 5) (bits : List Bool) :
    (insertFrom run bits).length ≤ bits.length + (bits.length + run) / 6 := by
  induction bits generalizing run with
  | nil => simp [insertFrom]
  | cons b bs ih =>
    cases b with
    | false =>
      have := ih (Nat.zero_le 5)
      simp only [insertFrom, List.length_cons]
      omega
    | true =>
      by_cases h : run = 5
      · have := ih (Nat.zero_le 5)
        simp only [insertFrom, h, if_true, List.length_cons]
        omega
      · have := ih (run := run + 1) (by omega)
        simp only [insertFrom, h, if_false, List.length_cons]
        omega

/-- Settles O7: insertion after at most five 1s is legal, undone and bounded; the end checks of a sent frame pass on both lines. -/
theorem sentFrameIsValid : Obligations.SentFrameIsValid :=
  ⟨fun bits => ⟨removeBits_insertBits bits, lineLegal_insertBits bits, length_insertFrom (Nat.zero_le 5) bits⟩,
    fun _ => ⟨fun hmin hmax => checkContent_stuffedContent (by simp only [armMin]; omega) (by simp only [armMax]; omega),
      fun hmin hmax => checkContent_stuffedContent (by simp only [busMin]; omega) (by simp only [busMax]; omega)⟩⟩

/-! ## What the receiver has of a frame so far -/

theorem length_octetsOf (bits : List Bool) : (octetsOf bits).length = bits.length / 8 := by
  fun_induction octetsOf bits with
  | case1 _ _ _ _ _ _ _ _ rest ih =>
    simp only [List.length_cons, ih]
    omega
  | case2 bits h =>
    match bits, h with
    | [], _ | [_], _ | [_, _], _ | [_, _, _], _ | [_, _, _, _], _ | [_, _, _, _, _], _ | [_, _, _, _, _, _], _ | [_, _, _, _, _, _, _], _ => simp
    | a :: b :: c :: d :: e :: f :: g :: i :: rest, h => exact (h a b c d e f g i rest rfl).elim

theorem length_removeFrom_append (run : Nat) (xs ys : List Bool) : (removeFrom run xs).length ≤ (removeFrom run (xs ++ ys)).length := by
  induction xs generalizing run with
  | nil => simp [removeFrom]
  | cons b xs ih =>
    cases b with
    | true => simpa [removeFrom] using ih (run + 1)
    | false =>
      by_cases h : run = 6
      · simpa [removeFrom, h] using ih 0
      · simpa [removeFrom, h] using ih 0

/-- Content octets seen for certain only grow. -/
theorem octets_append_le (xs ys : List Bool) : (octetsOf (removeBits xs)).length ≤ (octetsOf (removeBits (xs ++ ys))).length := by
  simp only [length_octetsOf]
  exact Nat.div_le_div_right (length_removeFrom_append 0 xs ys)

theorem confirmed_true (line : List Bool) (zero : Bool) (ones : Nat) : confirmed line zero (ones + 1) = confirmed line zero ones ++ [true] := by
  simp [confirmed, List.replicate_succ']

theorem confirmed_zero (line : List Bool) : confirmed line true 0 = line ++ [false] := by simp [confirmed]

theorem receiveLine_append (maxOctets : Nat) (r : LineState) (xs ys : List Bool) :
    receiveLine maxOctets r (xs ++ ys) = ((receiveLine maxOctets (receiveLine maxOctets r xs).1 ys).1,
      (receiveLine maxOctets r xs).2 ++ (receiveLine maxOctets (receiveLine maxOctets r xs).1 ys).2) := by
  induction xs generalizing r with
  | nil => rfl
  | cons b xs ih => simp only [List.cons_append, receiveLine, ih, List.append_assoc]

/-! ## The receiver in a frame -/

theorem frameBit_zero {maxOctets : Nat} {line : List Bool} {zero : Bool} {ones : Nat} (hones : ones ≤ 6)
    (hmax : (octetsOf (removeBits (confirmed line zero ones))).length ≤ maxOctets) :
    frameBit maxOctets line zero ones false = (.frame (confirmed line zero ones) true 0, []) := by
  rw [frameBit, if_neg (by omega), if_neg Bool.false_ne_true, if_neg (Nat.not_lt.mpr hmax)]

theorem frameBit_one {maxOctets : Nat} {line : List Bool} {zero : Bool} {ones : Nat} (hones : ones ≤ 6) :
    frameBit maxOctets line zero ones true = (.frame line zero (ones + 1), []) := by
  rw [frameBit, if_neg (by omega), if_pos rfl]

/-- Legal content within the maximum is taken in without a report. -/
theorem receiveLine_content {maxOctets : Nat} {line xs : List Bool} {zero : Bool} {ones : Nat} (hones : ones ≤ 6) (hlegal : lineLegal ones xs = true)
    (hmax : (octetsOf (removeBits (confirmed line zero ones ++ xs))).length ≤ maxOctets) :
    ∃ line' zero' ones', receiveLine maxOctets (.frame line zero ones) xs = (.frame line' zero' ones', []) ∧ ones' ≤ 6 ∧
      confirmed line' zero' ones' = confirmed line zero ones ++ xs := by
  induction xs generalizing line zero ones with
  | nil => exact ⟨line, zero, ones, rfl, hones, (List.append_nil _).symm⟩
  | cons b xs ih =>
    cases b with
    | true =>
      obtain ⟨hlt, hlegal⟩ : ones < 6 ∧ lineLegal (ones + 1) xs = true := by simpa [lineLegal] using hlegal
      have hnext : confirmed line zero (ones + 1) ++ xs = confirmed line zero ones ++ true :: xs := by rw [confirmed_true, List.append_assoc]; rfl
      obtain ⟨line', zero', ones', hrun, h6, hconfirmed⟩ := ih (line := line) (zero := zero) (ones := ones + 1) hlt hlegal (hnext ▸ hmax)
      exact ⟨line', zero', ones', by rw [receiveLine, lineBit, frameBit_one hones, hrun]; rfl, h6, hconfirmed.trans hnext⟩
    | false =>
      have hlegal : lineLegal 0 xs = true := by simpa [lineLegal] using hlegal
      have hnext : confirmed (confirmed line zero ones) true 0 ++ xs = confirmed line zero ones ++ false :: xs := by
        rw [confirmed_zero, List.append_assoc]; rfl
      obtain ⟨line', zero', ones', hrun, h6, hconfirmed⟩ :=
        ih (line := confirmed line zero ones) (zero := true) (ones := 0) (Nat.zero_le 6) hlegal (hnext ▸ hmax)
      have hbit := frameBit_zero (line := line) (zero := zero) hones ((octets_append_le _ _).trans hmax)
      exact ⟨line', zero', ones', by rw [receiveLine, lineBit, hbit, hrun]; rfl, h6, hconfirmed.trans hnext⟩

/-- The closing delimiter and the tail bit end the frame with all that was seen before them. -/
theorem receiveLine_closing {maxOctets : Nat} {line : List Bool} {zero : Bool} {ones : Nat} (hones : ones ≤ 6)
    (hmax : (octetsOf (removeBits (confirmed line zero ones))).length ≤ maxOctets) :
    receiveLine maxOctets (.frame line zero ones) (delimiter ++ [false]) = (.hunt none, [.ended (confirmed line zero ones)]) := by
  simp only [delimiter, List.cons_append, List.nil_append, receiveLine, lineBit, frameBit_zero hones hmax]
  rfl

theorem receiveLine_opening (maxOctets : Nat) : receiveLine maxOctets (.hunt none) delimiter = (.frame [] false 0, [.opened]) := rfl

/-! ## O8 -/

theorem octets_stuffedContent (body : List Octet) : (octetsOf (removeBits (stuffedContent body))).length = body.length + 2 := by
  simp [stuffedContent, crcOctets]

/-- One sent frame is opened, read and ended, and the receiver hunts again. -/
theorem receiveLine_frameBits {maxOctets : Nat} {body : List Octet} (h : body.length + 2 ≤ maxOctets) :
    receiveLine maxOctets (.hunt none) (frameBits body) = (.hunt none, [.opened, .ended (stuffedContent body)]) := by
  have hmax : (octetsOf (removeBits (stuffedContent body))).length ≤ maxOctets := (octets_stuffedContent body).trans_le h
  obtain ⟨line, zero, ones, hrun, hones, hline⟩ := receiveLine_content (line := []) (zero := false) (ones := 0) (xs := stuffedContent body)
    (Nat.zero_le 6) (lineLegal_insertBits _) hmax
  have hall : confirmed line zero ones = stuffedContent body := hline
  rw [frameBits, receiveLine_append, receiveLine_opening, receiveLine_append, hrun, receiveLine_closing hones (hall ▸ hmax), hall]
  rfl

/-- Settles O8, by induction on the run of frames. -/
theorem receiverReadsSentFrames : Obligations.ReceiverReadsSentFrames := by
  intro bodies h
  induction bodies with
  | nil => rfl
  | cons b bodies ih =>
    obtain ⟨hb, hbodies⟩ := List.forall_mem_cons.mp h
    rw [List.flatMap_cons, receiveLine_append, receiveLine_frameBits (show b.length + 2 ≤ armMax by simp only [armMax]; omega), ih hbodies]
    rfl

end Sys2Proof.Machine
end

section
/-! PROOFS. The arrival of DATA frames (O11). -/

namespace Sys2Proof.Machine

theorem octet_toNat (o : Octet) : octet o.toNat = o := by simp [octet]

/-! ## DATA to one name -/

theorem dispatchFrame_data {dest : Octet} (h0 : dest ≠ 0) (h255 : dest ≠ 255) (tag : Octet) (payload : List Octet) (s : State) :
    dispatchFrame dest.toNat (armKindOf 0x02) tag payload s = dataToName dest.toNat tag payload s := by
  have hn0 : dest.toNat ≠ 0 := toNat_ne_zero_of_ne_zero h0
  have hn255 : dest.toNat ≠ 255 := fun h => h255 (BitVec.eq_of_toNat_eq h)
  change (if dest.toNat = 0 then _ else if dest.toNat = 255 then _ else _) = _
  rw [if_neg hn0, if_neg hn255]

theorem dataToName_of_none {n : Nat} {s : State} (h : s.entryNamed n = none) (tag : Octet) (payload : List Octet) :
    dataToName n tag payload s = offer (refusal n tag .unknownName) s := by simp [dataToName, h]

section
variable {n slot : Nat} {e : Entry} {s : State} (hholder : s.entryNamed n = some (slot, e)) (tag : Octet) (payload : List Octet)
include hholder

theorem dataToName_of_proving_or_lost (h : e.state = .proving ∨ e.state = .lost) :
    dataToName n tag payload s = offer (refusal n tag .notReady) s := by simp [dataToName, hholder, h]

theorem dataToName_of_census (h : ¬ (e.state = .proving ∨ e.state = .lost)) (hrun : s.censusRunning e.lane = true) :
    dataToName n tag payload s = offer (refusal n tag .laneBusy) s := by simp [dataToName, hholder, h, hrun]

theorem dataToName_of_full (h : ¬ (e.state = .proving ∨ e.state = .lost)) (hrun : s.censusRunning e.lane = false)
    (hfull : 6 ≤ (s.lane e.lane).forward.length) : dataToName n tag payload s = offer (refusal n tag .queueFull) s := by
  simp [dataToName, hholder, h, hrun, State.forwardRoom, forwardCapacity, Nat.not_lt.mpr hfull]

theorem dataToName_of_room (h : ¬ (e.state = .proving ∨ e.state = .lost)) (hrun : s.censusRunning e.lane = false)
    (hroom : (s.lane e.lane).forward.length < 6) : dataToName n tag payload s = queueForward e.lane (.entry slot e.fp n tag payload) s := by
  simp [dataToName, hholder, h, hrun, State.forwardRoom, forwardCapacity, hroom]

end

/-! ## DATA to name 255 -/

theorem findEntry_isSome {s : State} {p : Entry → Bool} : (s.findEntry p).isSome = true ↔ ∃ slot e, s.entry slot = some e ∧ p e = true := by
  constructor
  · intro h
    obtain ⟨⟨slot, e⟩, hfound⟩ := Option.isSome_iff_exists.mp h
    exact ⟨slot, e, findEntry_some hfound⟩
  · rintro ⟨slot, e, he, hp⟩
    refine Option.isSome_iff_ne_none.mpr fun hnone => ?_
    rw [findEntry_none hnone he] at hp
    exact Bool.false_ne_true hp

theorem carriesData_eq_true {st : EntryState} : st.carriesData = true ↔ st = .live ∨ st = .suspect := by
  cases st <;> simp [EntryState.carriesData]

theorem censusRunning_eq_false {s : State} {l : Lane} : s.censusRunning l = false ↔ (s.lane l).census.run = .idle := by
  simp [State.censusRunning]

theorem censusRunning_eq_true {s : State} {l : Lane} : s.censusRunning l = true ↔ (s.lane l).census.run ≠ .idle := by
  simp [State.censusRunning]

theorem laneLive_eq_true {s : State} {l : Lane} : s.laneLive l = true ↔ (s.lane l).power.state = .live := by simp [State.laneLive]

theorem qualifies_iff {s : State} {l : Lane} : s.qualifies l = true ↔ (s.lane l).power.state = .live ∧ (s.lane l).census.run = .idle ∧
    ∃ slot e, s.entry slot = some e ∧ e.lane = l ∧ (e.state = .live ∨ e.state = .suspect) := by
  simp only [State.qualifies, Bool.and_eq_true, Bool.not_eq_true', laneLive_eq_true, censusRunning_eq_false, findEntry_isSome, beq_iff_eq, carriesData_eq_true,
    and_assoc]

/-- A lane after a broadcast has been offered to it. -/
def State.laneAfterBroadcast (s : State) (tag : Octet) (payload : List Octet) (l : Lane) : LaneState :=
  if s.qualifies l && s.forwardRoom l then { s.lane l with forward := (s.lane l).forward ++ [.broadcast tag payload] } else s.lane l

theorem broadcastOn_eq (tag : Octet) (payload : List Octet) (l : Lane) (s : State) :
    broadcastOn tag payload l s = s.setLane l (s.laneAfterBroadcast tag payload l) := by
  unfold broadcastOn State.laneAfterBroadcast
  split
  · rfl
  · exact (setLane_lane_self s l).symm

/-- Each lane takes the broadcast by its own state (R142). -/
theorem dataToAll_of_qualifies {s : State} {l : Lane} (h : s.qualifies l = true) (tag : Octet) (payload : List Octet) :
    dataToAll tag payload s = { s with laneA := s.laneAfterBroadcast tag payload .a, laneB := s.laneAfterBroadcast tag payload .b } := by
  have hany : (s.qualifies .a || s.qualifies .b) = true := by cases l <;> simp [h]
  rw [dataToAll, hany, if_pos rfl, bothLanes, broadcastOn_eq, broadcastOn_eq]
  rfl

theorem dataToAll_of_none {s : State} (h : ∀ l, s.qualifies l = false) (tag : Octet) (payload : List Octet) :
    dataToAll tag payload s = offer (refusal 255 tag .notReady) s := by simp [dataToAll, h]

/-! ## O11 -/

/-- The refusal of a frame that has just been heard is the newest frame in the outbound queue. -/
theorem offer_refusal_heard {s : State} (hroom : s.arm.outbound.length < 24) (dest tag : Octet) (why : Reason) :
    offer (refusal dest.toNat tag why) s.heard =
      { s with arm := { s.arm.heard s.now with outbound := s.arm.outbound ++ [⟨dest, .refusal, tag, [octet why.code]⟩] } } := by
  rw [offer_of_room (s := s.heard) rfl hroom, refusal, octet_toNat]
  rfl

@[simp] theorem heard_lane (s : State) (l : Lane) : s.heard.lane l = s.lane l := by cases l <;> rfl

/-- Settles O11: `dataToName` and `dataToAll` by the holder and by what qualifies. -/
theorem dataToADevice : Obligations.DataToADevice := by
  intro s dest src tag payload hrun hrx hlen h0 hroom up frame refused queued qualifies
  have hexec : exec (.armFrameReceived frame) s = .next (dispatchFrame dest.toNat (armKindOf 0x02) tag payload s.heard) :=
    exec_armFrameReceived_valid hrun hrx hlen
  have hrefused (why : Reason) : offer (refusal dest.toNat tag why) s.heard = refused (octet why.code) := offer_refusal_heard hroom dest tag why
  have hqualifies (l : Lane) : s.heard.qualifies l = true ↔ qualifies l := by rw [qualifies_iff, heard_lane]; rfl
  rw [hexec]
  refine ⟨fun h255 hnone => ?_, fun h255 slot e hholder => ?_, ?_, ?_⟩
  · rw [dispatchFrame_data h0 h255, dataToName_of_none (s := s.heard) hnone, hrefused]
    rfl
  · rw [dispatchFrame_data h0 h255]
    replace hholder : s.heard.entryNamed dest.toNat = some (slot, e) := hholder
    refine ⟨fun hst => ?_, fun hp hl => ⟨fun hcensus => ?_, fun hidle => ⟨fun hfull => ?_, fun hspace => ?_⟩⟩⟩
    · rw [dataToName_of_proving_or_lost hholder tag payload hst, hrefused]
      rfl
    · rw [dataToName_of_census hholder tag payload (not_or.mpr ⟨hp, hl⟩) (censusRunning_eq_true.mpr (by rwa [heard_lane])), hrefused]
      rfl
    · rw [dataToName_of_full hholder tag payload (not_or.mpr ⟨hp, hl⟩) (censusRunning_eq_false.mpr (by rwa [heard_lane])) (by rwa [heard_lane]), hrefused]
      rfl
    · rw [dataToName_of_room hholder tag payload (not_or.mpr ⟨hp, hl⟩) (censusRunning_eq_false.mpr (by rwa [heard_lane])) (by rwa [heard_lane])]
      simp only [queueForward, modLane, heard_lane]
      rfl
  · rintro rfl hnone
    refine congrArg Host.Outcome.next ((dataToAll_of_none (fun l => ?_) tag payload).trans (hrefused .notReady))
    exact Bool.eq_false_iff.mpr fun h => hnone l ((hqualifies l).mp h)
  · rintro rfl ⟨l, hl⟩
    refine ⟨_, congrArg Host.Outcome.next (dataToAll_of_qualifies ((hqualifies l).mpr hl) tag payload), rfl, fun k => ?_⟩
    have hlane : State.lane { s.heard with laneA := s.heard.laneAfterBroadcast tag payload .a, laneB := s.heard.laneAfterBroadcast tag payload .b } k =
        s.heard.laneAfterBroadcast tag payload k := by cases k <;> rfl
    rw [hlane, State.laneAfterBroadcast, State.forwardRoom, heard_lane]
    refine ⟨fun hq hspace => ?_, fun hnot => ?_⟩
    · rw [if_pos]
      rw [(hqualifies k).mpr hq, forwardCapacity, decide_eq_true hspace, Bool.and_self]
    · rw [if_neg]
      rw [Bool.and_eq_true, hqualifies, decide_eq_true_eq, forwardCapacity]
      exact fun h => hnot.elim (· h.1) (by omega)

end Sys2Proof.Machine
end

section
/-! PROOFS. READ STATUS (O16), READ ROSTER and FIND (O17): the requests that read and change nothing. -/

namespace Sys2Proof.Machine

/-! ## READ STATUS -/

/-- The entries of a table without their indices. -/
theorem entriesFrom_map_snd {α : Type} (n : Nat) (t : List (Option α)) : (entriesFrom n t).map Prod.snd = t.filterMap id := by
  induction t generalizing n with
  | nil => rfl
  | cons x rest ih => cases x <;> simp [entriesFrom, ih]

theorem length_entriesFrom {α : Type} (n : Nat) (t : List (Option α)) : (entriesFrom n t).length = (t.filterMap id).length := by
  rw [← entriesFrom_map_snd n, List.length_map]

theorem countEntries_all (s : State) (l : Lane) : s.countEntries l (fun _ => true) = (s.roster.filterMap id).countP (fun e => e.lane == l) := by
  rw [← entriesFrom_map_snd 0, List.countP_map]
  simp [State.countEntries, Function.comp_def]

/-- A reported current is one of the two neighbours of the measured one (R41). -/
theorem milliamps_cases (choice microamps : Nat) :
    milliamps choice microamps = microamps / 1000 ∨ (microamps % 1000 ≠ 0 ∧ milliamps choice microamps = microamps / 1000 + 1) := by
  unfold milliamps
  split
  · exact .inl rfl
  · split
    · exact .inr ⟨‹_›, rfl⟩
    · exact .inl rfl

theorem min_milliamps_cases (choice microamps : Nat) : min 65535 (milliamps choice microamps) = min 65535 (microamps / 1000) ∨
    (microamps % 1000 ≠ 0 ∧ min 65535 (milliamps choice microamps) = min 65535 (microamps / 1000 + 1)) :=
  (milliamps_cases choice microamps).imp (congrArg _) (.imp_right (congrArg _))

theorem measured_of_open {p : Power} (h : p.state ∉ [PowerState.waiting, .ramping, .live]) (choice : Nat) : p.measured choice = 0 := by
  unfold Power.measured
  split <;> simp_all

theorem measured_of_waiting {p : Power} (h : p.state = .waiting) (choice : Nat) : p.measured choice = min 65535 (milliamps choice p.probeCurrent) := by
  simp [Power.measured, h]

theorem measured_of_switched {p : Power} (h : p.state = .ramping ∨ p.state = .live) (choice : Nat) :
    p.measured choice = min 65535 (milliamps choice p.laneCurrent) := by
  obtain h | h := h <;> simp [Power.measured, h]

/-- The free value that a lane's measured current takes (assumption log 10). -/
def State.roundingOf (s : State) : Lane → Nat
  | .a => s.choices
  | .b => s.choices + 1

/-- A lane's ten octets stand at its place in the report. -/
theorem statusReport_lane (s : State) (l : Lane) : (s.statusReport.drop (if l = .a then 0 else 10)).take 10 = s.laneBlock (s.roundingOf l) l := by
  cases l <;> rfl

theorem statusReport_part (s : State) : s.statusReport.drop 20 = s.partBlock := rfl

theorem statusReport_getElem? {s : State} {l : Lane} {k : Nat} (hk : k = if l = .a then 0 else 10) {i : Nat} (hi : i < 10) :
    s.statusReport[k + i]? = (s.laneBlock (s.roundingOf l) l)[i]? := by
  rw [← statusReport_lane, List.getElem?_take_of_lt hi, List.getElem?_drop, hk]

theorem exec_readStatus {s : State} {tag : Octet} {rest : List Request} (h : s.Asked tag [0x02] rest) :
    exec .readStatus s = .next ({ s with choices := s.choices + 2 }.answered rest tag 0x02 .ok s.statusReport) :=
  congrArg Host.Outcome.next (takeRequest_of_ignoresArm h rfl (f := fun s => { s with choices := s.choices + 2 }) (fun _ _ => rfl) rfl)

theorem partBlock_eq {s : State} (hup : s.arm.linkUp = true) :
    s.partBlock = [octet (32 - (s.roster.filterMap id).length), 1, octet s.range.low, octet s.range.high, octet s.range.cursor, octet s.seq.state.code,
      octet s.seq.source.code, octet (s.seq.period / 256), octet s.seq.period, octet (s.seq.cycleNumber.toNat / 256), octet s.seq.cycleNumber.toNat,
      octet s.seq.missed, octet (yesCode s.seq.stopPending)] := by
  simp [State.partBlock, State.freeSlots, length_entriesFrom, rosterSlots, hup, yesCode, octets2, octet]

/-- Settles O16: the report's three blocks, and the measured current by power state. -/
theorem readStatus : Obligations.ReadStatus := by
  refine fun s tag rest h => ⟨s.statusReport, exec_readStatus h, rfl, fun l k hk => ?_, (statusReport_part s).trans (partBlock_eq h.linkUp)⟩
  have hat {i : Nat} (hi : i < 10) := statusReport_getElem? (s := s) hk hi
  refine ⟨hat (i := 0) (by decide), hat (i := 1) (by decide), hat (i := 2) (by decide), hat (i := 5) (by decide), hat (i := 6) (by decide),
    hat (i := 7) (by decide), hat (i := 8) (by decide), ?_, fun hopen => ?_, fun hwaiting => ?_, fun hswitched => ?_⟩
  · rw [hat (i := 9) (by decide), ← countEntries_all]
    rfl
  · rw [hat (i := 3) (by decide), hat (i := 4) (by decide)]
    simp [State.laneBlock, octets2, measured_of_open hopen]
  · refine ⟨_, hat (i := 3) (by decide), hat (i := 4) (by decide), ?_⟩
    rw [measured_of_waiting hwaiting]
    exact min_milliamps_cases ..
  · refine ⟨_, hat (i := 3) (by decide), hat (i := 4) (by decide), ?_⟩
    rw [measured_of_switched hswitched]
    exact min_milliamps_cases ..

/-! ## Searches -/

/-- The first entry that satisfies a test. -/
theorem firstFrom_eq {α : Type} {p : α → Bool} {n j : Nat} {t : List (Option α)} {x : α} (hj : n ≤ j) (hx : t[j - n]? = some (some x)) (hp : p x = true)
    (hbefore : ∀ i y, n ≤ i → i < j → t[i - n]? = some (some y) → p y = false) : firstFrom p n t = some (j, x) := by
  induction t generalizing n with
  | nil => simp at hx
  | cons z rest ih =>
    obtain rfl | hlt := hj.eq_or_lt
    · obtain rfl : z = some x := by simpa using hx
      simp [firstFrom, hp]
    · have hshift (i : Nat) (hi : n < i) : (z :: rest)[i - n]? = rest[i - (n + 1)]? := by
        rw [show i - n = (i - (n + 1)) + 1 by omega, List.getElem?_cons_succ]
      have hrest : firstFrom p (n + 1) rest = some (j, x) :=
        ih hlt (hshift j hlt ▸ hx) fun i y hi hij hy => hbefore i y (by omega) hij ((hshift i hi).trans hy)
      cases z with
      | none => exact hrest
      | some y =>
        have hy : p y = false := hbefore n y le_rfl hlt (by simp)
        simp [firstFrom, hy, hrest]

theorem findEntry_eq {s : State} {p : Entry → Bool} {slot : Nat} {e : Entry} (he : s.entry slot = some e) (hp : p e = true)
    (honly : ∀ j f, s.entry j = some f → p f = true → j = slot) : s.findEntry p = some (slot, e) := by
  obtain ⟨⟨j, f⟩, hfound⟩ := Option.isSome_iff_exists.mp (findEntry_isSome.mpr ⟨slot, e, he, hp⟩)
  obtain ⟨hf, hpf⟩ := findEntry_some hfound
  obtain rfl := honly j f hf hpf
  obtain rfl : f = e := Option.some.inj (hf.symm.trans he)
  exact hfound

theorem findEntry_eq_none {s : State} {p : Entry → Bool} (h : ∀ j f, s.entry j = some f → p f = false) : s.findEntry p = none := by
  refine Option.not_isSome_iff_eq_none.mp fun hsome => ?_
  obtain ⟨j, f, hf, hp⟩ := findEntry_isSome.mp hsome
  exact Bool.false_ne_true ((h j f hf).symm.trans hp)

theorem entry_eq_getElem? {s : State} {j : Nat} {e : Entry} : s.entry j = some e ↔ s.roster[j]? = some (some e) := by
  rw [State.entry, List.getD]
  cases s.roster[j]? <;> simp

theorem drop_getElem?_entry {s : State} {slot j : Nat} (hj : slot ≤ j) {e : Entry} : (s.roster.drop slot)[j - slot]? = some (some e) ↔ s.entry j = some e := by
  rw [List.getElem?_drop, show slot + (j - slot) = j by omega, entry_eq_getElem?]

/-! ## READ ROSTER and FIND -/

theorem readSlot_alone (s : State) (slot : Nat) : s.readSlot slot false = (s.entry slot).map (fun e => (slot, e)) := rfl

theorem readSlot_next {s : State} {slot j : Nat} {e : Entry} (he : s.entry j = some e) (hj : slot ≤ j)
    (hbefore : ∀ i, slot ≤ i → i < j → s.entry i = none) : s.readSlot slot true = some (j, e) := by
  refine firstFrom_eq hj ((drop_getElem?_entry hj).mpr he) rfl fun i y hi hij hy => ?_
  rw [drop_getElem?_entry hi, hbefore i hi hij] at hy
  cases hy

theorem readSlot_next_none {s : State} {slot : Nat} (h : ∀ i, slot ≤ i → s.entry i = none) : s.readSlot slot true = none := by
  refine Option.eq_none_iff_forall_ne_some.mpr fun ⟨j, e⟩ hfound => ?_
  obtain ⟨hj, he, -⟩ := firstFrom_some hfound
  rw [drop_getElem?_entry hj, h j hj] at he
  cases he

theorem rosterRecord_eq (s : State) (slot : Nat) (e : Entry) : s.rosterRecord slot e =
    [octet slot, octet e.state.code, octet (laneCode e.lane), octet e.address,
      e.fp.extractLsb' 40 8, e.fp.extractLsb' 32 8, e.fp.extractLsb' 24 8, e.fp.extractLsb' 16 8, e.fp.extractLsb' 8 8, e.fp.extractLsb' 0 8,
      octet (e.name.getD 0), octet ((e.source.map Provenance.code).getD 0), octet (e.mapRef.getD 255), octet ((e.held.map HeldReason.code).getD 0),
      octet e.clean, octet e.fail, octet ((if e.status.isSome then 128 else 0) + (if e.lastGood.isSome then 64 else 0)), e.status.getD 0,
      octet (((e.mapRef.bind s.mapEntry).bind MapEntry.override).getD (s.lane e.lane).options.passThreshold),
      octet (((e.mapRef.bind s.mapEntry).map MapEntry.profile).getD (s.lane e.lane).options.defaultProfile),
      octet (((e.lastGood.map (fun g => min 65535 (s.now - g))).getD 0) / 256), octet ((e.lastGood.map (fun g => min 65535 (s.now - g))).getD 0)] := by
  have hsource : provenanceCode e.source = (e.source.map Provenance.code).getD 0 := by cases e.source <;> rfl
  have hheld : heldCode e.held = (e.held.map HeldReason.code).getD 0 := by cases e.held <;> rfl
  have hmarks : 128 * yesCode e.status.isSome + 64 * yesCode e.lastGood.isSome =
      (if e.status.isSome then 128 else 0) + (if e.lastGood.isSome then 64 else 0) := by
    cases e.status <;> cases e.lastGood <;> rfl
  have hprofile : s.profileInUse e = ((e.mapRef.bind s.mapEntry).map MapEntry.profile).getD (s.lane e.lane).options.defaultProfile := by
    unfold State.profileInUse State.mapOf
    cases e.mapRef.bind s.mapEntry <;> rfl
  rw [State.rosterRecord, hsource, hheld, hmarks, hprofile]
  rfl

/-- The state in which a request that reports an entry has been answered: with the entry's record, or NO_ENTRY. -/
def State.reported (s : State) (rest : List Request) (tag code : Octet) : Option (Nat × Entry) → State
  | some (slot, e) => s.answered rest tag code .ok (s.rosterRecord slot e)
  | none => s.answered rest tag code .noEntry []

section
variable {s : State} {tag : Octet} {rest : List Request}

/-- What a request that reports an entry of the roster gives, by the entry it finds. -/
theorem takeRequest_of_report {code : Octet} {args : List Octet} {row : RequestRow} {act : List Octet → State → Done}
    (h : s.Asked tag (code :: args) rest) (hrow : rowOf (code :: args) = row) {x : Option (Nat × Entry)}
    (hact : act args (s.taken tag (code :: args)) = reportEntry x (s.taken tag (code :: args))) :
    takeRequest row act s = s.reported rest tag code x := by
  cases x with
  | some x => exact takeRequest_of_read h hrow hact
  | none => exact takeRequest_refused h hrow hact

theorem exec_readRoster {slot flags : Octet} (h : s.Asked tag [0x09, slot, flags] rest) (hslot : slot.toNat ≤ 31) :
    exec .readRoster s = .next (s.reported rest tag 0x09 (s.readSlot slot.toNat (flags.getLsbD 7))) :=
  congrArg Host.Outcome.next (takeRequest_of_report h rfl (if_neg (Nat.not_lt.mpr hslot)))

theorem exec_find_name {n : Octet} (h : s.Asked tag [0x0A, 1, n] rest) (h0 : n ≠ 0) (h255 : n ≠ 255) :
    exec .find s = .next (s.reported rest tag 0x0A (s.entryNamed n.toNat)) := by
  have hname : deviceName n = some n.toNat := if_neg (not_or.mpr ⟨toNat_ne_zero_of_ne_zero h0, fun hn => h255 (BitVec.eq_of_toNat_eq hn)⟩)
  refine congrArg Host.Outcome.next (takeRequest_of_report h rfl ?_)
  change (match deviceName n with | some n => _ | none => _) = _
  rw [hname]
  rfl

theorem exec_find_fp {a b c d e f : Octet} (h : s.Asked tag [0x0A, 2, a, b, c, d, e, f] rest) :
    exec .find s = .next (s.reported rest tag 0x0A (s.entryWithFp (fpOf a b c d e f))) :=
  congrArg Host.Outcome.next (takeRequest_of_report h rfl rfl)

end

/-- Settles O17: the entry that each form finds, and the twenty-two octets of its record. -/
theorem rosterReads : Obligations.RosterReads := by
  refine fun s tag rest _ => ⟨fun slot flags hslot h => ⟨fun j e he halone hnext => ?_, fun halone hnext => ?_⟩,
    fun n h0 h255 h => ⟨fun slot e he hname honly => ?_, fun hnone => ?_⟩, fun a b c d e f h => ⟨fun slot x hx hfp honly => ?_, fun hnone => ?_⟩⟩
  · have hread : s.readSlot slot.toNat (flags.getLsbD 7) = some (j, e) := by
      cases hflag : flags.getLsbD 7 with
      | false => rw [readSlot_alone, ← halone hflag, he]; rfl
      | true => exact readSlot_next he (hnext hflag).1 (hnext hflag).2
    rw [exec_readRoster h hslot, hread, State.reported, rosterRecord_eq]
  · have hread : s.readSlot slot.toNat (flags.getLsbD 7) = none := by
      cases hflag : flags.getLsbD 7 with
      | false => rw [readSlot_alone, halone hflag]; rfl
      | true => exact readSlot_next_none (hnext hflag)
    rw [exec_readRoster h hslot, hread, State.reported]
  · have hfound : s.entryNamed n.toNat = some (slot, e) := findEntry_eq he (beq_iff_eq.mpr hname) fun j f hf hp => honly j f hf (beq_iff_eq.mp hp)
    rw [exec_find_name h h0 h255, hfound, State.reported, rosterRecord_eq]
  · have hfound : s.entryNamed n.toNat = none := findEntry_eq_none fun j f hf => beq_eq_false_iff_ne.mpr (hnone j f hf)
    rw [exec_find_name h h0 h255, hfound, State.reported]
  · rw [exec_find_fp h, entryWithFp_eq hx hfp honly, State.reported, rosterRecord_eq]
  · rw [exec_find_fp h, entryWithFp_none hnone, State.reported]

end Sys2Proof.Machine
end

section
/-! PROOFS. The requests of the Cycle Sequencer (O22, O23). -/

namespace Sys2Proof.Machine

variable {s : State} {tag : Octet} {rest : List Request}

/-! ## Names and octets of requests -/

theorem deviceName_eq_none {n : Octet} (h : n = 0 ∨ n = 255) : deviceName n = none := by obtain rfl | rfl := h <;> rfl

theorem toNat_ne_255 {n : Octet} (h : n ≠ 255) : n.toNat ≠ 255 := fun hn => h (BitVec.eq_of_toNat_eq hn)

theorem deviceName_eq_some {n : Octet} (h0 : n ≠ 0) (h255 : n ≠ 255) : deviceName n = some n.toNat :=
  if_neg (not_or.mpr ⟨toNat_ne_zero_of_ne_zero h0, toNat_ne_255 h255⟩)

/-- A refusal that depends on the part is given by the part as the request finds it. -/
theorem takeRequest_of_refusal {row : RequestRow} {act : List Octet → State → Done} {code : Octet} {args : List Octet}
    (h : s.Asked tag (code :: args) rest) (hrow : rowOf (code :: args) = row) {st : Status}
    (hact : act args (s.taken tag (code :: args)) = refuse st (s.taken tag (code :: args))) :
    takeRequest row act s = s.answered rest tag code st [] :=
  takeRequest_refused h hrow hact

theorem modSeq_ignoresArm (g : Sequencer → Sequencer) : IgnoresArm (modSeq g) := fun _ _ => rfl

@[simp] theorem taken_seq (s : State) (tag : Octet) (payload : List Octet) : (s.taken tag payload).seq = s.seq := rfl

/-! ## The cycle list -/

section
variable {i n : Octet} {payload : List Octet}

theorem actCycleListWrite_of_long (h : 8 < payload.length) (t : State) : actCycleListWrite (i :: n :: payload) t = refuse .badLength t := if_pos h

theorem actCycleListWrite_of_wrong (h : payload.length ≤ 8) (hwrong : 11 < i.toNat ∨ n = 0 ∨ n = 255) (t : State) :
    actCycleListWrite (i :: n :: payload) t = refuse .badArgument t := by
  simp only [actCycleListWrite, Nat.not_lt.mpr h, if_false]
  split
  · rfl
  · next hname =>
    rw [if_pos]
    exact hwrong.resolve_right fun hn => by simp [deviceName_eq_none hn] at hname

/-- The state decides once index, name and length are right. -/
theorem actCycleListWrite_eq (h : payload.length ≤ 8) (hi : i.toNat ≤ 11) (h0 : n ≠ 0) (h255 : n ≠ 255) (t : State) :
    actCycleListWrite (i :: n :: payload) t = if t.seq.state ≠ .stopped then refuse .busy t
      else done [i, n, octet payload.length] (setCycleEntry i.toNat (some ⟨n.toNat, payload, none⟩) t) := by
  simp only [actCycleListWrite, Nat.not_lt.mpr h, if_false, deviceName_eq_some h0 h255, Nat.not_lt.mpr hi]

theorem actCycleListClear_of_wrong (hi : 11 < i.toNat) (h255 : i ≠ 255) (t : State) : actCycleListClear [i] t = refuse .badArgument t :=
  if_pos ⟨hi, toNat_ne_255 h255⟩

theorem actCycleListClear_of_right (h : i.toNat ≤ 11 ∨ i = 255) (t : State) : actCycleListClear [i] t = if t.seq.state ≠ .stopped then refuse .busy t
    else if i.toNat = 255 then done [i] (modSeq (fun q => { q with list := q.list.map (fun _ => none) }) t) else done [i] (setCycleEntry i.toNat none t) := by
  refine if_neg fun hwrong => ?_
  obtain hi | rfl := h
  · omega
  · exact hwrong.2 rfl

theorem actCycleListRead_of_wrong (hi : 11 < i.toNat) (t : State) : actCycleListRead [i] t = refuse .badArgument t := if_pos hi

theorem exec_cycleListRead (h : s.Asked tag [0x13, i] rest) (hi : i.toNat ≤ 11) :
    exec .cycleListRead s = .next (s.answered rest tag 0x13 .ok (i :: cycleRecord (s.seq.entry i.toNat))) :=
  congrArg Host.Outcome.next (takeRequest_of_read h rfl (if_neg (Nat.not_lt.mpr hi)))

theorem padTo_eq {k : Nat} {os : List Octet} (h : os.length ≤ k) : padTo k os = os ++ List.replicate (k - os.length) 0 := by
  rw [padTo, List.take_of_length_le h]

theorem cycleRecord_of_no_store {c : CycleEntry} (hlen : c.payload.length ≤ 8) (hstore : c.store = none) : cycleRecord (some c) =
    1 :: octet c.name :: octet c.payload.length :: c.payload ++ List.replicate (8 - c.payload.length + 12) 0 := by
  simp only [cycleRecord, hstore, padTo_eq hlen, storeOctets, List.cons_append, List.append_assoc, List.replicate_add]
  rfl

theorem cycleRecord_of_store {c : CycleEntry} {st : Store} (hlen : c.payload.length ≤ 8) (hstore : c.store = some st) (hdata : st.data.length ≤ 4) :
    cycleRecord (some c) = 1 :: octet c.name :: octet c.payload.length :: c.payload ++ List.replicate (8 - c.payload.length) 0 ++
      1 :: octet st.data.length :: st.data ++ List.replicate (4 - st.data.length) 0 ++ fpOctets st.fp := by
  rw [cycleRecord, hstore, padTo_eq hlen, storeOctets, padTo_eq hdata]
  simp [octet]

end

/-- Settles O22: the checks of the three requests in order, and the octets of a list entry. -/
theorem cycleList : Obligations.CycleList := by
  refine fun s tag i n payload rest => ⟨fun h => ⟨fun hlong => ?_, fun hlen hwrong => ?_, fun hlen hi h0 h255 => ⟨fun hst => ?_, fun hst => ?_⟩⟩,
    fun h => ⟨fun hi h255 => ?_, fun hright hst => ?_, fun hi hst => ?_, fun hall hst => ?_⟩,
    fun h => ⟨fun hi => ?_, fun hi hnone => ?_, fun c hi hc hlen hstore => ?_, fun c st hi hc hlen hstore hdata => ?_⟩⟩
  · exact congrArg Host.Outcome.next (takeRequest_of_refuse h rfl (actCycleListWrite_of_long hlong))
  · exact congrArg Host.Outcome.next (takeRequest_of_refuse h rfl (actCycleListWrite_of_wrong hlen hwrong))
  · exact congrArg Host.Outcome.next (takeRequest_of_refusal h rfl ((actCycleListWrite_eq hlen hi h0 h255 _).trans (if_pos hst)))
  · exact congrArg Host.Outcome.next (takeRequest_of_ignoresArm h rfl
      (modSeq_ignoresArm fun q => { q with list := q.list.set i.toNat (some ⟨n.toNat, payload, none⟩) })
      ((actCycleListWrite_eq hlen hi h0 h255 _).trans (if_neg (not_not.mpr hst))))
  · exact congrArg Host.Outcome.next (takeRequest_of_refuse h rfl (actCycleListClear_of_wrong hi h255))
  · exact congrArg Host.Outcome.next (takeRequest_of_refusal h rfl ((actCycleListClear_of_right hright _).trans (if_pos hst)))
  · exact congrArg Host.Outcome.next (takeRequest_of_ignoresArm h rfl (modSeq_ignoresArm fun q => { q with list := q.list.set i.toNat none })
      ((actCycleListClear_of_right (.inl hi) _).trans ((if_neg (not_not.mpr hst)).trans (if_neg (by omega)))))
  · subst hall
    exact congrArg Host.Outcome.next (takeRequest_of_ignoresArm h rfl (modSeq_ignoresArm fun q => { q with list := q.list.map (fun _ => none) })
      ((actCycleListClear_of_right (.inr rfl) _).trans ((if_neg (not_not.mpr hst)).trans (if_pos rfl))))
  · exact congrArg Host.Outcome.next (takeRequest_of_refuse h rfl (actCycleListRead_of_wrong hi))
  · rw [exec_cycleListRead h hi, hnone]
    rfl
  · rw [exec_cycleListRead h hi, hc, cycleRecord_of_no_store hlen hstore]
    rfl
  · rw [exec_cycleListRead h hi, hc, cycleRecord_of_store hlen hstore hdata]
    simp

/-! ## CYCLE CONTROL -/

@[simp] theorem triggerOf_octet_code (t : Trigger) : triggerOf (octet t.code) = some t := by cases t <;> rfl

theorem startSequencer_ignoresArm : IgnoresArm startSequencer := by
  intro g s
  simp only [startSequencer, modArm_seq]
  cases s.seq.state <;> rfl

theorem stopSequencer_ignoresArm : IgnoresArm stopSequencer := by
  intro g s
  simp only [stopSequencer, modArm_seq]
  cases s.seq.state <;> rfl

theorem setTrigger_ignoresArm (t : Trigger) (period : Nat) : IgnoresArm (setTrigger t period) := fun _ _ => rfl

theorem IgnoresArm.comp {f g : State → State} (hf : IgnoresArm f) (hg : IgnoresArm g) : IgnoresArm (fun s => f (g s)) :=
  fun a s => (congrArg f (hg a s)).trans (hf a (g s))

theorem cycleReport_taken {f : State → State} (hf : IgnoresArm f) (s : State) (tag : Octet) (payload : List Octet) :
    (f (s.taken tag payload)).cycleReport = (f s).cycleReport := by
  rw [hf.taken]
  rfl

section
variable {row : RequestRow} {action : State → State} (haction : IgnoresArm action) {a : Octet} (ha : a.toNat ≤ 2)
include haction ha

theorem takeRequest_cycleControl (h : s.Asked tag [0x14, a] rest) (hrow : rowOf [0x14, a] = row) :
    takeRequest row (cycleControl action) s = (action s).answered rest tag 0x14 .ok (action s).cycleReport := by
  refine takeRequest_of_ignoresArm h hrow haction ((if_neg (Nat.not_lt.mpr ha)).trans ?_)
  rw [cycleReport_taken haction]
  rfl

theorem takeRequest_cycleControl_trigger {t : Trigger} {hi lo : Octet} (h : s.Asked tag [0x14, a, octet t.code, hi, lo] rest)
    (hrow : rowOf [0x14, a, octet t.code, hi, lo] = row) {n : Nat} (hn : 256 * hi.toNat + lo.toNat = n) :
    takeRequest row (cycleControl action) s = (action (setTrigger t n s)).answered rest tag 0x14
      (if clamp 1 1000 n = n then .ok else .clamped) (action (setTrigger t n s)).cycleReport := by
  have hboth := haction.comp (setTrigger_ignoresArm t n)
  refine takeRequest_of_ignoresArm h hrow hboth ?_
  simp only [actOn, cycleControl, triggerOf_octet_code, Nat.not_lt.mpr ha, if_false, hn, cycleReport_taken hboth, doneClamped, bne_iff_ne, ne_eq, ite_not]

end

theorem startSequencer_eq (s : State) : startSequencer s = { s with
    seq := if s.seq.state = .stopped then { s.seq with
        state := .armed
        timer := if s.seq.source = .period ∧ SeqState.armed ≠ .stopped then some (s.now + s.seq.period) else none }
      else s.seq } := by
  unfold startSequencer
  split <;> simp [*, modSeq, Sequencer.freshTimer]

theorem stopSequencer_eq (s : State) : stopSequencer s = { s with
    seq := if s.seq.state = .armed then { s.seq with state := .stopped, timer := none }
      else if s.seq.state = .running then { s.seq with stopPending := true } else s.seq } := by
  unfold stopSequencer
  split <;> simp [*, modSeq]

theorem id_ignoresArm : IgnoresArm fun s => s := fun _ _ => rfl

/-- Settles O23: the trigger source and the period first, then the action, each a change of the sequencer alone. -/
theorem cycleControlRequests : Obligations.CycleControl := by
  refine fun s tag rest => ⟨fun h => ?_, fun h => ?_, fun h => ?_, fun t hi lo => ⟨fun h => ?_, fun h => ?_, fun h => ?_⟩⟩
  · exact congrArg Host.Outcome.next (takeRequest_cycleControl id_ignoresArm (by decide) h rfl)
  · refine congrArg Host.Outcome.next ((takeRequest_cycleControl startSequencer_ignoresArm (by decide) h rfl).trans ?_)
    rw [startSequencer_eq]
    rfl
  · refine congrArg Host.Outcome.next ((takeRequest_cycleControl stopSequencer_ignoresArm (by decide) h rfl).trans ?_)
    rw [stopSequencer_eq]
    rfl
  · exact congrArg Host.Outcome.next (takeRequest_cycleControl_trigger id_ignoresArm (by decide) h rfl rfl)
  · refine congrArg Host.Outcome.next ((takeRequest_cycleControl_trigger startSequencer_ignoresArm (by decide) h rfl rfl).trans ?_)
    rw [startSequencer_eq]
    rfl
  · refine congrArg Host.Outcome.next ((takeRequest_cycleControl_trigger stopSequencer_ignoresArm (by decide) h rfl rfl).trans ?_)
    rw [stopSequencer_eq]
    rfl

end Sys2Proof.Machine
end

section
/-! PROOFS. The wrong forms of the requests (O14): each row's action by its row, and the arm of it that a wrong form meets. -/

namespace Sys2Proof.Machine

variable {s : State} {tag code : Octet} {args : List Octet} {rest : List Request}

/-! ## The action of a row -/

/-- The action of each row but RESET PART, which is none of these. -/
def actionOf : RequestRow → List Octet → State → Done
  | .identify => actIdentify
  | .readStatus => actReadStatus
  | .laneControlEnable => laneControl enableLane
  | .laneControlDisable => laneControl disableLane
  | .laneControlClearLatch => laneControl clearLatch
  | .laneControlNone => laneControl (fun _ s => s)
  | .laneOptionsWrite => actLaneOptionsWrite
  | .laneOptionsRead => actLaneOptionsRead
  | .writeProfile => actWriteProfile
  | .readProfile => actReadProfile
  | .startCensus => actStartCensus
  | .stopCensus => actStopCensus
  | .readRoster => actReadRoster
  | .find => actFind
  | .mapWrite => actMapWrite
  | .mapClear => actMapClear
  | .mapRead => actMapRead
  | .setProvisionalRange => actSetProvisionalRange
  | .nameDevice => actNameDevice
  | .release => actRelease
  | .cycleListWrite => actCycleListWrite
  | .cycleListClear => actCycleListClear
  | .cycleListRead => actCycleListRead
  | .cycleControlStart => cycleControl startSequencer
  | .cycleControlStop => cycleControl stopSequencer
  | .cycleControlNone => cycleControl (fun s => s)
  | .fetchNotices => actFetchNotices
  | .noticeMasksWrite => actNoticeMasksWrite
  | .noticeMasksRead => actNoticeMasksRead
  | .readCounters => actReadCounters
  | .unknownRequest => fun _ s => refuse .unknownRequest s
  | .resetPart => fun _ s => refuse .badLength s

/-- A management command takes the request of its row with that row's action. -/
theorem exec_request {c : Instr} {row : RequestRow} (hc : requestRow c = some row) (hrow : row ≠ .resetPart) (s : State) :
    exec c s = .next (takeRequest row (actionOf row) s) := by
  cases c <;> cases hc
  case resetPart => exact absurd rfl hrow
  all_goals rfl

theorem requestRow_resetPart {c : Instr} (hc : requestRow c = some .resetPart) : ∃ die, c = .resetPart die := by
  cases c <;> cases hc
  exact ⟨_, rfl⟩

/-! ## The codes -/

theorem code_cases (h : rowOf (code :: args) ≠ .unknownRequest) : code ∈ (List.range' 1 24).map octet := by
  have hlow : code.toNat ≠ 0 := fun h0 => h (rowOf_eq_unknownRequest (.inl (BitVec.eq_of_toNat_eq h0)) args)
  have hhigh : ¬ 24 < code.toNat := fun h24 => h (rowOf_eq_unknownRequest (.inr h24) args)
  exact List.mem_map.mpr ⟨code.toNat, List.mem_range'_1.mpr (by omega), octet_toNat code⟩

theorem laneControlRow_cases (args : List Octet) :
    laneControlRow args ∈ [RequestRow.laneControlEnable, .laneControlDisable, .laneControlClearLatch, .laneControlNone] := by
  unfold laneControlRow
  split
  · split <;> decide
  · decide

theorem cycleControlRow_cases (args : List Octet) : cycleControlRow args ∈ [RequestRow.cycleControlStart, .cycleControlStop, .cycleControlNone] := by
  unfold cycleControlRow
  split
  · split <;> decide
  · decide

theorem laneControlRow_action (args : List Octet) : ∃ action, actionOf (laneControlRow args) = laneControl action := by
  have h := laneControlRow_cases args
  simp only [List.mem_cons, List.not_mem_nil, or_false] at h
  rcases h with h | h | h | h <;> exact ⟨_, congrArg actionOf h⟩

theorem cycleControlRow_action (args : List Octet) : ∃ action, actionOf (cycleControlRow args) = cycleControl action := by
  have h := cycleControlRow_cases args
  simp only [List.mem_cons, List.not_mem_nil, or_false] at h
  rcases h with h | h | h <;> exact ⟨_, congrArg actionOf h⟩

/-- RESET PART has one code. -/
theorem code_of_resetPart (h : rowOf (code :: args) = .resetPart) : code = 0x18 := by
  unfold rowOf at h
  dsimp only at h
  split at h
  case h_24 hcode => exact BitVec.eq_of_toNat_eq hcode
  case h_3 => exact absurd (h ▸ laneControlRow_cases args) (by decide)
  case h_20 => exact absurd (h ▸ cycleControlRow_cases args) (by decide)
  case h_4 => split at h <;> cases h
  case h_22 => split at h <;> cases h
  all_goals cases h

/-- A request whose action refuses it in every state is answered so, RESET PART with its arguments included. -/
theorem exec_of_refused {c : Instr} {row : RequestRow} (h : s.Asked tag (code :: args) rest) (hc : requestRow c = some row)
    (hrow : rowOf (code :: args) = row) {st : Status} (hact : row ≠ .resetPart → ∀ t, actionOf row args t = refuse st t)
    (hreset : row = .resetPart → st = .badLength ∧ args ≠ []) : exec c s = .next (s.answered rest tag code st []) := by
  by_cases hr : row = .resetPart
  · obtain ⟨rfl, hargs⟩ := hreset hr
    subst hr
    obtain ⟨die, rfl⟩ := requestRow_resetPart hc
    obtain ⟨a, args, rfl⟩ := List.exists_cons_of_ne_nil hargs
    obtain rfl := code_of_resetPart hrow
    exact exec_resetPart_of_args h die
  · rw [exec_request hc hr]
    exact congrArg Host.Outcome.next (takeRequest_of_refuse h hrow (hact hr))

/-! ## Wrong lengths -/

section
variable (t : State)

theorem laneControl_of_length (action : Lane → State → State) (h : acceptsLength 0x03 args.length = false) :
    laneControl action args t = refuse .badLength t := by
  unfold laneControl
  split <;> [cases h; cases h; rfl]

theorem cycleControl_of_length (action : State → State) (h : acceptsLength 0x14 args.length = false) :
    cycleControl action args t = refuse .badLength t := by
  unfold cycleControl
  split <;> [cases h; cases h; rfl]

theorem actFind_of_length (h : acceptsLength 0x0A args.length = false) : actFind args t = refuse .badLength t := by
  unfold actFind
  split <;> [cases h; cases h; rfl]

theorem actMapWrite_of_length (h : acceptsLength 0x0B args.length = false) : actMapWrite args t = refuse .badLength t := by
  unfold actMapWrite
  split <;> [cases h; cases h; rfl]

theorem actCycleListWrite_of_length (h : acceptsLength 0x11 args.length = false) : actCycleListWrite args t = refuse .badLength t := by
  unfold actCycleListWrite
  split
  · next i n payload =>
    refine if_pos ?_
    simp [acceptsLength] at h
    omega
  · rfl

theorem actIdentify_of_length (h : (args.length == 0) = false) : actIdentify args t = refuse .badLength t := if_neg (by rintro rfl; cases h)

theorem actReadStatus_of_length (h : (args.length == 0) = false) : actReadStatus args t = refuse .badLength t := if_neg (by rintro rfl; cases h)

theorem actWriteProfile_of_length (h : (args.length == 5) = false) : actWriteProfile args t = refuse .badLength t := by
  unfold actWriteProfile
  split <;> [cases h; rfl]

theorem actReadProfile_of_length (h : (args.length == 1) = false) : actReadProfile args t = refuse .badLength t := by
  unfold actReadProfile
  split <;> [cases h; rfl]

theorem actStartCensus_of_length (h : (args.length == 2) = false) : actStartCensus args t = refuse .badLength t := by
  unfold actStartCensus
  split <;> [cases h; rfl]

theorem actStopCensus_of_length (h : (args.length == 1) = false) : actStopCensus args t = refuse .badLength t := by
  unfold actStopCensus
  split <;> [cases h; rfl]

theorem actReadRoster_of_length (h : (args.length == 2) = false) : actReadRoster args t = refuse .badLength t := by
  unfold actReadRoster
  split <;> [cases h; rfl]

theorem actMapClear_of_length (h : (args.length == 1) = false) : actMapClear args t = refuse .badLength t := by
  unfold actMapClear
  split <;> [cases h; rfl]

theorem actMapRead_of_length (h : (args.length == 1) = false) : actMapRead args t = refuse .badLength t := by
  unfold actMapRead
  split <;> [cases h; rfl]

theorem actSetProvisionalRange_of_length (h : (args.length == 2) = false) : actSetProvisionalRange args t = refuse .badLength t := by
  unfold actSetProvisionalRange
  split <;> [cases h; rfl]

theorem actNameDevice_of_length (h : (args.length == 7) = false) : actNameDevice args t = refuse .badLength t := by
  unfold actNameDevice
  split <;> [cases h; rfl]

theorem actRelease_of_length (h : (args.length == 6) = false) : actRelease args t = refuse .badLength t := by
  unfold actRelease
  split <;> [cases h; rfl]

theorem actCycleListClear_of_length (h : (args.length == 1) = false) : actCycleListClear args t = refuse .badLength t := by
  unfold actCycleListClear
  split <;> [cases h; rfl]

theorem actCycleListRead_of_length (h : (args.length == 1) = false) : actCycleListRead args t = refuse .badLength t := by
  unfold actCycleListRead
  split <;> [cases h; rfl]

theorem actFetchNotices_of_length (h : (args.length == 1) = false) : actFetchNotices args t = refuse .badLength t := by
  unfold actFetchNotices
  split <;> [cases h; rfl]

theorem actReadCounters_of_length (h : (args.length == 2) = false) : actReadCounters args t = refuse .badLength t := by
  unfold actReadCounters
  split <;> [cases h; rfl]

theorem actLaneOptionsRead_of_length (h : (args.length == 1) = false) : actLaneOptionsRead args t = refuse .badLength t := by
  unfold actLaneOptionsRead
  split <;> [cases h; rfl]

theorem actLaneOptionsWrite_of_length (h : (args.length == 7) = false) : actLaneOptionsWrite args t = refuse .badLength t := by
  unfold actLaneOptionsWrite
  split <;> [cases h; rfl]

theorem actNoticeMasksWrite_of_length (h : (args.length == 4) = false) : actNoticeMasksWrite args t = refuse .badLength t := by
  unfold actNoticeMasksWrite
  split <;> [cases h; rfl]

end

/-- Each action matches on its arguments, and a length that its code does not take meets the last arm. -/
theorem actionOf_of_length (hrow : rowOf (code :: args) ≠ .unknownRequest) (hreset : rowOf (code :: args) ≠ .resetPart)
    (h : acceptsLength code args.length = false) (t : State) : actionOf (rowOf (code :: args)) args t = refuse .badLength t := by
  have hcode := code_cases hrow
  simp only [List.range', List.map_cons, List.map_nil, List.mem_cons, List.not_mem_nil, or_false] at hcode
  rcases hcode with rfl | rfl | rfl | rfl | rfl | rfl | rfl | rfl | rfl | rfl | rfl | rfl | rfl | rfl | rfl | rfl | rfl | rfl | rfl | rfl | rfl | rfl |
    rfl | rfl
  · exact actIdentify_of_length t h
  · exact actReadStatus_of_length t h
  · obtain ⟨action, haction⟩ := laneControlRow_action args
    exact (congrFun (congrFun haction args) t).trans (laneControl_of_length t action h)
  · obtain ⟨h1, h7⟩ := Bool.or_eq_false_iff.mp h
    change actionOf (if args.length = 1 then .laneOptionsRead else .laneOptionsWrite) args t = _
    rw [if_neg (beq_eq_false_iff_ne.mp h1)]
    exact actLaneOptionsWrite_of_length t h7
  · exact actWriteProfile_of_length t h
  · exact actReadProfile_of_length t h
  · exact actStartCensus_of_length t h
  · exact actStopCensus_of_length t h
  · exact actReadRoster_of_length t h
  · exact actFind_of_length t h
  · exact actMapWrite_of_length t h
  · exact actMapClear_of_length t h
  · exact actMapRead_of_length t h
  · exact actSetProvisionalRange_of_length t h
  · exact actNameDevice_of_length t h
  · exact actRelease_of_length t h
  · exact actCycleListWrite_of_length t h
  · exact actCycleListClear_of_length t h
  · exact actCycleListRead_of_length t h
  · obtain ⟨action, haction⟩ := cycleControlRow_action args
    exact (congrFun (congrFun haction args) t).trans (cycleControl_of_length t action h)
  · exact actFetchNotices_of_length t h
  · obtain ⟨h0, h4⟩ := Bool.or_eq_false_iff.mp h
    change actionOf (if args = [] then .noticeMasksRead else .noticeMasksWrite) args t = _
    rw [if_neg (by rintro rfl; cases h0)]
    exact actNoticeMasksWrite_of_length t h4
  · exact actReadCounters_of_length t h
  · exact absurd rfl hreset

/-! ## Wrong arguments -/

theorem length_eq_four : args.length = 4 → ∃ a b c d, args = [a, b, c, d] := by
  match args with
  | [a, b, c, d] => exact fun _ => ⟨a, b, c, d, rfl⟩
  | [] | [_] | [_, _] | [_, _, _] | _ :: _ :: _ :: _ :: _ :: _ => simp

theorem length_eq_seven : args.length = 7 → ∃ a b c d e f g, args = [a, b, c, d, e, f, g] := by
  match args with
  | [a, b, c, d, e, f, g] => exact fun _ => ⟨a, b, c, d, e, f, g, rfl⟩
  | [] | [_] | [_, _] | [_, _, _] | [_, _, _, _] | [_, _, _, _, _] | [_, _, _, _, _, _] | _ :: _ :: _ :: _ :: _ :: _ :: _ :: _ :: _ => simp

/-- The two forms of CYCLE CONTROL. -/
theorem cycleControl_forms (h : acceptsLength 0x14 args.length = true) : ∃ a, args = [a] ∨ ∃ b c d, args = [a, b, c, d] := by
  rcases Bool.or_eq_true_iff.mp h with h1 | h4
  · obtain ⟨a, rfl⟩ := List.length_eq_one_iff.mp (beq_iff_eq.mp h1)
    exact ⟨a, .inl rfl⟩
  · obtain ⟨a, b, c, d, rfl⟩ := length_eq_four (beq_iff_eq.mp h4)
    exact ⟨a, .inr ⟨b, c, d, rfl⟩⟩

/-- The two forms of LANE OPTIONS. -/
theorem laneOptions_forms (h : acceptsLength 0x04 args.length = true) : ∃ a, args = [a] ∨ ∃ b c d e f g, args = [a, b, c, d, e, f, g] := by
  rcases Bool.or_eq_true_iff.mp h with h1 | h7
  · obtain ⟨a, rfl⟩ := List.length_eq_one_iff.mp (beq_iff_eq.mp h1)
    exact ⟨a, .inl rfl⟩
  · obtain ⟨a, b, c, d, e, f, g, rfl⟩ := length_eq_seven (beq_iff_eq.mp h7)
    exact ⟨a, .inr ⟨b, c, d, e, f, g, rfl⟩⟩

/-- The two forms of FIND. -/
theorem find_forms (h : acceptsLength 0x0A args.length = true) : ∃ a b, args = [a, b] ∨ ∃ c d e f g, args = [a, b, c, d, e, f, g] := by
  rcases Bool.or_eq_true_iff.mp h with h2 | h7
  · obtain ⟨a, b, rfl⟩ := List.length_eq_two.mp (beq_iff_eq.mp h2)
    exact ⟨a, b, .inl rfl⟩
  · obtain ⟨a, b, c, d, e, f, g, rfl⟩ := length_eq_seven (beq_iff_eq.mp h7)
    exact ⟨a, b, .inr ⟨c, d, e, f, g, rfl⟩⟩

/-- The two forms of LANE CONTROL. -/
theorem laneControl_forms (h : acceptsLength 0x03 args.length = true) : ∃ a b, args = [a, b] ∨ ∃ c, args = [a, b, c] := by
  rcases Bool.or_eq_true_iff.mp h with h2 | h3
  · obtain ⟨a, b, rfl⟩ := List.length_eq_two.mp (beq_iff_eq.mp h2)
    exact ⟨a, b, .inl rfl⟩
  · obtain ⟨a, b, c, rfl⟩ := List.length_eq_three.mp (beq_iff_eq.mp h3)
    exact ⟨a, b, .inr ⟨c, rfl⟩⟩

section
variable (t : State)

theorem laneControl_of_no_lane (action : Lane → State → State) (hlen : acceptsLength 0x03 args.length = true) (h1 : args.getD 0 0 ≠ 1)
    (h2 : args.getD 0 0 ≠ 2) : laneControl action args t = refuse .badArgument t := by
  have hlane := laneOf_eq_none h1 h2
  obtain ⟨a, b, rfl | ⟨c, rfl⟩⟩ := laneControl_forms hlen <;> simp only [List.getD_cons_zero] at hlane <;> simp only [laneControl, hlane]

theorem laneControl_of_no_action (action : Lane → State → State) (hlen : acceptsLength 0x03 args.length = true) (h : 3 < (args.getD 1 0).toNat) :
    laneControl action args t = refuse .badArgument t := by
  obtain ⟨a, b, rfl | ⟨c, rfl⟩⟩ := laneControl_forms hlen <;> simp only [List.getD_cons_succ, List.getD_cons_zero] at h <;>
    simp only [laneControl] <;> cases laneOf a <;> simp only [h, if_true]

theorem actLaneOptionsRead_of_no_lane {a : Octet} (h1 : a ≠ 1) (h2 : a ≠ 2) : actLaneOptionsRead [a] t = refuse .badArgument t := by
  simp only [actLaneOptionsRead, laneOf_eq_none h1 h2]

theorem actLaneOptionsWrite_of_no_lane {a b c d e f g : Octet} (h1 : a ≠ 1) (h2 : a ≠ 2) :
    actLaneOptionsWrite [a, b, c, d, e, f, g] t = refuse .badArgument t := by
  simp only [actLaneOptionsWrite, laneOf_eq_none h1 h2]

theorem censusModeOf_eq_none {m : Octet} (h1 : m ≠ 1) (h2 : m ≠ 2) : censusModeOf m = none := by
  unfold censusModeOf
  split
  · next h => exact absurd (BitVec.eq_of_toNat_eq h) h1
  · next h => exact absurd (BitVec.eq_of_toNat_eq h) h2
  · rfl

theorem triggerOf_eq_none {m : Octet} (h1 : m ≠ 1) (h2 : m ≠ 2) : triggerOf m = none := by
  unfold triggerOf
  split
  · next h => exact absurd (BitVec.eq_of_toNat_eq h) h1
  · next h => exact absurd (BitVec.eq_of_toNat_eq h) h2
  · rfl

theorem actStartCensus_of_no_lane {a b : Octet} (h1 : a ≠ 1) (h2 : a ≠ 2) : actStartCensus [a, b] t = refuse .badArgument t := by
  simp only [actStartCensus, laneOf_eq_none h1 h2]

theorem actStartCensus_of_no_mode {a b : Octet} (h1 : b ≠ 1) (h2 : b ≠ 2) : actStartCensus [a, b] t = refuse .badArgument t := by
  simp only [actStartCensus, censusModeOf_eq_none h1 h2]
  cases laneOf a <;> rfl

theorem actStopCensus_of_no_lane {a : Octet} (h1 : a ≠ 1) (h2 : a ≠ 2) : actStopCensus [a] t = refuse .badArgument t := by
  simp only [actStopCensus, laneOf_eq_none h1 h2]

theorem actReadRoster_of_no_slot {a b : Octet} (h : 31 < a.toNat) : actReadRoster [a, b] t = refuse .badArgument t := if_pos h

theorem cycleControl_of_no_action (action : State → State) (hlen : acceptsLength 0x14 args.length = true) (h : 2 < (args.getD 0 0).toNat) :
    cycleControl action args t = refuse .badArgument t := by
  obtain ⟨a, rfl | ⟨b, c, d, rfl⟩⟩ := cycleControl_forms hlen
  · exact if_pos h
  · simp only [List.getD_cons_zero] at h
    simp only [cycleControl]
    cases triggerOf b <;> simp only [h, if_true]

theorem cycleControl_of_no_source (action : State → State) {a source hi lo : Octet} (h1 : source ≠ 1) (h2 : source ≠ 2) :
    cycleControl action [a, source, hi, lo] t = refuse .badArgument t := by
  simp only [cycleControl, triggerOf_eq_none h1 h2]

/-! FIND takes each selector with its own length. -/

theorem actFind_of_no_selector (hlen : acceptsLength 0x0A args.length = true) (h1 : args.getD 0 0 ≠ 1) (h2 : args.getD 0 0 ≠ 2) :
    actFind args t = refuse .badArgument t := by
  obtain ⟨a, b, rfl | ⟨c, d, e, f, g, rfl⟩⟩ := find_forms hlen
  · exact (if_neg fun h => h1 (BitVec.eq_of_toNat_eq h)).trans (if_neg fun h => h2 (BitVec.eq_of_toNat_eq h))
  · exact (if_neg fun h => h2 (BitVec.eq_of_toNat_eq h)).trans (if_neg fun h => h1 (BitVec.eq_of_toNat_eq h))

theorem actFind_of_no_name {n : Octet} (h : n = 0 ∨ n = 255) : actFind [1, n] t = refuse .badArgument t := by
  simp only [actFind, deviceName_eq_none h]
  rfl

end

/-! ## O14 -/

/-- Settles O14: `actionOf_of_length` for the lengths, and for the values the arm of each action that meets the wrong one. -/
theorem wrongFormsAreRefused : Obligations.WrongFormsAreRefused := by
  intro c row s tag code args rest h hc hrow hknown refused arg
  have hrefused {st : Status} (hcode : code ≠ 0x18) (hact : ∀ t, actionOf (rowOf (code :: args)) args t = refuse st t) : refused st :=
    exec_of_refused h hc hrow (fun _ => hrow ▸ hact) fun hr => absurd (code_of_resetPart (hrow.trans hr)) hcode
  refine ⟨fun hlen => ?_, fun hlen => ⟨fun hcode h1 h2 => ?_, fun hcode h3 => ?_, fun hcode h1 h2 => ?_, fun hcode h31 => ?_,
    fun hcode => ⟨fun h1 h2 => ?_, fun h1 h7 => ?_, fun h2 hl => ?_, fun h1 hl hn => ?_⟩, fun hcode => ⟨fun h2 => ?_, fun hl h1 h2 => ?_⟩⟩⟩
  · refine exec_of_refused h hc hrow (fun hr => ?_) fun hr => ⟨rfl, ?_⟩
    · exact hrow ▸ actionOf_of_length (hrow ▸ hknown) (hrow ▸ hr) hlen
    · rintro rfl
      obtain rfl := code_of_resetPart (hrow.trans hr)
      cases hlen
  · obtain rfl | rfl | rfl | rfl := hcode
    · obtain ⟨action, haction⟩ := laneControlRow_action args
      exact hrefused (by decide) fun t => (congrFun (congrFun haction args) t).trans (laneControl_of_no_lane t action hlen h1 h2)
    · obtain ⟨a, rfl | ⟨b, c, d, e, f, g, rfl⟩⟩ := laneOptions_forms hlen
      · exact hrefused (by decide) fun t => actLaneOptionsRead_of_no_lane t h1 h2
      · exact hrefused (by decide) fun t => actLaneOptionsWrite_of_no_lane t h1 h2
    · obtain ⟨a, b, rfl⟩ := List.length_eq_two.mp (beq_iff_eq.mp hlen)
      exact hrefused (by decide) fun t => actStartCensus_of_no_lane t h1 h2
    · obtain ⟨a, rfl⟩ := List.length_eq_one_iff.mp (beq_iff_eq.mp hlen)
      exact hrefused (by decide) fun t => actStopCensus_of_no_lane t h1 h2
  · subst hcode
    obtain ⟨action, haction⟩ := laneControlRow_action args
    exact hrefused (by decide) fun t => (congrFun (congrFun haction args) t).trans (laneControl_of_no_action t action hlen h3)
  · subst hcode
    obtain ⟨a, b, rfl⟩ := List.length_eq_two.mp (beq_iff_eq.mp hlen)
    exact hrefused (by decide) fun t => actStartCensus_of_no_mode t h1 h2
  · subst hcode
    obtain ⟨a, b, rfl⟩ := List.length_eq_two.mp (beq_iff_eq.mp hlen)
    exact hrefused (by decide) fun t => actReadRoster_of_no_slot t h31
  · subst hcode
    exact hrefused (by decide) fun t => actFind_of_no_selector t hlen h1 h2
  · subst hcode
    obtain ⟨a, b, c, d, e, f, g, rfl⟩ := length_eq_seven h7
    obtain rfl : a = 1 := h1
    exact hrefused (by decide) fun t => rfl
  · subst hcode
    obtain ⟨a, b, rfl⟩ := List.length_eq_two.mp hl
    obtain rfl : a = 2 := h2
    exact hrefused (by decide) fun t => rfl
  · subst hcode
    obtain ⟨a, b, rfl⟩ := List.length_eq_two.mp hl
    obtain rfl : a = 1 := h1
    exact hrefused (by decide) fun t => actFind_of_no_name t hn
  · subst hcode
    obtain ⟨action, haction⟩ := cycleControlRow_action args
    exact hrefused (by decide) fun t => (congrFun (congrFun haction args) t).trans (cycleControl_of_no_action t action hlen h2)
  · subst hcode
    obtain ⟨a, b, c, d, rfl⟩ := length_eq_four hl
    obtain ⟨action, haction⟩ := cycleControlRow_action [a, b, c, d]
    exact hrefused (by decide) fun t => (congrFun (congrFun haction _) t).trans (cycleControl_of_no_source t action h1 h2)

end Sys2Proof.Machine
end

section
/-! PROOFS. Every request is answered at its reserved place (O13): what an action answers, that it puts frames behind the held place alone, and that none is placed
while the link is DOWN. -/

namespace Sys2Proof.Machine

variable {s t : State} {tag : Octet} {payload : List Octet} {rest : List Request} {row : RequestRow}

/-! ## What an action answers -/

/-- An action either refuses and changes nothing, or answers OK or CLAMPED (R169). -/
def Done.Judged (t : State) (d : Done) : Prop := (∃ st, d = refuse st t) ∨ d.1.status = .ok ∨ d.1.status = .clamped

theorem judged_refuse (st : Status) (t : State) : Done.Judged t (refuse st t) := .inl ⟨st, rfl⟩

theorem judged_done (data : List Octet) (t u : State) : Done.Judged t (done data u) := .inr (.inl rfl)

theorem judged_doneClamped (clamped : Bool) (data : List Octet) (t u : State) : Done.Judged t (doneClamped clamped data u) := by
  cases clamped
  · exact .inr (.inl rfl)
  · exact .inr (.inr rfl)

/-- Every arm of every action is a refusal or an answer. -/
theorem actionOf_judged (row : RequestRow) (args : List Octet) (t : State) : Done.Judged t (actionOf row args t) := by
  cases row
  all_goals
    simp only [actionOf, actIdentify, actReadStatus, laneControl, actLaneOptionsWrite, actLaneOptionsRead, actWriteProfile, actReadProfile, actStartCensus,
      actStopCensus, actReadRoster, actFind, reportEntry, actMapWrite, storeMap, actMapClear, actMapRead, actSetProvisionalRange, actNameDevice,
      actRelease, actCycleListWrite, actCycleListClear, actCycleListRead, cycleControl, actFetchNotices, actNoticeMasksWrite, actNoticeMasksRead,
      actReadCounters]
    repeat' split
    all_goals simp only [judged_refuse, judged_done, judged_doneClamped]

theorem actOn_judged (row : RequestRow) (payload : List Octet) (t : State) : Done.Judged t (actOn (actionOf row) payload t) := by
  cases payload with
  | nil => exact judged_refuse ..
  | cons code args => exact actionOf_judged ..

/-! ## What an action moves -/

/-- What an action can change: neither the link, nor the transmitter, nor the request queue. -/
def Scope.acts : Scope where
  part
    | .link | .transmitter | .requests => False
    | _ => True
  home := fun _ => True
  apart := False

theorem acts_names : Scope.acts.Names := { notices := trivial, complete := fun _ => trivial, cursor := trivial }

theorem acts_runs (l : Lane) : Scope.acts.Runs l :=
  { acts_names with cycle := trivial, outbound := trivial, drops := trivial, census := trivial, unaddress := trivial, forward := trivial }

theorem acts_powers (l : Lane) : Scope.acts.Powers l := { acts_runs l with power := trivial, exchange := trivial, slots := fun _ => trivial }

theorem acts_maps : Scope.acts.Maps := { acts_names with slots := fun _ => trivial, census := fun _ => trivial, nameMap := trivial }

theorem actionOf_moves (row : RequestRow) (args : List Octet) (t : State) : Moves Scope.acts t (actionOf row args t).2 := by
  cases row
  case laneControlEnable => exact laneControl_moves acts_powers (fun l => enableLane_moves (acts_powers l))
  case laneControlDisable => exact laneControl_moves acts_powers (fun l => disableLane_moves (acts_powers l))
  case laneControlClearLatch => exact laneControl_moves acts_powers (fun l => clearLatch_moves (acts_powers l))
  case laneControlNone => exact laneControl_moves acts_powers (fun _ => Moves.refl)
  case laneOptionsWrite => exact actLaneOptionsWrite_moves acts_names (fun _ => trivial) (fun _ => trivial)
  case writeProfile => exact actWriteProfile_moves trivial
  case startCensus => exact actStartCensus_moves acts_runs (fun _ => trivial) (fun _ _ => trivial)
  case stopCensus => exact actStopCensus_moves acts_names.toEvals (fun _ => trivial) (fun _ => trivial)
  case mapWrite => exact actMapWrite_moves acts_maps
  case mapClear => exact actMapClear_moves acts_maps
  case setProvisionalRange => exact actSetProvisionalRange_moves acts_names trivial (fun _ => trivial)
  case nameDevice => exact actNameDevice_moves acts_names (fun _ => trivial)
  case release => exact actRelease_moves acts_names (fun _ => trivial) (fun _ => trivial)
  case cycleListWrite => exact actCycleListWrite_moves trivial
  case cycleListClear => exact actCycleListClear_moves trivial
  case cycleControlStart => exact cycleControl_moves (A := Scope.acts) trivial trivial (startSequencer_moves trivial)
  case cycleControlStop => exact cycleControl_moves (A := Scope.acts) trivial trivial (stopSequencer_moves trivial)
  case cycleControlNone => exact cycleControl_moves (A := Scope.acts) trivial trivial Moves.refl
  case fetchNotices => exact actFetchNotices_moves trivial
  case noticeMasksWrite => exact actNoticeMasksWrite_moves trivial
  case readCounters => exact actReadCounters_moves (fun _ => trivial) trivial trivial
  case readStatus =>
    simp only [actionOf, actReadStatus]
    split
    · exact .one (.choices _ trivial)
    · exact Moves.refl _
  all_goals
    simp only [actionOf, actIdentify, actLaneOptionsRead, actReadProfile, actReadRoster, actFind, reportEntry, actMapRead, actCycleListRead,
      actNoticeMasksRead]
    repeat' split
    all_goals exact Moves.refl _

/-- What an action leaves of the arm link: the requests and the link, and the frames that wait, behind which it puts its own while the link is UP. -/
structure ActsBehind (t u : State) : Prop where
  requests : u.arm.requests = t.arm.requests
  linkUp : u.arm.linkUp = t.arm.linkUp
  behind : t.arm.outbound <+: u.arm.outbound
  none : t.arm.linkUp = false → u.arm.outbound = t.arm.outbound

theorem Moves.actsBehind (h : Moves Scope.acts s t) : ActsBehind s t where
  requests := (Moves.framed h).requests.resolve_left id
  linkUp := ((Moves.framed h).link.resolve_left id).1
  behind := (Moves.places h id id id).1
  none := (Moves.places h id id id).2

theorem actOn_actsBehind (row : RequestRow) (payload : List Octet) (t : State) : ActsBehind t (actOn (actionOf row) payload t).2 :=
  Moves.actsBehind (actOn_moves (fun args => actionOf_moves row args t) payload)

/-! ## The held place -/

theorem taken_arm (h : s.Asked tag payload rest) : (s.taken tag payload).arm =
    { s.arm with requests := rest, outbound := s.arm.outbound ++ [⟨0, .response, tag, [requestCode payload, 0, 0]⟩] } := by
  simp [State.taken, appendFrame, popRequest, h.front]

/-- The RESPONSE fills its held place, and the action's own frames stand behind it (R168). -/
theorem takeRequest_response (h : s.Asked tag payload rest) (hrow : rowOf payload = row) : ∃ status data behind,
    (takeRequest row (actionOf row) s).arm.requests = rest ∧ (takeRequest row (actionOf row) s).arm.outbound = s.arm.outbound ++
      ⟨0, .response, tag, payload.headD 0 :: octet (Status.code status) ::
        octet (takeRequest row (actionOf row) s).notices.queue.length :: data⟩ :: behind ∧
    (status = .ok ∨ status = .clamped ∨ takeRequest row (actionOf row) s = s.answered rest tag (payload.headD 0) status []) := by
  have hact := actOn_actsBehind row payload (s.taken tag payload)
  have hjudged := actOn_judged row payload (s.taken tag payload)
  have harm := taken_arm h
  obtain ⟨behind, hbehind⟩ := hact.behind
  rw [takeRequest_asked h hrow]
  refine ⟨(actOn (actionOf row) payload (s.taken tag payload)).1.status, (actOn (actionOf row) payload (s.taken tag payload)).1.data, behind,
    hact.requests.trans (by rw [harm]), ?_, ?_⟩
  · have hplace : (actOn (actionOf row) payload (s.taken tag payload)).2.arm.outbound =
        s.arm.outbound ++ ⟨0, .response, tag, [requestCode payload, 0, 0]⟩ :: behind := by
      rw [← hbehind, harm, List.append_assoc]
      rfl
    rw [placeFrame, modArm]
    dsimp only
    rw [hplace, List.set_append_right _ _ (Nat.le_refl _), Nat.sub_self, List.set_cons_zero]
    rfl
  · rcases hjudged with ⟨st, hrefused⟩ | hok | hclamped
    · refine .inr (.inr ?_)
      rw [hrefused]
      exact placeFrame_taken h st []
    · exact .inl hok
    · exact .inr (.inl hclamped)

/-! ## The answer while the link is DOWN -/

/-- A request stands first while the link is DOWN, and no frame waits (R15). -/
structure State.AskedDown (s : State) (tag : Octet) (payload : List Octet) (rest : List Request) : Prop where
  running : s.resetAsserted = false
  linkDown : s.arm.linkUp = false
  empty : s.arm.outbound = []
  front : s.arm.requests = ⟨tag, payload⟩ :: rest

/-- The arm link when the RESPONSE has been dropped and counted. -/
def ArmLink.responseDropped (a : ArmLink) (rest : List Request) : ArmLink :=
  { a with requests := rest, counters := { a.counters with outboundDrops := addSat a.counters.outboundDrops } }

theorem State.AskedDown.nextRequest (h : s.AskedDown tag payload rest) : s.nextRequest = some ⟨tag, payload⟩ := by
  rw [State.nextRequest, if_pos ⟨h.running, by rw [h.empty]; decide⟩, h.front]
  rfl

theorem answerRequest_down (h : s.AskedDown tag payload rest) (act : List Octet → State → Done) : answerRequest act ⟨tag, payload⟩ s =
    offer (responseTo ⟨tag, payload⟩ (actOn act payload (popRequest s)).1 (actOn act payload (popRequest s)).2.waiting)
      (actOn act payload (popRequest s)).2 := by
  simp [answerRequest, h.linkDown]

theorem takeRequest_down (h : s.AskedDown tag payload rest) (hrow : rowOf payload = row) (act : List Octet → State → Done) :
    takeRequest row act s = offer (responseTo ⟨tag, payload⟩ (actOn act payload (popRequest s)).1 (actOn act payload (popRequest s)).2.waiting)
      (actOn act payload (popRequest s)).2 := by
  rw [takeRequest, h.nextRequest]
  exact (if_pos hrow).trans (answerRequest_down h act)

/-- An action that leaves the arm link alone is carried out, and its RESPONSE is dropped. -/
theorem takeRequest_down_of_ignoresArm (h : s.AskedDown tag payload rest) (hrow : rowOf payload = row) {act : List Octet → State → Done}
    {f : State → State} (hf : IgnoresArm f) (hact : (actOn act payload (popRequest s)).2 = f (popRequest s)) :
    takeRequest row act s = { f s with arm := s.arm.responseDropped rest } := by
  have hlink : (f (popRequest s)).arm.linkUp = false := (congrArg ArmLink.linkUp (hf.arm_eq _)).trans h.linkDown
  rw [takeRequest_down h hrow, hact, offer_of_down hlink, popRequest, hf]
  simp [countOutboundDrop, modLink, modArm, hf.arm_eq, h.front, ArmLink.responseDropped]

/-- What the offer of a RESPONSE leaves while the link is DOWN. -/
theorem offer_down_outcome (f : ArmFrame) (h : t.arm.linkUp = false) (hempty : t.arm.outbound = []) :
    (offer f t).arm.outbound = [] ∧ (offer f t).arm.linkUp = false ∧ (offer f t).arm.requests = t.arm.requests ∧
      1 ≤ (offer f t).arm.counters.outboundDrops := by
  rw [offer_of_down h]
  exact ⟨hempty, h, rfl, Nat.le_min.mpr ⟨by decide, Nat.le_add_left ..⟩⟩

theorem takeRequest_down_outcome (h : s.AskedDown tag payload rest) (hrow : rowOf payload = row) :
    (takeRequest row (actionOf row) s).arm.outbound = [] ∧ (takeRequest row (actionOf row) s).arm.linkUp = false ∧
      (takeRequest row (actionOf row) s).arm.requests = rest ∧ 1 ≤ (takeRequest row (actionOf row) s).arm.counters.outboundDrops := by
  have hact := actOn_actsBehind row payload (popRequest s)
  rw [takeRequest_down h hrow]
  obtain ⟨hout, hlink, hreq, hdrops⟩ := offer_down_outcome
    (responseTo ⟨tag, payload⟩ (actOn (actionOf row) payload (popRequest s)).1 (actOn (actionOf row) payload (popRequest s)).2.waiting)
    (hact.linkUp.trans h.linkDown) ((hact.none h.linkDown).trans h.empty)
  exact ⟨hout, hlink, hreq.trans (hact.requests.trans (congrArg List.tail h.front)), hdrops⟩

theorem softReset_down (die : Bool) (s : State) (h : s.arm.linkUp = false) :
    (softReset die s).arm.outbound = [] ∧ (softReset die s).arm.linkUp = false := by
  have hlink : (softBlocks s).arm.linkUp = false := h
  rw [softReset]
  split
  · have hkept := Moves.actsBehind (setOverTemperature_moves acts_powers trivial trivial (softBlocks s))
    exact ⟨hkept.none hlink, hkept.linkUp.trans hlink⟩
  · exact ⟨rfl, hlink⟩

theorem takeReset_down {args : List Octet} (h : s.AskedDown tag (0x18 :: args) rest) (die : Bool) :
    (takeReset die s).arm.outbound = [] ∧ (takeReset die s).arm.linkUp = false := by
  have htaken : takeReset die s = if args = [] then acceptReset die ⟨tag, 0x18 :: args⟩ s
      else answerRequest (fun _ s => refuse .badLength s) ⟨tag, 0x18 :: args⟩ s := by
    rw [takeReset, h.nextRequest]
    rfl
  rw [htaken]
  split
  · rw [acceptReset, if_neg (by simp [h.linkDown])]
    refine softReset_down die _ ?_
    rw [offer_of_down h.linkDown]
    exact h.linkDown
  · rw [answerRequest_down h]
    obtain ⟨hout, hlink, _⟩ := offer_down_outcome (t := popRequest s) (responseTo ⟨tag, 0x18 :: args⟩ ⟨.badLength, []⟩ s.waiting) h.linkDown h.empty
    exact ⟨hout, hlink⟩

/-! ## One request of each block while the link is DOWN -/

theorem foldl_reresolveSlot_of_unheld (h : ∀ slot e, s.entry slot = some e → e.state ≠ .held) (js : List Nat) :
    js.foldl reresolveSlot s = s := by
  induction js with
  | nil => rfl
  | cons j js ih =>
    have hj : s.slotHeld j = false := by
      unfold State.slotHeld
      split
      · next e he => simpa using h j e he
      · rfl
    rw [List.foldl_cons, reresolveSlot, hj]
    exact ih

/-- With no HELD entry there is nothing to resolve again. -/
theorem reresolveHeld_of_unheld (h : ∀ slot e, s.entry slot = some e → e.state ≠ .held) : reresolveHeld s = s :=
  foldl_reresolveSlot_of_unheld h _

theorem setRange_of_unheld (h : ∀ slot e, s.entry slot = some e → e.state ≠ .held) (low high : Nat) :
    setRange low high s = { s with range := ⟨low, high, low⟩ } :=
  reresolveHeld_of_unheld (s := { s with range := ⟨low, high, low⟩ }) h

theorem actSetProvisionalRange_eq {low high : Octet} (hlow : low ≠ 0) (hhigh : high ≠ 255) (hle : low.toNat ≤ high.toNat) (t : State) :
    actSetProvisionalRange [low, high] t =
      done [low, high, octet (setRange low.toNat high.toNat t).range.cursor] (setRange low.toNat high.toNat t) := by
  have hlow255 : low ≠ 255 := fun he => hhigh (BitVec.eq_of_toNat_eq (Nat.le_antisymm (Nat.lt_succ_iff.mp high.isLt) (he ▸ hle)))
  have hhigh0 : high ≠ 0 := fun he => hlow (BitVec.eq_of_toNat_eq (Nat.le_zero.mp (hle.trans_eq (congrArg BitVec.toNat he))))
  rw [actSetProvisionalRange, deviceName_eq_some hlow hlow255, deviceName_eq_some hhigh0 hhigh]
  exact if_neg (Nat.not_lt.mpr hle)

theorem exec_writeProfile_down {i a b c d : Octet} (h : s.AskedDown tag [0x05, i, a, b, c, d] rest) (hi : i.toNat ≤ 3) :
    exec .writeProfile s = .next { s with
      arm := s.arm.responseDropped rest
      profiles := s.profiles.set i.toNat ⟨min 5 a.toNat, min 31 (max 2 b.toNat), max 1 c.toNat, min 3 d.toNat⟩ } := by
  rw [← clampProfile_eq]
  refine congrArg Host.Outcome.next (takeRequest_down_of_ignoresArm h rfl
    (f := fun s => { s with profiles := s.profiles.set i.toNat (clampProfile a b c d) }) (fun _ _ => rfl) ?_)
  simp only [actOn, actWriteProfile, Nat.not_lt.mpr hi, if_false]
  rfl

theorem exec_enable_down {l : Lane} (h : s.AskedDown tag [0x03, octet (laneCode l), 1] rest) (hoff : (s.lane l).power.state = .off)
    (hcool : s.overTemp = false) : exec .laneControlEnable s = .next (notify (.lane l .waiting .enabled (s.lane l).power.faultCount)
      (State.setLane { s with arm := s.arm.responseDropped rest } l
        { s.lane l with power := (s.lane l).power.entered .waiting .no s.now })) := by
  have hact : actOn (laneControl enableLane) [0x03, octet (laneCode l), 1] (popRequest s) =
      done ((enableLane l (popRequest s)).laneReport l) (enableLane l (popRequest s)) := by
    simp [actOn, laneControl]
  refine congrArg Host.Outcome.next
    ((takeRequest_down_of_ignoresArm h rfl (enableLane_ignoresArm l) (congrArg Prod.snd hact)).trans ?_)
  rw [enableLane_of_off hoff, enterWaiting_of_cool hcool (by simp [hoff])]
  cases l <;> exact (notify_ignoresArm _ (fun _ => s.arm.responseDropped rest) _).symm

theorem exec_fetchNotices_down {m : Octet} (h : s.AskedDown tag [0x15, m] rest) (h1 : 1 ≤ m.toNat) (h5 : m.toNat ≤ 5) :
    exec .fetchNotices s = .next { s with
      arm := s.arm.responseDropped rest
      notices := { s.notices with queue := s.notices.queue.drop m.toNat } } := by
  have hclamp : clamp 1 5 m.toNat = m.toNat := by
    unfold clamp
    omega
  refine congrArg Host.Outcome.next (takeRequest_down_of_ignoresArm h rfl (f := dropNotices m.toNat) (fun _ _ => rfl) ?_)
  simp only [actOn, actFetchNotices, hclamp]
  rfl

theorem exec_start_down (h : s.AskedDown tag [0x14, 1] rest) (hstopped : s.seq.state = .stopped) (hframe : s.seq.source = .frame) :
    exec .cycleControlStart s = .next { s with
      arm := s.arm.responseDropped rest
      seq := { s.seq with state := .armed, timer := none } } := by
  refine congrArg Host.Outcome.next ((takeRequest_down_of_ignoresArm h rfl startSequencer_ignoresArm rfl).trans ?_)
  simp [startSequencer_eq, hstopped, hframe]

theorem exec_setProvisionalRange_down {low high : Octet} (h : s.AskedDown tag [0x0E, low, high] rest) (hlow : low ≠ 0) (hhigh : high ≠ 255)
    (hle : low.toNat ≤ high.toNat) (hunheld : ∀ slot e, s.entry slot = some e → e.state ≠ .held) :
    exec .setProvisionalRange s = .next { s with
      arm := s.arm.responseDropped rest
      range := ⟨low.toNat, high.toNat, low.toNat⟩ } := by
  refine congrArg Host.Outcome.next (takeRequest_down_of_ignoresArm h rfl
    (f := fun s => { s with range := ⟨low.toNat, high.toNat, low.toNat⟩ }) (fun _ _ => rfl) ?_)
  rw [actOn, actSetProvisionalRange_eq hlow hhigh hle, setRange_of_unheld (s := popRequest s) hunheld]
  rfl

theorem exec_readCounters_down (h : s.AskedDown tag [0x17, 0, 0x80] rest) : exec .readCounters s = .next { s with
    arm := { s.arm with requests := rest, counters := ⟨0, 0, 0, 0, 0, 1⟩ } } := by
  have hact : (actOn actReadCounters [0x17, 0, 0x80] (popRequest s)).2 = clearLinkGroup true (popRequest s) := rfl
  refine congrArg Host.Outcome.next ((takeRequest_down h rfl actReadCounters).trans ?_)
  rw [hact, offer_of_down (s := clearLinkGroup true (popRequest s)) h.linkDown]
  simp [countOutboundDrop, modLink, modArm, clearLinkGroup, popRequest, LinkCounters.zero, addSat, h.front]

/-! ## The statement -/

theorem nextRequest_of_full (h : 24 ≤ s.arm.outbound.length) : s.nextRequest = none :=
  if_neg fun hboth => absurd hboth.2 (Nat.not_lt.mpr h)

theorem exec_of_full {c : Instr} (h : 24 ≤ s.arm.outbound.length) (hc : (requestRow c).isSome = true) : exec c s = .next s := by
  obtain ⟨row, hrow⟩ := Option.isSome_iff_exists.mp hc
  by_cases hreset : row = .resetPart
  · subst hreset
    obtain ⟨die, rfl⟩ := requestRow_resetPart hrow
    refine congrArg Host.Outcome.next ?_
    rw [takeReset, nextRequest_of_full h]
  · rw [exec_request hrow hreset, takeRequest, nextRequest_of_full h]

theorem payload_of_resetPart (h : rowOf payload = .resetPart) : ∃ args, payload = 0x18 :: args := by
  cases payload with
  | nil => cases h
  | cons code args => exact ⟨args, congrArg (· :: args) (code_of_resetPart h)⟩

theorem eq_of_getElem?_singleton {α : Type} {x y : α} {i : Nat} (h : [x][i]? = some y) : y = x :=
  List.mem_singleton.mp (List.mem_of_getElem? h)

/-- A status other than OK and CLAMPED is a refusal. -/
theorem exec_answered {c : Instr} {f : ArmFrame} {code : Octet} (h : s.Asked tag payload rest) (hc : requestRow c = some row)
    (hrow : rowOf payload = row) (hexec : exec c s = .next t) (hf : t.arm.outbound[s.arm.outbound.length]? = some f)
    (hcode : f.payload[1]? = some code) (h0 : code ≠ 0) (h1 : code ≠ 1) :
    ∃ status : Status, code = octet status.code ∧ t = s.answered rest tag (payload.headD 0) status [] := by
  by_cases hreset : row = .resetPart
  · subst hreset
    obtain ⟨die, rfl⟩ := requestRow_resetPart hc
    obtain ⟨args, rfl⟩ := payload_of_resetPart hrow
    cases args with
    | nil =>
      rw [exec_resetPart h] at hexec
      cases hexec
      cases eq_of_getElem?_singleton hf
      cases hcode
      exact absurd rfl h0
    | cons a args =>
      rw [exec_resetPart_of_args h] at hexec
      cases hexec
      refine ⟨.badLength, ?_, rfl⟩
      rw [State.answered, List.getElem?_append_right (Nat.le_refl _), Nat.sub_self] at hf
      cases hf
      exact (Option.some_inj.mp hcode).symm
  · rw [exec_request hc hreset] at hexec
    obtain ⟨status, data, behind, _, hout, hjudged⟩ := takeRequest_response h hrow
    cases hexec
    rw [hout, List.getElem?_append_right (Nat.le_refl _), Nat.sub_self] at hf
    cases hf
    cases hcode
    rcases hjudged with rfl | rfl | hrefused
    · exact absurd rfl h0
    · exact absurd rfl h1
    · exact ⟨status, rfl, hrefused⟩

/-- Settles O13: the answer at its place while the link is UP, the wait for a free one, and the action alone while the link is DOWN. -/
theorem responseStandsAtItsPlace : Obligations.ResponseStandsAtItsPlace := by
  refine ⟨fun c row s tag payload rest h hc hrow => ⟨fun hreset => ?_, fun t f code hexec => exec_answered h hc hrow hexec⟩,
    fun c s hfull hc => exec_of_full hfull hc, fun s tag payload rest hrunning hdown hempty hfront => ?_⟩
  · obtain ⟨status, data, behind, hreq, hout, _⟩ := takeRequest_response h hrow
    exact ⟨_, status, data, behind, exec_request hc hreset s, hreq, hout⟩
  · have h : s.AskedDown tag payload rest := ⟨hrunning, hdown, hempty, hfront⟩
    refine ⟨fun c row hc hrow => ?_, fun i a b c d hp hi => exec_writeProfile_down (hp ▸ h) hi, fun l hp => exec_enable_down (hp ▸ h),
      fun m hp => exec_fetchNotices_down (hp ▸ h), fun hp => exec_start_down (hp ▸ h),
      fun low high hp => exec_setProvisionalRange_down (hp ▸ h), fun hp => exec_readCounters_down (hp ▸ h)⟩
    by_cases hreset : row = .resetPart
    · subst hreset
      obtain ⟨die, rfl⟩ := requestRow_resetPart hc
      obtain ⟨args, rfl⟩ := payload_of_resetPart hrow
      obtain ⟨hout, hlink⟩ := takeReset_down h die
      exact ⟨_, rfl, hout, hlink, fun hne => absurd rfl hne⟩
    · obtain ⟨hout, hlink, hrest⟩ := takeRequest_down_outcome h hrow
      exact ⟨_, exec_request hc hreset s, hout, hlink, fun _ => hrest⟩

end Sys2Proof.Machine
end

section
/-! PROOFS. Lane power where no LIVE lane is torn down: the timers, the watched conditions, the recovery timers and the ramp (O38, O41), and the over-temperature flag (O42). -/

namespace Sys2Proof.Machine

variable {s t : State} {l : Lane} {m : Nat}

theorem otherLane_ne (l : Lane) : otherLane l ≠ l := by cases l <;> decide

theorem eq_otherLane {k : Lane} (h : k ≠ l) : k = otherLane l := by
  cases l <;> cases k
  case a.a | b.b => exact absurd rfl h
  all_goals rfl

/-! ## Timers -/

theorem ranOut_of_le {timer : Option Nat} (h : timer = some m) (hm : m ≤ s.now) : ranOut s.now timer = true := by simp [h, ranOut, hm]

theorem onTimer_of_ranOut (hrun : s.resetAsserted = false) {timer : PowerTimers → Option Nat} (h : timer (s.lane l).power.timers = some m)
    (hm : m ≤ s.now) (f : State → State) : onTimer l timer f s = f s := by
  rw [onTimer, whenRunning_of_running hrun, if_pos (ranOut_of_le h hm)]

/-- A timer that is stopped, or whose moment has not come, does nothing. -/
theorem onTimer_of_early {timer : PowerTimers → Option Nat} (h : ∀ moment, timer (s.lane l).power.timers = some moment → s.now < moment)
    (f : State → State) : onTimer l timer f s = s := by
  have hnot : ranOut s.now (timer (s.lane l).power.timers) = false := by
    cases htimer : timer (s.lane l).power.timers with
    | none => rfl
    | some moment => simpa [ranOut] using h moment htimer
  rw [onTimer, whenRunning, if_neg (c := ranOut s.now (timer (s.lane l).power.timers) = true) (by simp [hnot]), ite_self]

theorem watchTimer_eq (holds : Bool) (now ms : Nat) (timer : Option Nat) :
    watchTimer holds now ms timer = if holds then some (timer.getD (now + ms)) else none := by
  cases timer <;> rfl

/-! ## The recovery timers -/

/-- Settles O41: each timer by the entry it brings; a row before its moment does nothing. -/
theorem recoveryTimers : Obligations.RecoveryTimers := by
  intro s l cool m hrun
  refine ⟨fun ht hm => ?_, fun ht hm hst => ?_, fun ht hm hst hflag hcool hlow => ?_, fun ht hm hst hwarm => ?_, fun row hrow hearly => ?_⟩
  · exact congrArg Host.Outcome.next (onTimer_of_ranOut hrun ht hm _)
  · refine congrArg Host.Outcome.next ((onTimer_of_ranOut hrun ht hm _).trans ?_)
    rw [endDischarge]
    cases (s.lane l).power.disablePending
    all_goals exact enterPower_of_not_live (by simp [hst]) ..
  · refine congrArg Host.Outcome.next ((onTimer_of_ranOut hrun ht hm _).trans ?_)
    rw [cooldownCheck, if_pos (by simp [hcool, hflag, hlow])]
    exact enterPower_of_not_live (by simp [hst]) ..
  · refine congrArg Host.Outcome.next ((onTimer_of_ranOut hrun ht hm _).trans ?_)
    rw [cooldownCheck, if_neg (by rcases hwarm with h | h <;> simp [h])]
    rfl
  · simp only [List.mem_cons, List.not_mem_nil, or_false] at hrow
    rcases hrow with rfl | rfl | rfl | rfl | rfl | rfl | rfl | rfl
    all_goals exact congrArg Host.Outcome.next (onTimer_of_early hearly _)

/-! ## Faults -/

/-- The third fault latches (R32). -/
theorem faultState_succ (n : Nat) : faultState (min 3 (n + 1)) = if n < 2 then .fault else .latched := by
  rw [faultState]
  by_cases h : n < 2
  · rw [if_pos h, if_pos (by omega)]
  · rw [if_neg h, if_neg (by omega)]

/-- The power of a lane after a fault. -/
def Power.tripped (p : Power) (why : Trip) (now : Nat) : Power :=
  { p with faultCount := min 3 (p.faultCount + 1), lastFault := some why }.entered (if p.faultCount < 2 then .fault else .latched) .no now

theorem enterFault_power (l : Lane) (why : Trip) (s : State) : ((enterFault l why s).lane l).power = (s.lane l).power.tripped why s.now := by
  rw [enterFault, faultState_succ, enterPower_power, if_pos rfl, modPower_lane, modPower_now]
  rfl

theorem enterFault_eq (h : (s.lane l).power.state ≠ .live) (why : Trip) : enterFault l why s =
    notify (.lane l (if (s.lane l).power.faultCount < 2 then .fault else .latched) (.trip why) (min 3 ((s.lane l).power.faultCount + 1)))
      (s.setLane l { s.lane l with power := (s.lane l).power.tripped why s.now }) := by
  rw [enterFault_of_not_live h why rfl, faultState_succ]
  rfl

/-! ## Over-temperature -/

/-- What the setting of the over-temperature flag makes of a lane's power (R31). -/
def Power.heated (p : Power) (now : Nat) : Power :=
  if p.state.thermalActs then
    if p.state = .discharging ∧ p.disablePending ≠ .no then (p.tripped .thermal now).entered .off .no now else p.tripped .thermal now
  else p

theorem thermalLane_power (l : Lane) (s : State) : ((thermalLane l s).lane l).power = (s.lane l).power.heated s.now := by
  have hnow := (thermalLane_moves (powerOf_powers l) s).framed.now
  have hoff (c : LaneCause) : ((enterPower l .off c .no (enterFault l .thermal s)).lane l).power =
      ((s.lane l).power.tripped .thermal s.now).entered .off .no s.now := by
    rw [enterPower_power, if_pos rfl, enterFault_power, (enterFault_moves (powerOf_powers l) .thermal s).framed.now]
  rw [thermalLane, Power.heated]
  split
  · split
    · next hst hdp => rw [if_pos ⟨hst, by rw [hdp]; decide⟩, hoff]
    · next hst hdp => rw [if_pos ⟨hst, by rw [hdp]; decide⟩, hoff]
    · next hdisable hreset =>
      rw [if_neg, enterFault_power]
      rintro ⟨hst, hdp⟩
      cases hp : (s.lane l).power.disablePending with
      | no => exact hdp hp
      | disable => exact hdisable hst hp
      | reset => exact hreset hst hp
  · rfl

theorem thermalLane_other {k : Lane} (h : k ≠ l) (s : State) : ((thermalLane l s).lane k).power = (s.lane k).power :=
  (thermalLane_moves (powerOf_powers l) s).otherPower h

/-- Both lanes, whichever is taken first. -/
theorem thermalLane_both {k j : Lane} (hkj : k ≠ j) (s : State) (l : Lane) :
    ((thermalLane k (thermalLane j s)).lane l).power = (s.lane l).power.heated s.now := by
  by_cases h : l = k
  · subst h
    rw [thermalLane_power, thermalLane_other hkj, (thermalLane_moves (powerOf_powers j) s).framed.now]
  · rw [thermalLane_other h, (eq_otherLane h).trans (eq_otherLane hkj.symm).symm, thermalLane_power]

theorem setOverTemperature_power (s : State) (l : Lane) : ((setOverTemperature s).lane l).power = (s.lane l).power.heated s.now := by
  have hlane (flag : Bool) (n : Nat) : ({ s with overTemp := flag, choices := n } : State).lane l = s.lane l := by cases l <;> rfl
  unfold setOverTemperature
  dsimp only
  split
  · split
    · rw [thermalLane_both (by decide), hlane]
    · rw [thermalLane_both (by decide), hlane]
  · rw [thermalLane_both (by decide), hlane true s.choices]

/-- What lane power moves but for the over-temperature flag. -/
theorem setOverTemperature_flag (s : State) : (setOverTemperature s).overTemp = true := by
  have hboth {k j : Lane} (t : State) : (thermalLane k (thermalLane j t)).overTemp = t.overTemp :=
    ((thermalLane_moves (powerOf_powers k) _).framed.overTemp.resolve_left id).trans
      ((thermalLane_moves (powerOf_powers j) _).framed.overTemp.resolve_left id)
  unfold setOverTemperature
  dsimp only
  split
  · split <;> exact hboth _
  · exact hboth _

theorem heated_of_acts {p : Power} (h : p.state.thermalActs = true) (now : Nat) : (p.heated now).lastFault = some .thermal ∧
    (p.heated now).faultCount = min 3 (p.faultCount + 1) ∧ (p.heated now).limit = p.limit ∧
    (p.heated now).state = (if p.state = .discharging ∧ p.disablePending ≠ .no then .off else if p.faultCount < 2 then .fault else .latched) := by
  rw [Power.heated, if_pos h]
  split
  · exact ⟨rfl, rfl, rfl, rfl⟩
  · exact ⟨rfl, rfl, rfl, rfl⟩

/-- Settles O42: each lane's power is `Power.heated`, whichever lane is taken first. -/
theorem overTemperature : Obligations.OverTemperature := by
  refine fun s l hrun => ⟨congrArg Host.Outcome.next (whenRunning_of_running hrun), fun hflag => ?_⟩
  have hexec : exec .overTemperatureSet s = .next (setOverTemperature s) :=
    congrArg Host.Outcome.next ((whenRunning_of_running hrun).trans (if_neg (by simp [hflag])))
  refine ⟨_, hexec, setOverTemperature_flag s, fun hst => ?_, fun hst => ?_⟩
  · rw [setOverTemperature_power, Power.heated, if_neg (by rcases hst with h | h | h <;> simp [h, PowerState.thermalActs])]
  · rw [setOverTemperature_power]
    exact heated_of_acts (by rcases hst with h | h | h | h <;> simp [h, PowerState.thermalActs]) _

end Sys2Proof.Machine
end

section
/-! PROOFS. The start of a run: what each of its steps leaves of the lanes, and what a start gives; the coupling and the ramp (O38), and the census requests (O29, O30). -/

namespace Sys2Proof.Machine

variable {A : Scope} {s t : State} {l k : Lane}

/-! ## Lanes that moves leave alone -/

/-- The parts of a lane. -/
def Part.ofLane (l : Lane) : Part → Prop
  | .power k | .exchange k | .token k | .turn k | .forward k | .unaddress k | .options k | .census k | .counters k | .complete k => k = l
  | _ => False

/-- A lane none of whose parts is in scope is as it was, but for what moves leave of its completeness. -/
theorem Moves.lane_eq (h : Moves A s t) (hA : ∀ p : Part, p.ofLane l → A.part p → p = .complete l) :
    t.lane l = { s.lane l with complete := (t.lane l).complete } := by
  have hf := Moves.framed h
  have hout {p : Part} (hp : p.ofLane l) (hne : p ≠ .complete l) : ¬ A.part p := fun hin => hne (hA p hp hin)
  have hpower := (hf.power l).resolve_left (hout rfl nofun)
  have hexch := (hf.exchange l).resolve_left (hout rfl nofun)
  have htoken := (hf.token l).resolve_left (hout rfl nofun)
  have hturn := (hf.turn l).resolve_left (hout rfl nofun)
  have hforward := (hf.forward l).resolve_left (hout rfl nofun)
  have hunaddress := (hf.unaddress l).resolve_left (hout rfl nofun)
  have hoptions := (hf.options l).resolve_left (hout rfl nofun)
  have hcensus := (hf.census l).resolve_left (hout rfl nofun)
  have hcounters := (hf.counters l).resolve_left (hout rfl nofun)
  dsimp only
  rw [← hpower, ← hexch.1, ← hexch.2, ← htoken, ← hturn.1, ← hturn.2, ← hforward, ← hunaddress, ← hoptions, ← hcensus, ← hcounters]

/-- What a cycle changes: no lane. -/
def Scope.cycling : Scope where
  part
    | .cycle | .outbound | .drops => True
    | _ => False
  home := fun _ => True
  apart := False

theorem cycling_cycles : Scope.cycling.Cycles := ⟨trivial, trivial, trivial⟩

theorem Moves.lane_of_cycling (h : Moves Scope.cycling s t) (l : Lane) : t.lane l = s.lane l := by
  have hout (p : Part) (hp : p.ofLane l) (hin : Scope.cycling.part p) : p = .complete l := by
    cases p
    case cycle | outbound | drops => exact absurd hp id
    all_goals exact absurd hin id
  rw [h.lane_eq hout, ((Moves.framed h).complete l).resolve_left id]

/-- What naming, removal and completeness change: entries, notices, the cursor and the lanes' completeness. -/
def Scope.naming : Scope where
  part
    | .slot _ | .notices | .complete _ | .cursor => True
    | _ => False
  home := fun _ => True
  apart := False

theorem naming_names : Scope.naming.Names := { notices := trivial, complete := fun _ => trivial, cursor := trivial }

theorem Moves.lane_of_naming (h : Moves Scope.naming s t) (l : Lane) : t.lane l = { s.lane l with complete := (t.lane l).complete } := by
  have hout (p : Part) (hp : p.ofLane l) (hin : Scope.naming.part p) : p = .complete l := by
    cases p
    case complete k => exact congrArg Part.complete hp
    case slot | notices | cursor => exact absurd hp id
    all_goals exact absurd hin id
  exact h.lane_eq hout

theorem naming_arm (h : Moves Scope.naming s t) : t.arm = s.arm := by
  have hf := Moves.framed h
  have hrx := hf.receiver.resolve_left id
  have htx := hf.transmitter.resolve_left id
  have hlink := hf.link.resolve_left id
  have hrequests := hf.requests.resolve_left id
  have hout := hf.outbound.resolve_left id
  have hdrops := hf.drops.resolve_left id
  have hcounters := hf.linkCounters.resolve_left id
  rw [hdrops] at hcounters
  cases ht : t.arm
  cases hs : s.arm
  simp_all

/-! ## Completeness -/

theorem evalComplete_lane (l : Lane) (s : State) : (evalComplete l s).lane l = { s.lane l with complete := s.completeNow l } := by
  obtain ⟨heq, h⟩ | ⟨-, h⟩ := evalComplete_cases l s
  · rw [h, heq]
  · rw [h, notify_lane, modLane_lane]

theorem evalComplete_lane_other (h : k ≠ l) (s : State) : (evalComplete l s).lane k = s.lane k := by
  obtain ⟨-, heq⟩ | ⟨-, heq⟩ := evalComplete_cases l s
  · rw [heq]
  · rw [heq, notify_lane, modLane_lane_eq, if_neg h]

/-- No lane is complete while a census runs on it (R137). -/
theorem completeNow_of_run (h : (s.lane l).census.run ≠ .idle) : s.completeNow l = false := by
  simp [State.completeNow, State.censusRunning, h]

/-! ## Offers -/

/-- Frames offered while the link is UP and all have a place stand behind those that wait, in order. -/
theorem offerAll_of_room (fs : List ArmFrame) {s : State} (hup : s.arm.linkUp = true) (hroom : s.arm.outbound.length + fs.length ≤ 24) :
    offerAll fs s = modArm (fun a => { a with outbound := a.outbound ++ fs }) s := by
  induction fs generalizing s with
  | nil => simp [offerAll, modArm]
  | cons f fs ih =>
    rw [List.length_cons] at hroom
    have hoffer : offer f s = modArm (fun a => { a with outbound := a.outbound ++ [f] }) s :=
      offer_of_room hup (by omega)
    have hfirst : offerAll (f :: fs) s = offerAll fs (modArm (fun a => { a with outbound := a.outbound ++ [f] }) s) := by
      rw [← hoffer]
      rfl
    have hrest : (modArm (fun a => { a with outbound := a.outbound ++ [f] }) s).arm.outbound.length + fs.length ≤ 24 := by
      simp only [modArm, List.length_append, List.length_singleton]
      omega
    rw [hfirst, ih (by exact hup) hrest]
    simp [modArm]

/-- What frames offered change. -/
def Scope.offering : Scope where
  part
    | .outbound | .drops => True
    | _ => False
  home := fun _ => True
  apart := False

theorem offerAll_offering (fs : List ArmFrame) (s : State) : Moves Scope.offering s (offerAll fs s) :=
  offerAll_moves (A := Scope.offering) trivial trivial fs s

theorem Moves.lane_of_offering (h : Moves Scope.offering s t) (l : Lane) : t.lane l = s.lane l := by
  have hout (p : Part) (hp : p.ofLane l) (hin : Scope.offering.part p) : p = .complete l := by
    cases p
    case outbound | drops => exact absurd hp id
    all_goals exact absurd hin id
  rw [h.lane_eq hout, ((Moves.framed h).complete l).resolve_left id]

theorem refuseForward_lane (l : Lane) (why : Reason) (s : State) : (refuseForward l why s).lane l = { s.lane l with forward := [] } := by
  rw [refuseForward, (offerAll_offering ..).lane_of_offering, modLane_lane]

theorem refuseForward_lane_other (h : k ≠ l) (why : Reason) (s : State) : (refuseForward l why s).lane k = s.lane k := by
  rw [refuseForward, (offerAll_offering ..).lane_of_offering, modLane_lane_eq, if_neg h]

theorem refuseForward_of_room (why : Reason) (hup : s.arm.linkUp = true) (hroom : s.arm.outbound.length + (s.lane l).forward.length ≤ 24) :
    refuseForward l why s = modLane l (fun x => { x with forward := [] })
      (modArm (fun a => { a with outbound := a.outbound ++ (s.lane l).forward.map (ForwardRecord.refusal why) }) s) := by
  rw [refuseForward, offerAll_of_room]
  · cases l <;> rfl
  · rwa [modLane_arm]
  · rwa [modLane_arm, List.length_map]

/-! ## A due entry taken back -/

theorem due_setCursor_none (l : Lane) (i : Nat) (s : State) : (setCursor l ⟨i, none⟩ s).due l = none := by
  unfold State.due setCursor modRun modSeq
  dsimp only
  cases s.seq.run with
  | none => rfl
  | some r => cases l <;> rfl

/-- No position is asked on a lane that runs a census (R161). -/
theorem canAsk_of_run (h : (s.lane l).census.run ≠ .idle) (e : Entry) : s.canAsk l e = false := by
  by_cases he : e.lane = l
  · simp [State.canAsk, State.censusRunning, he, h]
  · simp [State.canAsk, he]

theorem OnlyCycleMoves.lane (h : OnlyCycleMoves s t) (l : Lane) : t.lane l = s.lane l := by
  obtain ⟨_, _, rfl⟩ := h
  cases l <;> rfl

theorem walkFrom_due_of_run (is : List Nat) (h : (s.lane l).census.run ≠ .idle) : (walkFrom l is s).due l = none := by
  induction is generalizing s with
  | nil => exact due_setCursor_none l _ s
  | cons i rest ih =>
    unfold walkFrom
    split
    · split
      · exact ih (by rwa [(settle_onlyCycleMoves ..).lane])
      · split
        · exact ih (by rwa [(settle_onlyCycleMoves ..).lane])
        · rw [canAsk_of_run h, if_neg (by decide)]
          exact ih (by rwa [(storeTest_onlyCycleMoves ..).lane])
    · exact ih h

theorem finishCycle_due (h : s.due l = none) : (finishCycle s).due l = none := by
  obtain heq | ⟨r, -, heq⟩ := finishCycle_cases s
  · rwa [heq]
  · rw [heq, State.due, (Moves.framed (offer_moves (A := Scope.offering) trivial trivial _ _)).cycle.resolve_left id]
    rfl

theorem takeBackDue_due (h : (s.lane l).census.run ≠ .idle) : (takeBackDue l s).due l = none := by
  unfold takeBackDue
  split
  · exact finishCycle_due (walkFrom_due_of_run _ h)
  · assumption

theorem takeBackDue_of_no_cycle (h : s.seq.run = none) : takeBackDue l s = s := by simp [takeBackDue, State.due, h]

/-! ## The start of a run -/

/-- The Census Engine with its first opening request (R69). -/
def Census.opened (c : Census) : Census :=
  match c.taken with
  | a :: _ => { c with offer := some (.taken a) }
  | [] => { c with hand := some ⟨.root, 1, [], []⟩, offer := some (.probe .root) }

theorem modCensus_congr {f g : Census → Census} (h : f (s.lane l).census = g (s.lane l).census) : modCensus l f s = modCensus l g s :=
  congrArg (fun c => s.setLane l { s.lane l with census := c }) h

theorem offerOpening_eq (l : Lane) (s : State) : offerOpening l s = modCensus l Census.opened s := by
  unfold offerOpening
  split
  · next h => exact modCensus_congr (by simp [Census.opened, h])
  · next h => exact modCensus_congr (by simp [Census.opened, h])

theorem started_run (m : CensusMode) (s : State) : ((modCensus l (Census.started m) s).lane l).census.run ≠ .idle := by
  rw [modCensus_lane]
  exact nofun

theorem takeBackDue_lane (l k : Lane) (s : State) : (takeBackDue l s).lane k = s.lane k :=
  (takeBackDue_moves cycling_cycles l s).lane_of_cycling k

/-- What an ADDITIVE start makes of its lane (R68, R69). -/
theorem startAdditive_lane (l : Lane) (s : State) : (startCensus l .additive s).lane l = { s.lane l with
    census := Census.opened { Census.started .additive (s.lane l).census with taken := (s.lane l).unaddress }
    forward := [], unaddress := [], complete := false } := by
  have htaken : (modLane l (fun x => { x with census := { x.census with taken := x.unaddress }, unaddress := [] })
      (refuseForward l .laneBusy (takeBackDue l (modCensus l (Census.started .additive) s)))).lane l =
        { s.lane l with
          census := { Census.started .additive (s.lane l).census with taken := (s.lane l).unaddress }
          forward := [], unaddress := [] } := by
    rw [modLane_lane, refuseForward_lane, takeBackDue_lane, modCensus_lane]
  unfold startCensus
  dsimp only
  rw [offerOpening_eq, modCensus_lane, evalComplete_lane, completeNow_of_run (by rw [htaken]; exact nofun), htaken]

/-- What a FRESH start makes of its lane (R68). -/
theorem startFresh_lane (l : Lane) (s : State) : (startCensus l .fresh s).lane l = { s.lane l with
    census := { Census.started .fresh (s.lane l).census with offer := some .broadcast }
    forward := [], unaddress := [], complete := false } := by
  have hremoved := (removeLane_moves naming_names (l := l) (s := takeBackDue l (modCensus l (Census.started .fresh) s))
    (fun _ _ _ _ => trivial) (fun _ _ => trivial) .recensus).lane_of_naming l
  rw [takeBackDue_lane, modCensus_lane] at hremoved
  obtain ⟨b, hb⟩ : ∃ b, (removeLane l .recensus (takeBackDue l (modCensus l (Census.started .fresh) s))).lane l =
      { s.lane l with census := Census.started .fresh (s.lane l).census, complete := b } := ⟨_, hremoved⟩
  have hlane : (modLane l (fun x => { x with unaddress := [] })
      (refuseForward l .laneBusy (removeLane l .recensus (takeBackDue l (modCensus l (Census.started .fresh) s))))).lane l =
        { s.lane l with census := Census.started .fresh (s.lane l).census, forward := [], unaddress := [], complete := b } := by
    rw [modLane_lane, refuseForward_lane, hb]
  unfold startCensus
  dsimp only
  rw [setOffer, modCensus_lane, evalComplete_lane, completeNow_of_run (by rw [hlane]; exact nofun), hlane]

/-- What either start makes of its lane. -/
theorem startCensus_run (l : Lane) (m : CensusMode) (s : State) :
    ((startCensus l m s).lane l).census.run = .running ∧ ((startCensus l m s).lane l).census.mode = some m := by
  cases m
  · rw [startFresh_lane]
    exact ⟨rfl, rfl⟩
  · rw [startAdditive_lane]
    unfold Census.opened
    dsimp only
    split <;> exact ⟨rfl, rfl⟩

end Sys2Proof.Machine
end

section
/-! PROOFS. The coupling and the ramp (O38), and the requests that start and stop a census (O29, O30). -/

namespace Sys2Proof.Machine

variable {s t : State} {l : Lane} {tag : Octet} {payload : List Octet} {rest : List Request} {row : RequestRow} {act : List Octet → State → Done}

/-! ## The qualify timer -/

/-- A lane's power when the qualify timer has followed the coupling (R24). -/
def Power.watched (now : Nat) (p : Power) : Power :=
  if p.state = .waiting then { p with timers := { p.timers with
    qualify := if p.lock = true ∧ 5000 < p.probeCurrent then some (p.timers.qualify.getD (now + 30)) else none } } else p

theorem watchCoupling_eq (l : Lane) (s : State) :
    watchCoupling l s = s.setLane l { s.lane l with power := (s.lane l).power.watched s.now } := by
  unfold watchCoupling Power.watched
  split
  · rw [modPower_eq_setLane, watchTimer_eq]
    simp [Power.coupled, Power.probeDraws, qualifyMs]
  · exact (setLane_lane_self s l).symm

theorem watchCoupling_modPower (hrun : s.resetAsserted = false) (g : Power → Power) : whenRunning (watchCoupling l) (modPower l g s) =
    s.setLane l { s.lane l with power := (g (s.lane l).power).watched s.now } := by
  rw [whenRunning_of_running (by rwa [modPower_resetAsserted]), watchCoupling_eq, modPower_lane, modPower_now, modPower_eq_setLane, setLane_setLane]

/-! ## The ramp -/

theorem exec_rampVoltageReached (hrun : s.resetAsserted = false) (hst : (s.lane l).power.state = .ramping) :
    exec (.rampVoltageReached l) s = .next (enterLaneLive l s) :=
  congrArg Host.Outcome.next ((whenRunning_of_running hrun).trans (if_pos hst))

theorem ramped_notice (l : Lane) (s : State) : notify (laneNotice l .ramped (modPower l (Power.entered .live .no s.now) s))
      (modPower l (Power.entered .live .no s.now) s) =
    notify (.lane l .live .ramped (s.lane l).power.faultCount)
      (s.setLane l { s.lane l with power := (s.lane l).power.entered .live .no s.now }) := by
  simp [laneNotice, modPower_eq_setLane]

theorem enterLaneLive_of_plain (h : (s.lane l).options.autoCensus = false) : enterLaneLive l s = evalComplete l
    (notify (.lane l .live .ramped (s.lane l).power.faultCount)
      (s.setLane l { s.lane l with power := (s.lane l).power.entered .live .no s.now })) := by
  rw [enterLaneLive]
  dsimp only
  rw [ramped_notice, if_neg (by simp [h])]

theorem enterLaneLive_of_auto (h : (s.lane l).options.autoCensus = true) : enterLaneLive l s = evalComplete l (startCensus l .fresh
    (notify (.lane l .live .ramped (s.lane l).power.faultCount)
      (s.setLane l { s.lane l with power := (s.lane l).power.entered .live .no s.now }))) := by
  rw [enterLaneLive]
  dsimp only
  rw [ramped_notice, if_pos (by simp [h])]

/-- A lane that goes LIVE keeps the part as power lets it, but for its own power. -/
theorem enterLaneLive_keepsPower (l : Lane) (s : State) :
    KeepsPower (s.setLane l { s.lane l with power := (s.lane l).power.entered .live .no s.now }) (enterLaneLive l s) := by
  cases h : (s.lane l).options.autoCensus
  · rw [enterLaneLive_of_plain h]
    exact (notify_keepsPower ..).trans (evalComplete_keepsPower ..)
  · rw [enterLaneLive_of_auto h]
    exact (notify_keepsPower ..).trans ((startCensus_keepsPower ..).trans (evalComplete_keepsPower ..))

theorem enterLaneLive_power (l : Lane) (s : State) : ((enterLaneLive l s).lane l).power = (s.lane l).power.entered .live .no s.now := by
  rw [(enterLaneLive_keepsPower l s).power, setLane_lane]

theorem transceiverOn_enterLaneLive (hrun : s.resetAsserted = false) : (enterLaneLive l s).transceiverOn l = true := by
  simp [State.transceiverOn, enterLaneLive_power, (enterLaneLive_keepsPower l s).resetAsserted, hrun]

/-- Settles O38: the qualify timer as `Power.watched`, and RAMPING left by the voltage or by its timer. -/
theorem couplingAndRamping : Obligations.CouplingAndRamping := by
  refine fun s l microamps m hrun => ⟨congrArg Host.Outcome.next (watchCoupling_modPower hrun _),
    congrArg Host.Outcome.next (watchCoupling_modPower hrun _), fun hramping hlive => ?_, fun ht hm hst => ?_, fun hst => ⟨?_, fun ht hm => ?_⟩⟩
  · have hopen : ((modPower l (fun p => { p with lock := false }) s).lane l).power.state.switched = false := by
      rw [modPower_lane]
      dsimp only
      cases h : (s.lane l).power.state
      case ramping => exact absurd h hramping
      case live => exact absurd h hlive
      all_goals rfl
    refine congrArg Host.Outcome.next (.trans ?_ (watchCoupling_modPower hrun (fun p => { p with lock := false })))
    rw [whenRunning_of_running (by rwa [modPower_resetAsserted]), whenRunning_of_running (by rwa [modPower_resetAsserted]), unlock, hopen]
    rfl
  · exact congrArg Host.Outcome.next ((onTimer_of_ranOut hrun ht hm _).trans (enterPower_of_not_live (by simp [hst]) ..))
  · refine ⟨_, exec_rampVoltageReached hrun hst, enterLaneLive_power l s, transceiverOn_enterLaneLive hrun, ?_, fun hauto => ?_, enterLaneLive_of_plain⟩
    · rw [(enterLaneLive_keepsPower l s).power, setLane_lane_other]
    · rw [enterLaneLive_of_auto hauto, evalComplete_lane, startFresh_lane]
      exact ⟨rfl, rfl, rfl⟩
  · exact congrArg Host.Outcome.next ((onTimer_of_ranOut hrun ht hm _).trans (enterFault_eq (by simp [hst]) .ramp))

/-! ## Requests whose action puts frames behind the held place -/

/-- The RESPONSE takes its held place, before the frames that the action has put behind it; else the part is as the action leaves it (R168). -/
theorem takeRequest_placed (h : s.Asked tag payload rest) (hrow : rowOf payload = row) {answer : Answer} {behind : List ArmFrame}
    (hact : actOn act payload (s.taken tag payload) = (answer, t))
    (hout : t.arm.outbound = s.arm.outbound ++ ⟨0, .response, tag, [requestCode payload, 0, 0]⟩ :: behind) :
    takeRequest row act s = { t with arm := { t.arm with outbound := s.arm.outbound ++
      ⟨0, .response, tag, requestCode payload :: octet answer.status.code :: octet t.notices.queue.length :: answer.data⟩ :: behind } } := by
  rw [takeRequest_asked h hrow, hact, placeFrame, modArm]
  dsimp only
  rw [hout, List.set_append_right _ _ (Nat.le_refl _), Nat.sub_self, List.set_cons_zero]
  rfl

theorem taken_outbound (h : s.Asked tag payload rest) :
    (s.taken tag payload).arm.outbound = s.arm.outbound ++ [⟨0, .response, tag, [requestCode payload, 0, 0]⟩] := by rw [taken_arm h]

@[simp] theorem taken_resetAsserted (s : State) (tag : Octet) (payload : List Octet) : (s.taken tag payload).resetAsserted = s.resetAsserted := rfl
@[simp] theorem taken_entry (s : State) (tag : Octet) (payload : List Octet) (j : Nat) : (s.taken tag payload).entry j = s.entry j := rfl
@[simp] theorem taken_roster (s : State) (tag : Octet) (payload : List Octet) : (s.taken tag payload).roster = s.roster := rfl
@[simp] theorem taken_linkUp (s : State) (tag : Octet) (payload : List Octet) : (s.taken tag payload).arm.linkUp = s.arm.linkUp := rfl

@[simp] theorem placed_lane (t : State) (b : ArmLink) (l : Lane) : ({ t with arm := b } : State).lane l = t.lane l := by cases l <;> rfl
@[simp] theorem placeFrame_lane (i : Nat) (f : ArmFrame) (t : State) (l : Lane) : (placeFrame i f t).lane l = t.lane l := by cases l <;> rfl

/-! ## START CENSUS -/

/-- What the steps of a start change after the due entry has been taken back and, at a FRESH one, the entries are gone. -/
def Scope.opening (l : Lane) : Scope where
  part
    | .notices | .complete _ | .outbound | .drops => True
    | .forward k | .unaddress k | .census k => k = l
    | _ => False
  home := fun _ => True
  apart := False

theorem opening_evals (l : Lane) : (Scope.opening l).Evals := ⟨trivial, fun _ => trivial⟩

/-- The part when a start has taken the due entry back. -/
def State.startedOn (s : State) (l : Lane) (m : CensusMode) : State := takeBackDue l (modCensus l (Census.started m) s)

theorem startedOn_lane (l : Lane) (m : CensusMode) (s : State) : (s.startedOn l m).lane l = { s.lane l with census := Census.started m (s.lane l).census } := by
  rw [State.startedOn, takeBackDue_lane, modCensus_lane]

theorem startedOn_lane_other {k : Lane} (h : k ≠ l) (m : CensusMode) (s : State) : (s.startedOn l m).lane k = s.lane k := by
  rw [State.startedOn, takeBackDue_lane, modCensus_lane_eq, if_neg h]

theorem startedOn_cycling (l : Lane) (m : CensusMode) (s : State) : Moves Scope.cycling (modCensus l (Census.started m) s) (s.startedOn l m) :=
  takeBackDue_moves cycling_cycles ..

theorem startedOn_of_no_cycle (h : s.seq.run = none) (m : CensusMode) : s.startedOn l m = modCensus l (Census.started m) s :=
  takeBackDue_of_no_cycle (by rwa [modCensus_seq])

theorem refuseForward_opening (l : Lane) (s : State) : Moves (Scope.opening l) s (refuseForward l .laneBusy s) :=
  refuseForward_moves (A := Scope.opening l) rfl trivial trivial _ s

theorem startFresh_opening (l : Lane) (s : State) :
    Moves (Scope.opening l) (removeLane l .recensus (s.startedOn l .fresh)) (startCensus l .fresh s) :=
  (refuseForward_opening l _).trans ((setUnaddress_moves (A := Scope.opening l) rfl []).trans
    ((evalComplete_moves (opening_evals l) l _).trans (setOffer_moves (A := Scope.opening l) rfl _ _)))

theorem startAdditive_opening (l : Lane) (s : State) : Moves (Scope.opening l) (s.startedOn l .additive) (startCensus l .additive s) :=
  (refuseForward_opening l _).trans (Relation.ReflTransGen.trans (modLane_moves (A := Scope.opening l)
      (g := fun x => { x with census := { x.census with taken := x.unaddress }, unaddress := [] })
      { LaneMove.refl l _ with unaddress := .inl rfl, census := .inl rfl })
    ((evalComplete_moves (opening_evals l) l _).trans (offerOpening_moves (A := Scope.opening l) rfl _)))

theorem removeLane_naming (l : Lane) (c : DeviceCause) (s : State) : Moves Scope.naming s (removeLane l c s) :=
  removeLane_moves naming_names (fun _ _ _ _ => trivial) (fun _ _ => trivial) c

theorem startCensus_seq (l : Lane) (m : CensusMode) (s : State) : (startCensus l m s).seq = (s.startedOn l m).seq := by
  cases m
  · exact ((startFresh_opening l s).framed.cycle.resolve_left id).trans ((removeLane_naming l _ _).framed.cycle.resolve_left id)
  · exact (startAdditive_opening l s).framed.cycle.resolve_left id

/-- No entry of the lane stays at a FRESH start. -/
theorem startFresh_entry (hsize : s.roster.length = 32) {j : Nat} {e : Entry} (h : (startCensus l .fresh s).entry j = some e) : e.lane ≠ l := by
  rw [((startFresh_opening l s).framed.slot j).resolve_left id] at h
  refine removeLane_entries l .recensus ?_ j e h
  rw [(startedOn_cycling l .fresh s).framed.rosterSize, modCensus_roster, hsize]

/-- Every entry stays at an ADDITIVE start. -/
theorem startAdditive_roster (l : Lane) (s : State) : (startCensus l .additive s).roster = s.roster := by
  have hf := (startAdditive_opening l s).framed
  have hc := (startedOn_cycling l .additive s).framed
  refine roster_ext (hf.rosterSize.trans (hc.rosterSize.trans (congrArg List.length (modCensus_roster ..)))) fun j => ?_
  rw [(hf.slot j).resolve_left id, (hc.slot j).resolve_left id, modCensus_entry]

theorem startAdditive_lane_other {k : Lane} (h : k ≠ l) (s : State) : (startCensus l .additive s).lane k = s.lane k := by
  have hstarted : (takeBackDue l (modCensus l (Census.started .additive) s)).lane k = s.lane k := startedOn_lane_other h .additive s
  unfold startCensus
  dsimp only
  rw [offerOpening_eq, modCensus_lane_eq, if_neg h, evalComplete_lane_other h, modLane_lane_eq, if_neg h, refuseForward_lane_other h, hstarted]

/-- The REFUSALs of a start, with no cycle running and room for all. -/
theorem startCensus_outbound (m : CensusMode) (hrun : s.seq.run = none) (hup : s.arm.linkUp = true)
    (hroom : s.arm.outbound.length + (s.lane l).forward.length ≤ 24) :
    (startCensus l m s).arm.outbound = s.arm.outbound ++ (s.lane l).forward.map (ForwardRecord.refusal .laneBusy) := by
  have heval (t : State) : (evalComplete l t).arm = t.arm := naming_arm (evalComplete_moves naming_names.toEvals l t)
  have hrefused {t : State} (harm : t.arm = s.arm) (hforward : (t.lane l).forward = (s.lane l).forward) :
      (refuseForward l .laneBusy t).arm.outbound = s.arm.outbound ++ (s.lane l).forward.map (ForwardRecord.refusal .laneBusy) := by
    rw [refuseForward_of_room .laneBusy (by rwa [harm]) (by rwa [harm, hforward]), modLane_arm, modArm_arm, harm, hforward]
  have harm (m : CensusMode) : (takeBackDue l (modCensus l (Census.started m) s)).arm = s.arm := by
    rw [takeBackDue_of_no_cycle (by rwa [modCensus_seq]), modCensus_arm]
  have hforward (m : CensusMode) : ((takeBackDue l (modCensus l (Census.started m) s)).lane l).forward = (s.lane l).forward := by
    rw [takeBackDue_lane, modCensus_lane]
  unfold startCensus
  cases m
  · dsimp only
    rw [setOffer, modCensus_arm, heval, modLane_arm]
    exact hrefused ((naming_arm (removeLane_naming ..)).trans (harm .fresh))
      (((removeLane_naming ..).framed.forward l).resolve_left id |>.trans (hforward .fresh))
  · dsimp only
    rw [offerOpening_eq, modCensus_arm, heval, modLane_arm]
    exact hrefused (harm .additive) (hforward .additive)

/-- The Census Engine after a start (R68, R69). -/
def Census.begun (m : CensusMode) (unaddress : List Nat) (c : Census) : Census :=
  match m with
  | .fresh => { Census.started .fresh c with offer := some .broadcast }
  | .additive => Census.opened { Census.started .additive c with taken := unaddress }

theorem startCensus_lane (l : Lane) (m : CensusMode) (s : State) : (startCensus l m s).lane l = { s.lane l with
    census := (s.lane l).census.begun m (s.lane l).unaddress
    forward := [], unaddress := [], complete := false } := by
  cases m
  · exact startFresh_lane l s
  · exact startAdditive_lane l s

/-- The first opening request of a run that has taken items over (R69). -/
def firstOpening : List Nat → CensusOffer
  | a :: _ => .taken a
  | [] => .probe ⟨0, 0⟩

theorem opened_kept (c : Census) : c.opened.run = c.run ∧ c.opened.mode = c.mode ∧ c.opened.work = c.work ∧ c.opened.found = c.found ∧
    c.opened.dups = c.dups ∧ c.opened.confirming = c.confirming ∧ c.opened.find = c.find ∧ c.opened.last = c.last := by
  unfold Census.opened
  split <;> exact ⟨rfl, rfl, rfl, rfl, rfl, rfl, rfl, rfl⟩

/-- Either start begins with zero counts and no work, and keeps the last outcome. -/
theorem begun_fields (m : CensusMode) (us : List Nat) (c : Census) : (c.begun m us).run = .running ∧ (c.begun m us).mode = some m ∧
    (c.begun m us).work = [] ∧ (c.begun m us).found = 0 ∧ (c.begun m us).dups = 0 ∧ (c.begun m us).confirming = 0 ∧ (c.begun m us).find = none ∧
    (c.begun m us).last = c.last := by
  cases m
  · exact ⟨rfl, rfl, rfl, rfl, rfl, rfl, rfl, rfl⟩
  · obtain ⟨hrun, hmode, hwork, hfound, hdups, hconfirming, hfind, hlast⟩ :=
      opened_kept { Census.started .additive c with taken := us }
    exact ⟨hrun, hmode, hwork, hfound, hdups, hconfirming, hfind, hlast⟩

theorem opened_taken (c : Census) : c.opened.taken = c.taken := by
  unfold Census.opened
  split <;> rfl

theorem opened_offer (c : Census) : c.opened.offer = some (firstOpening c.taken) := by
  unfold Census.opened
  split
  · next h => rw [h]; rfl
  · next h => rw [h]; rfl

theorem startCensus_due (l : Lane) (m : CensusMode) (s : State) : (startCensus l m s).due l = none := by
  rw [State.due, startCensus_seq]
  exact takeBackDue_due (started_run m s)

theorem actStartCensus_of_idle {m : CensusMode} (hlive : (t.lane l).power.state = .live) (hidle : (t.lane l).census.run = .idle) :
    actStartCensus [octet (laneCode l), octet (modeCode (some m))] t =
      done [octet (laneCode l), 1, octet (modeCode (some m))] (startCensus l m t) := by
  have hmode : censusModeOf (octet (modeCode (some m))) = some m := by cases m <;> rfl
  simp only [actStartCensus, laneOf_octet_laneCode, hmode]
  rw [if_neg (by simp [State.laneLive, hlive]), if_neg (by simp [State.censusRunning, hidle]), (startCensus_run l m t).1]
  rfl

/-- Settles O29: the start's lane by `startFresh_lane` and `startAdditive_lane`, its frames behind the RESPONSE by `startCensus_outbound`. -/
theorem startCensusRequest : Obligations.StartCensus := by
  intro s l m tag mode rest h hmode
  subst hmode
  have hm : censusModeOf (octet (modeCode (some m))) = some m := by cases m <;> rfl
  refine ⟨fun hlive => ?_, fun hlive hrun => ?_, fun hlive hidle hsize => ?_⟩
  · refine congrArg Host.Outcome.next (takeRequest_of_refusal h rfl ?_)
    simp [actStartCensus, hm, State.laneLive, hlive]
  · refine congrArg Host.Outcome.next (takeRequest_of_refusal h rfl ?_)
    simp [actStartCensus, hm, State.laneLive, State.censusRunning, hlive, hrun]
  · have hact := actStartCensus_of_idle (m := m) (t := s.taken tag [0x07, octet (laneCode l), octet (modeCode (some m))]) (l := l)
      (by rwa [taken_lane]) (by rwa [taken_lane])
    have hexec := takeRequest_asked h (row := .startCensus) (act := actStartCensus) rfl
    rw [actOn, hact] at hexec
    have hup : (s.taken tag [0x07, octet (laneCode l), octet (modeCode (some m))]).arm.linkUp = true := h.linkUp
    have hwaiting := taken_outbound h
    generalize hv : s.taken tag [0x07, octet (laneCode l), octet (modeCode (some m))] = v at hexec hact hup hwaiting
    have hlane (k : Lane) : v.lane k = s.lane k := by rw [← hv, taken_lane]
    have hroster : v.roster = s.roster := by rw [← hv, taken_roster]
    have hseq : v.seq = s.seq := by rw [← hv, taken_seq]
    have hstart := startCensus_lane l m v
    rw [hlane] at hstart
    obtain ⟨hrun, hmode, hwork, hfound, hdups, hconfirming, hfind, hlast⟩ := begun_fields m (s.lane l).unaddress (s.lane l).census
    have hkept := startCensus_keepsPower l m v
    dsimp only [done] at hexec
    refine ⟨_, congrArg Host.Outcome.next hexec, ?_⟩
    simp only [placeFrame_lane, hstart, hrun, hmode, hwork, hfound, hdups, hconfirming, hfind, hlast, true_and]
    refine ⟨fun k => ⟨(hkept.power k).trans (by rw [hlane]), (hkept.options k).trans (by rw [hlane])⟩, fun r hr => ?_, fun hnone hroom => ?_, ?_, ?_⟩
    · have hdue := startCensus_due l m v
      rwa [State.due, show (startCensus l m v).seq.run = some r from hr] at hdue
    · have hout : (startCensus l m v).arm.outbound = s.arm.outbound ++ ⟨0, .response, tag, [0x07, 0, 0]⟩ ::
          (s.lane l).forward.map (ForwardRecord.refusal .laneBusy) := by
        rw [startCensus_outbound m (by rwa [hseq]) hup, hwaiting, hlane, List.append_assoc]
        · rfl
        · rwa [hwaiting, hlane, List.length_append]
      have hplaced := takeRequest_placed (row := .startCensus) (act := actStartCensus)
        (answer := ⟨.ok, [octet (laneCode l), 1, octet (modeCode (some m))]⟩) h rfl (by rw [hv]; exact hact) hout
      rw [← hexec, hplaced]
      refine congrArg (fun fs => s.arm.outbound ++ _ :: fs) (List.map_congr_left fun r _ => ?_)
      cases r <;> rfl
    · rintro rfl
      refine ⟨(startAdditive_roster l v).trans hroster, (startAdditive_lane_other (otherLane_ne l) v).trans (hlane _), ?_, ?_⟩
      · exact opened_taken _
      · exact opened_offer _
    · rintro rfl
      exact ⟨fun slot e he => startFresh_entry (hroster ▸ hsize) he, rfl⟩

/-! ## STOP CENSUS -/

theorem modLane_ignoresArm (l : Lane) (g : LaneState → LaneState) : IgnoresArm (modLane l g) := by
  intro f s
  cases l <;> rfl

theorem evalComplete_ignoresArm (l : Lane) : IgnoresArm (evalComplete l) := by
  intro f s
  have hnow : (modArm f s).completeNow l = s.completeNow l := by cases l <;> rfl
  have hunsatisfied : (modArm f s).unsatisfied l = s.unsatisfied l := by cases l <;> rfl
  unfold evalComplete
  rw [hnow, hunsatisfied, modArm_lane]
  split
  · rfl
  · rw [modLane_ignoresArm, notify_ignoresArm]

theorem endCensus_ignoresArm (l : Lane) (o : CensusOutcome) : IgnoresArm (endCensus l o) := by
  intro f s
  unfold endCensus
  dsimp only
  rw [modArm_lane, modLane_ignoresArm, notify_ignoresArm, evalComplete_ignoresArm]

theorem stopCensus_ignoresArm (l : Lane) : IgnoresArm (stopCensus l) := by
  intro f s
  have hflight : (modArm f s).censusInFlight l = s.censusInFlight l := by simp only [State.censusInFlight, modArm_lane]
  unfold stopCensus
  rw [modArm_lane, hflight]
  split
  · split
    · exact modLane_ignoresArm l _ f s
    · exact endCensus_ignoresArm l .stopped f s
  · rfl
  · rfl

/-- STOP CENSUS on a lane, answered with the run state and the last outcome after it (R90, R175). -/
theorem exec_stopCensus (h : s.Asked tag [0x08, octet (laneCode l)] rest) :
    exec .stopCensus s = .next ((stopCensus l s).answered rest tag 0x08 .ok
      [octet (laneCode l), octet ((stopCensus l s).lane l).census.run.code, octet (lastOutcomeCode ((stopCensus l s).lane l).census.last)]) := by
  refine congrArg Host.Outcome.next (takeRequest_of_ignoresArm h rfl (stopCensus_ignoresArm l) ?_)
  simp only [actOn, actStopCensus, laneOf_octet_laneCode, (stopCensus_ignoresArm l).taken, taken_lane]
  rfl

theorem stopCensus_of_not_running (h : (s.lane l).census.run ≠ .running) : stopCensus l s = s := by
  unfold stopCensus
  split
  · next hrun => exact absurd hrun h
  · rfl
  · rfl

theorem stopCensus_in_flight {x : Exchange} (hrun : (s.lane l).census.run = .running) (hx : (s.lane l).exch = some x) (hsource : x.source = .census) :
    stopCensus l s = s.setLane l { s.lane l with census := { (s.lane l).census with run := .stopping } } := by
  rw [stopCensus, hrun]
  dsimp only
  rw [if_pos (by simp [State.censusInFlight, hx, hsource])]
  rfl

theorem stopCensus_waiting {x : Exchange} (hrun : (s.lane l).census.run = .running) (hx : (s.lane l).exch = some x) (hsource : x.source ≠ .census) :
    stopCensus l s = endCensus l .stopped s := by
  rw [stopCensus, hrun]
  dsimp only
  rw [if_neg (by simp [State.censusInFlight, hx, hsource])]

/-- Settles O30: the request is answered with what `stopCensus` leaves in each run state. -/
theorem stopCensusRequest : Obligations.StopCensus := by
  refine fun s l tag rest h => ⟨fun hrun => ?_, fun x hrun hx hsource => ?_, fun x hrun hx hsource => ?_⟩
  · rw [exec_stopCensus h, stopCensus_of_not_running hrun]
  · rw [exec_stopCensus h, stopCensus_in_flight hrun hx hsource, setLane_lane]
    rfl
  · rw [exec_stopCensus h, stopCensus_waiting hrun hx hsource, endCensus, evalComplete_lane, notify_lane, modLane_lane]
    rfl

end Sys2Proof.Machine
end

section
/-! PROOFS. The teardown of a lane that leaves LIVE, step by step: what each step leaves of its lane, of the other lane, of the entries and of the queues (R38). -/

namespace Sys2Proof.Machine

variable {s t : State} {l k : Lane}

/-! ## The steps -/

/-- A lane with no exchange, its receiver held in HUNT (R8). -/
def LaneState.hungUp (x : LaneState) : LaneState := { x with exch := none, rx := if x.exch.isSome then .hunt else x.rx }

theorem hungUp_of_none {x : LaneState} (h : x.exch = none) : x.hungUp = x := by
  cases x
  cases h
  rfl

/-- An exchange that is ABANDONED changes the sequencer and the outbound queue alone beside its lane. -/
theorem abandonExchange_cycling (l : Lane) (s : State) : Moves Scope.cycling (modLane l LaneState.hungUp s) (abandonExchange l s) := by
  cases hx : (s.lane l).exch with
  | none =>
    have hsame : modLane l LaneState.hungUp s = s := by rw [modLane, hungUp_of_none hx, setLane_lane_self]
    rw [hsame, abandonExchange, hx]
  | some x =>
    have hcleared : modLane l LaneState.hungUp s = clearExchange l s := by
      have hlane : (s.lane l).hungUp = { s.lane l with exch := none, rx := .hunt } := by simp [LaneState.hungUp, hx]
      rw [modLane, hlane]
      rfl
    rw [hcleared, abandonExchange, hx]
    dsimp only
    rw [abandon_eq]
    unfold toSource
    split
    · rw [censusOutcome_abandoned]
    · exact cycleOutcome_moves cycling_cycles ..
    · exact Moves.refl _
    · exact forwardAnswer_moves cycling_cycles ..
    · exact Moves.refl _
    · exact Moves.refl _

theorem abandonExchange_lane (l : Lane) (s : State) : (abandonExchange l s).lane l = (s.lane l).hungUp := by
  rw [(abandonExchange_cycling l s).lane_of_cycling, modLane_lane]

theorem abandonExchange_lane_other (h : k ≠ l) (s : State) : (abandonExchange l s).lane k = s.lane k := by
  rw [(abandonExchange_cycling l s).lane_of_cycling, modLane_lane_eq, if_neg h]

/-- The Census Engine of a lane that leaves LIVE (R91). -/
def Census.downed (c : Census) : Census := if c.run = .idle then c else c.ended .laneDown

theorem censusDown_lane (l : Lane) (s : State) : ∃ b us, (censusDown l s).lane l =
    { s.lane l with census := (s.lane l).census.downed, unaddress := us, complete := b } := by
  unfold censusDown Census.downed
  split
  · next h =>
    rw [if_neg (by simpa [State.censusRunning] using h), endCensus, evalComplete_lane, notify_lane, modLane_lane]
    exact ⟨_, _, rfl⟩
  · next h =>
    rw [if_pos (by simpa [State.censusRunning] using h)]
    exact ⟨_, _, rfl⟩

/-- The part before the entries of its lane are removed. -/
def State.emptied (s : State) (l : Lane) : State :=
  discardSupervision l (refuseForward l .departed (censusDown l (takeBackDue l (abandonExchange l s))))

theorem teardown_eq (l : Lane) (s : State) : teardown l s = removeLane l .laneDown (s.emptied l) := rfl

theorem discardSupervision_lane (l : Lane) (s : State) : (discardSupervision l s).lane l = { s.lane l with unaddress := [] } := by
  cases l <;> rfl

theorem discardSupervision_lane_other (h : k ≠ l) (s : State) : (discardSupervision l s).lane k = s.lane k := by
  cases l <;> cases k
  case a.a | b.b => exact absurd rfl h
  all_goals rfl

theorem emptied_lane (l : Lane) (s : State) : ∃ b, (s.emptied l).lane l =
    { (s.lane l).hungUp with census := (s.lane l).census.downed, forward := [], unaddress := [], complete := b } := by
  obtain ⟨b, us, hdown⟩ := censusDown_lane l (takeBackDue l (abandonExchange l s))
  rw [takeBackDue_lane, abandonExchange_lane] at hdown
  refine ⟨b, ?_⟩
  rw [State.emptied, discardSupervision_lane, refuseForward_lane, hdown]
  rfl

/-- What a teardown changes beside the entries: the other lane keeps all but its completeness. -/
def Scope.emptying (l : Lane) : Scope where
  part
    | .exchange k | .census k | .unaddress k | .forward k => k = l
    | .notices | .complete _ | .cycle | .outbound | .drops => True
    | _ => False
  home := fun _ => True
  apart := False

/-- The entries that a teardown may change: those of the lane, and HELD ones. -/
def State.tearsSlot (s : State) (l : Lane) (j : Nat) : Prop := (∃ e, s.entry j = some e ∧ e.lane = l) ∨ s.slotHeld j = true

/-- What a teardown of a lane changes. -/
def Scope.tearing (l : Lane) (s : State) : Scope where
  part
    | .exchange k | .census k | .unaddress k | .forward k => k = l
    | .notices | .complete _ | .cycle | .outbound | .drops | .cursor => True
    | .slot j => s.tearsSlot l j
    | _ => False
  home := fun _ => True
  apart := False

theorem tearing_names (l : Lane) (s : State) : (Scope.tearing l s).Names := { notices := trivial, complete := fun _ => trivial, cursor := trivial }

theorem tearing_cycles (l : Lane) (s : State) : (Scope.tearing l s).Cycles := ⟨trivial, trivial, trivial⟩

theorem hushed_other {e : Entry} (h : e.lane ≠ l) : e.hushed l = e := if_neg h

theorem discardSupervision_tearing (hsame : ∀ j, t.entry j = s.entry j) : Moves (Scope.tearing l s) t (discardSupervision l t) := by
  refine (Moves.one (.roster (t.roster.map (Option.map (Entry.hushed l))) ⟨by simp, fun j => ?_⟩)).trans
    (setUnaddress_moves (A := Scope.tearing l s) rfl [])
  rw [entry_hushed]
  cases he : t.entry j with
  | none => exact .inl rfl
  | some e =>
    by_cases hl : e.lane = l
    · refine .inr ⟨.inl ⟨e, (hsame j).symm.trans he, hl⟩, .inr ⟨e, e.hushed l, rfl, rfl, ?_⟩⟩
      unfold Entry.hushed
      split <;> exact ⟨rfl, rfl⟩
    · exact .inl (congrArg some (hushed_other hl))

/-- The steps before supervision's work is discarded leave every entry. -/
def State.refusedOn (s : State) (l : Lane) : State := refuseForward l .departed (censusDown l (takeBackDue l (abandonExchange l s)))

theorem emptied_eq (s : State) (l : Lane) : s.emptied l = discardSupervision l (s.refusedOn l) := rfl

theorem emptying_evals (l : Lane) : (Scope.emptying l).Evals := ⟨trivial, fun _ => trivial⟩

theorem refusedOn_entry (s : State) (l : Lane) (j : Nat) : (s.refusedOn l).entry j = s.entry j := by
  have hdown (t : State) : (censusDown l t).entry j = t.entry j :=
    ((censusDown_moves (A := Scope.emptying l) (emptying_evals l) rfl rfl t).framed.slot j).resolve_left id
  have habandon : (abandonExchange l s).entry j = s.entry j :=
    (((abandonExchange_cycling l s).framed.slot j).resolve_left id).trans (modLane_entry ..)
  have hback : (takeBackDue l (abandonExchange l s)).entry j = (abandonExchange l s).entry j :=
    ((takeBackDue_moves cycling_cycles ..).framed.slot j).resolve_left id
  have hrefuse (t : State) : (refuseForward l .departed t).entry j = t.entry j :=
    ((refuseForward_moves (A := Scope.emptying l) rfl trivial trivial .departed t).framed.slot j).resolve_left id
  rw [State.refusedOn, hrefuse, hdown, hback, habandon]

theorem emptied_entry (s : State) (l : Lane) (j : Nat) : (s.emptied l).entry j = (s.entry j).map (Entry.hushed l) := by
  rw [emptied_eq, discardSupervision]
  refine (modLane_entry ..).trans ((entry_hushed ..).trans ?_)
  rw [refusedOn_entry]

theorem teardown_tearing (l : Lane) (s : State) : Moves (Scope.tearing l s) s (teardown l s) := by
  have hrefused : Moves (Scope.tearing l s) s (s.refusedOn l) :=
    (abandonExchange_moves (A := Scope.tearing l s) rfl (tearing_cycles l s) s).trans ((takeBackDue_moves (tearing_cycles l s) ..).trans ((censusDown_moves (A := Scope.tearing l s) (tearing_names l s).toEvals rfl rfl _).trans
      (refuseForward_moves (A := Scope.tearing l s) rfl trivial trivial .departed _)))
  refine hrefused.trans ((discardSupervision_tearing (refusedOn_entry s l)).trans
    (removeLane_moves (tearing_names l s) (fun j e he hl => ?_) (fun j hj => ?_) .laneDown))
  · rw [← emptied_eq, emptied_entry] at he
    obtain ⟨f, hf, rfl⟩ := Option.map_eq_some_iff.mp he
    refine .inl ⟨f, hf, ?_⟩
    rwa [Entry.hushed, apply_ite Entry.lane, ite_self] at hl
  · refine .inr ?_
    rw [← emptied_eq, State.slotHeld, emptied_entry] at hj
    rw [State.slotHeld]
    cases he : s.entry j with
    | none => rw [he] at hj; cases hj
    | some e =>
      have hst : (e.hushed l).state = e.state := by rw [Entry.hushed, apply_ite Entry.state, ite_self]
      rw [he] at hj
      change ((e.hushed l).state == .held) = true at hj
      rwa [hst] at hj

/-! ## What is left -/

/-- A lane that has left LIVE (R38). -/
def LaneState.tornDown (x : LaneState) : LaneState :=
  { x.hungUp with census := x.census.downed, forward := [], unaddress := [], complete := false }

theorem teardown_lane (hlive : (s.lane l).power.state ≠ .live) (hdark : (s.lane l).complete = false) :
    (teardown l s).lane l = (s.lane l).tornDown := by
  obtain ⟨b, hb⟩ := emptied_lane l s
  have hremoved := (removeLane_naming l .laneDown (s.emptied l)).lane_of_naming l
  rw [← teardown_eq, (teardown_tearing l s).dark id hlive hdark, hb] at hremoved
  exact hremoved

theorem teardown_lane_other (h : k ≠ l) (s : State) : (teardown l s).lane k = { s.lane k with complete := ((teardown l s).lane k).complete } := by
  have hout (p : Part) (hp : p.ofLane k) (hin : (Scope.tearing l s).part p) : p = .complete k := by
    cases p
    case complete => exact congrArg Part.complete hp
    case exchange | census | unaddress | forward => exact absurd (hp.symm.trans hin) h
    case notices | cycle | outbound | drops | cursor | slot => exact absurd hp id
    all_goals exact absurd hin id
  exact (teardown_tearing l s).lane_eq hout

/-- An entry of the other lane that is not HELD stays (R38). -/
theorem teardown_entry {slot : Nat} {e : Entry} (he : s.entry slot = some e) (hl : e.lane ≠ l) (hheld : e.state ≠ .held) :
    (teardown l s).entry slot = some e := by
  refine (((teardown_tearing l s).framed.slot slot).resolve_left ?_).trans he
  rintro (⟨f, hf, hfl⟩ | hslot)
  · rw [he] at hf
    cases hf
    exact hl hfl
  · rw [State.slotHeld, he] at hslot
    exact hheld (by simpa using hslot)

theorem teardown_gone (hsize : s.roster.length = 32) {slot : Nat} {e : Entry} (he : (teardown l s).entry slot = some e) : e.lane ≠ l :=
  (teardown_bare l hsize).entries slot e he

/-! ## A LIVE lane that enters another power state -/

/-- The part when a LIVE lane has entered another power state, and its completeness has been evaluated (R137). -/
def State.darkened (s : State) (l : Lane) (st : PowerState) (cause : LaneCause) (dp : DisablePending) : State :=
  evalComplete l (notify (.lane l st cause (s.lane l).power.faultCount) (s.setLane l { s.lane l with power := (s.lane l).power.entered st dp s.now }))

theorem enterPower_of_live (h : (s.lane l).power.state = .live) (st : PowerState) (cause : LaneCause) (dp : DisablePending) :
    enterPower l st cause dp s = teardown l (s.darkened l st cause dp) := by
  simp [enterPower, leaveLive, h, laneNotice, modPower_eq_setLane, State.darkened]

variable {st : PowerState} {cause : LaneCause} {dp : DisablePending}

theorem darkened_lane (hst : st ≠ .live) : (s.darkened l st cause dp).lane l =
    { s.lane l with power := (s.lane l).power.entered st dp s.now, complete := false } := by
  have hdark : (notify (.lane l st cause (s.lane l).power.faultCount)
      (s.setLane l { s.lane l with power := (s.lane l).power.entered st dp s.now })).completeNow l = false := by
    simp [State.completeNow, State.laneLive, hst]
  rw [State.darkened, evalComplete_lane, hdark, notify_lane, setLane_lane]

theorem darkened_lane_other (h : k ≠ l) : (s.darkened l st cause dp).lane k = s.lane k := by
  rw [State.darkened, evalComplete_lane_other h, notify_lane, eq_otherLane h, setLane_lane_other]

theorem darkened_naming (s : State) (l : Lane) (st : PowerState) (cause : LaneCause) (dp : DisablePending) : Moves Scope.naming
    (s.setLane l { s.lane l with power := (s.lane l).power.entered st dp s.now }) (s.darkened l st cause dp) :=
  (notify_moves naming_names.notices ..).trans (evalComplete_moves naming_names.toEvals ..)

theorem darkened_entry (j : Nat) : (s.darkened l st cause dp).entry j = s.entry j := by
  have heval (t : State) : (evalComplete l t).entry j = t.entry j :=
    ((evalComplete_moves (emptying_evals l) l t).framed.slot j).resolve_left id
  rw [State.darkened, heval, notify_entry]
  cases l <;> rfl

theorem darkened_rosterSize : (s.darkened l st cause dp).roster.length = s.roster.length := by
  rw [(darkened_naming s l st cause dp).framed.rosterSize]
  cases l <;> rfl

theorem leave_lane (hlive : (s.lane l).power.state = .live) (hst : st ≠ .live) : (enterPower l st cause dp s).lane l =
    { (s.lane l).tornDown with power := (s.lane l).power.entered st dp s.now } := by
  rw [enterPower_of_live hlive, teardown_lane]
  all_goals rw [darkened_lane hst]
  · rfl
  · exact hst

theorem leave_lane_other (hlive : (s.lane l).power.state = .live) (h : k ≠ l) : (enterPower l st cause dp s).lane k =
    { s.lane k with complete := ((enterPower l st cause dp s).lane k).complete } := by
  rw [enterPower_of_live hlive]
  refine (teardown_lane_other h _).trans ?_
  rw [darkened_lane_other h]

theorem leave_entry (hlive : (s.lane l).power.state = .live) {slot : Nat} {e : Entry} (he : s.entry slot = some e) (hl : e.lane ≠ l)
    (hheld : e.state ≠ .held) : (enterPower l st cause dp s).entry slot = some e := by
  rw [enterPower_of_live hlive]
  exact teardown_entry ((darkened_entry slot).trans he) hl hheld

theorem leave_gone (hlive : (s.lane l).power.state = .live) (hsize : s.roster.length = 32) {slot : Nat} {e : Entry}
    (he : (enterPower l st cause dp s).entry slot = some e) : e.lane ≠ l := by
  rw [enterPower_of_live hlive] at he
  exact teardown_gone (darkened_rosterSize.trans hsize) he

/-- A run that was going ends LANE_DOWN (R91). -/
theorem downed_last {c : Census} (h : c.run ≠ .idle) : c.downed.last = some .laneDown := by
  rw [Census.downed, if_neg h]
  rfl

theorem downed_run (c : Census) : c.downed.run = .idle := by
  unfold Census.downed
  split
  · assumption
  · rfl

theorem enterPower_nameMap (l : Lane) (st : PowerState) (cause : LaneCause) (dp : DisablePending) (s : State) :
    (enterPower l st cause dp s).nameMap = s.nameMap ∧ (enterPower l st cause dp s).profiles = s.profiles := by
  have hk := leaveLive_keepsPower (l := l) (st := (s.lane l).power.state) (teardown_keepsPower l)
    (notify (laneNotice l cause (modPower l (Power.entered st dp s.now) s)) (modPower l (Power.entered st dp s.now) s))
  have hn := notify_keepsPower (laneNotice l cause (modPower l (Power.entered st dp s.now) s)) (modPower l (Power.entered st dp s.now) s)
  exact ⟨(hk.nameMap.trans hn.nameMap).trans (modPower_nameMap ..), (hk.profiles.trans hn.profiles).trans (modPower_profiles ..)⟩

end Sys2Proof.Machine
end

section
/-! PROOFS. DISABLE and the current limit (O26, O28), and the lane current with its masks (O40): what an entry brings on a lane that is not LIVE, and the teardown of one
that is. -/

namespace Sys2Proof.Machine

variable {s t : State} {l : Lane} {tag limit : Octet} {rest : List Request} {row : RequestRow} {action : Lane → State → State}

/-! ## LANE CONTROL whose action looks at no more than the lane -/

/-- An entry to a power state with nothing to tear down (R20, R40). -/
def enterQuietly (l : Lane) (st : PowerState) (cause : LaneCause) (dp : DisablePending) (s : State) : State :=
  notify (.lane l st cause (s.lane l).power.faultCount) (s.setLane l { s.lane l with power := (s.lane l).power.entered st dp s.now })

theorem enterQuietly_ignoresArm (l : Lane) (st : PowerState) (cause : LaneCause) (dp : DisablePending) : IgnoresArm (enterQuietly l st cause dp) := by
  intro g s
  unfold enterQuietly
  rw [modArm_lane, modArm_now, setLane_modArm, notify_ignoresArm]

theorem enterPower_eq_quietly (h : (s.lane l).power.state ≠ .live) (st : PowerState) (cause : LaneCause) (dp : DisablePending) :
    enterPower l st cause dp s = enterQuietly l st cause dp s := enterPower_of_not_live h st cause dp

theorem laneReport_enterQuietly (l : Lane) (st : PowerState) (cause : LaneCause) (dp : DisablePending) (s : State) :
    (enterQuietly l st cause dp s).laneReport l = [octet (laneCode l), octet st.code, octet (lastFaultCode (s.lane l).power.lastFault),
      octet (s.lane l).power.faultCount, octet (s.lane l).power.limit] := by
  rw [enterQuietly, laneReport_notify, laneReport_setLane]
  rfl

theorem laneControl_plain {a : Octet} (ha : a.toNat ≤ 3) (action : Lane → State → State) (t : State) :
    laneControl action [octet (laneCode l), a] t = done ((action l t).laneReport l) (action l t) := by
  simp [laneControl, Nat.not_lt.mpr ha]

theorem laneControl_limited {a : Octet} (ha : a.toNat ≤ 3) (action : Lane → State → State) (t : State) :
    laneControl action [octet (laneCode l), a, limit] t = doneClamped (t.limitClamped limit.toNat)
      ((action l (applyLimit l limit.toNat t)).laneReport l) (action l (applyLimit l limit.toNat t)) := by
  simp [laneControl, Nat.not_lt.mpr ha]

/-- LANE CONTROL without a limit, whose action comes to one that does not look at the arm link. -/
theorem takeRequest_laneControl_as {a : Octet} (h : s.Asked tag [0x03, octet (laneCode l), a] rest) (hrow : rowOf [0x03, octet (laneCode l), a] = row)
    (ha : a.toNat ≤ 3) {f : State → State} (hf : IgnoresArm f)
    (haction : action l (s.taken tag [0x03, octet (laneCode l), a]) = f (s.taken tag [0x03, octet (laneCode l), a])) :
    takeRequest row (laneControl action) s = (f s).answered rest tag 0x03 .ok ((f s).laneReport l) := by
  refine takeRequest_of_ignoresArm h hrow hf ((laneControl_plain ha action _).trans ?_)
  rw [haction, hf.taken, laneReport_taken]
  rfl

/-- The same with a limit, which is applied first (R36, R172). -/
theorem takeRequest_limited_as {a : Octet} (h : s.Asked tag [0x03, octet (laneCode l), a, limit] rest)
    (hrow : rowOf [0x03, octet (laneCode l), a, limit] = row) (ha : a.toNat ≤ 3) {f : State → State} (hf : IgnoresArm f)
    (haction : action l (applyLimit l limit.toNat (s.taken tag [0x03, octet (laneCode l), a, limit])) =
      f (s.taken tag [0x03, octet (laneCode l), a, limit])) :
    takeRequest row (laneControl action) s =
      (f s).answered rest tag 0x03 (if s.limitClamped limit.toNat then .clamped else .ok) ((f s).laneReport l) := by
  refine takeRequest_of_ignoresArm h hrow hf ((laneControl_limited ha action _).trans ?_)
  rw [haction, hf.taken, laneReport_taken]
  rfl

/-! ## DISABLE -/

theorem disableLane_of_off (h : (s.lane l).power.state = .off) : disableLane l s = s := by rw [disableLane, h]

theorem disableLane_of_open (h : (s.lane l).power.state = .waiting ∨ (s.lane l).power.state = .fault ∨ (s.lane l).power.state = .latched) :
    disableLane l s = enterQuietly l .off .disabled .no s := by
  have hquiet : enterPower l .off .disabled .no s = enterQuietly l .off .disabled .no s :=
    enterPower_eq_quietly (by rcases h with h | h | h <;> simp [h]) ..
  rcases h with h | h | h
  all_goals rw [disableLane, h, ← hquiet]

theorem disableLane_of_ramping (h : (s.lane l).power.state = .ramping) : disableLane l s = enterQuietly l .discharging .disabled .disable s := by
  rw [disableLane, h, ← enterPower_eq_quietly (by simp [h])]

theorem disableLane_of_live (h : (s.lane l).power.state = .live) : disableLane l s = enterPower l .discharging .disabled .disable s := by
  rw [disableLane, h]

theorem disableLane_of_discharging (h : (s.lane l).power.state = .discharging) : disableLane l s =
    modPower l (fun p => { p with disablePending := if p.disablePending = .reset then .reset else .disable }) s := by
  rw [disableLane, h]

/-- Settles O26: `disableLane` by the state it meets; from LIVE the teardown, by the lemmas on a lane that leaves LIVE. -/
theorem laneControlDisable : Obligations.LaneControlDisable := by
  intro s l tag rest h
  have hquiet {f : State → State} (hf : IgnoresArm f) (haction : ∀ t : State, (t.lane l).power.state = (s.lane l).power.state → disableLane l t = f t) :
      exec .laneControlDisable s = .next ((f s).answered rest tag 0x03 .ok ((f s).laneReport l)) :=
    congrArg Host.Outcome.next (takeRequest_laneControl_as h rfl (by decide) hf (haction _ (by rw [taken_lane])))
  refine ⟨fun hst => ?_, fun hst => ?_, fun hst => ?_, fun hst => ?_, fun hst hsize => ?_⟩
  · exact hquiet id_ignoresArm fun t ht => disableLane_of_off (ht.trans hst)
  · rw [hquiet (enterQuietly_ignoresArm l .off .disabled .no) fun t ht => disableLane_of_open (ht ▸ hst), laneReport_enterQuietly]
    rfl
  · rw [hquiet (enterQuietly_ignoresArm l .discharging .disabled .disable) fun t ht => disableLane_of_ramping (ht.trans hst),
      laneReport_enterQuietly]
    rfl
  · rw [hquiet (modPower_ignoresArm l _) fun t ht => disableLane_of_discharging (ht.trans hst), modPower_eq_setLane, laneReport_setLane]
  · have hexec := takeRequest_asked h (row := .laneControlDisable) (act := laneControl disableLane) rfl
    have hact (t : State) : (actOn (laneControl disableLane) [0x03, octet (laneCode l), 2] t).2 = disableLane l t :=
      congrArg Prod.snd (laneControl_plain (by decide) disableLane t)
    rw [hact, disableLane_of_live (by rwa [taken_lane])] at hexec
    have hlive : ((s.taken tag [0x03, octet (laneCode l), 2]).lane l).power.state = .live := by rwa [taken_lane]
    have hlane := leave_lane (st := .discharging) (cause := .disabled) (dp := .disable) hlive (by decide)
    have hother := leave_lane_other (st := .discharging) (cause := .disabled) (dp := .disable) hlive (otherLane_ne l)
    rw [taken_lane] at hlane hother
    obtain ⟨hmap, hprofiles⟩ := enterPower_nameMap l .discharging .disabled .disable (s.taken tag [0x03, octet (laneCode l), 2])
    refine ⟨_, congrArg Host.Outcome.next hexec, ?_⟩
    simp only [placeFrame_lane]
    rw [hlane, hother]
    exact ⟨rfl, rfl, rfl, downed_run _, rfl, rfl, fun slot e he => leave_gone hlive hsize he, fun slot e he hl hheld => leave_entry hlive he hl hheld,
      rfl, hprofiles, hmap⟩

/-! ## A requested limit -/

/-- The limit that a request asks for, after clamping (R36). -/
def State.limitOf (s : State) (steps : Nat) : Nat := clampLimit (ceilingOf s.strap) steps

theorem limitOf_of_strap (h : t.strap = s.strap) (steps : Nat) : t.limitOf steps = s.limitOf steps :=
  congrArg (fun code => clampLimit (ceilingOf code) steps) h

theorem limitStatus (s : State) (steps : Nat) :
    (if s.limitClamped steps then Status.clamped else .ok) = if s.limitOf steps = steps then .ok else .clamped := by
  by_cases h : s.limitOf steps = steps
  · rw [if_pos h, if_neg (by simpa [State.limitClamped, State.limitOf] using h)]
  · rw [if_neg h, if_pos (by simpa [State.limitClamped, State.limitOf] using h)]

theorem switched_eq_false {st : PowerState} (hramping : st ≠ .ramping) (hlive : st ≠ .live) : st.switched = false := by
  cases st
  case ramping => exact absurd rfl hramping
  case live => exact absurd rfl hlive
  all_goals rfl

theorem switched_eq_true {st : PowerState} (h : st = .ramping ∨ st = .live) : st.switched = true := by rcases h with rfl | rfl <;> rfl

theorem compareCurrent_of_open (h : (s.lane l).power.state.switched = false) : compareCurrent l s = s := by
  rw [compareCurrent, h]
  rfl

/-- The overcurrent mask follows the limit (R29). -/
def Power.masked (now : Nat) (p : Power) : Power := { p with timers := { p.timers with
  overcurrent := if 100000 * p.limit ≤ p.laneCurrent then some (p.timers.overcurrent.getD (now + 2)) else none } }

theorem shorted_iff (p : Power) : p.shorted = true ↔ 200000 * p.limit ≤ p.laneCurrent := by
  rw [Power.shorted, Power.limitMicroamps, decide_eq_true_iff]
  omega

theorem masked_of_low {p : Power} (h : p.laneCurrent < 100000 * p.limit) (now : Nat) :
    p.masked now = { p with timers := { p.timers with overcurrent := none } } := by
  rw [Power.masked, if_neg (Nat.not_le.mpr h)]

theorem masked_of_high {p : Power} (h : 100000 * p.limit ≤ p.laneCurrent) (now : Nat) :
    p.masked now = { p with timers := { p.timers with overcurrent := some (p.timers.overcurrent.getD (now + 2)) } } := by
  rw [Power.masked, if_pos h]

theorem compareCurrent_of_closed (h : (s.lane l).power.state.switched = true) (hcurrent : (s.lane l).power.laneCurrent < 200000 * (s.lane l).power.limit) :
    compareCurrent l s = modPower l (Power.masked s.now) s := by
  rw [compareCurrent, if_pos h, if_neg (fun hshort => absurd ((shorted_iff _).mp hshort) (Nat.not_le.mpr hcurrent))]
  rw [modPower_eq_setLane, modPower_eq_setLane, watchTimer_eq]
  simp [Power.masked, Power.overLimit, Power.limitMicroamps, overcurrentMs, Nat.mul_comm]

theorem compareCurrent_of_short (h : (s.lane l).power.state.switched = true) (hcurrent : 200000 * (s.lane l).power.limit ≤ (s.lane l).power.laneCurrent) :
    compareCurrent l s = enterFault l .short s := by
  rw [compareCurrent, if_pos h, if_pos ((shorted_iff _).mpr hcurrent)]

/-- A lane's power with another limit. -/
def Power.withLimit (n : Nat) (p : Power) : Power := { p with limit := n }

theorem applyLimit_eq (l : Lane) (steps : Nat) (s : State) : applyLimit l steps s = compareCurrent l (modPower l (Power.withLimit (s.limitOf steps)) s) := rfl

theorem applyLimit_of_open (hramping : (s.lane l).power.state ≠ .ramping) (hlive : (s.lane l).power.state ≠ .live) (steps : Nat) :
    applyLimit l steps s = modPower l (Power.withLimit (s.limitOf steps)) s := by
  rw [applyLimit_eq, compareCurrent_of_open (by rw [modPower_lane]; exact switched_eq_false hramping hlive)]

theorem modPower_modPower (l : Lane) (f g : Power → Power) (s : State) : modPower l f (modPower l g s) = modPower l (fun p => f (g p)) s := by
  cases l <;> rfl

theorem applyLimit_of_closed (h : (s.lane l).power.state = .ramping ∨ (s.lane l).power.state = .live) {steps : Nat}
    (hcurrent : (s.lane l).power.laneCurrent < 200000 * s.limitOf steps) :
    applyLimit l steps s = modPower l (fun p => (p.withLimit (s.limitOf steps)).masked s.now) s := by
  rw [applyLimit_eq, compareCurrent_of_closed (by rw [modPower_lane]; exact switched_eq_true h) (by rw [modPower_lane]; exact hcurrent),
    modPower_modPower, modPower_now]

theorem applyLimit_of_short (h : (s.lane l).power.state = .ramping ∨ (s.lane l).power.state = .live) {steps : Nat}
    (hcurrent : 200000 * s.limitOf steps ≤ (s.lane l).power.laneCurrent) :
    applyLimit l steps s = enterFault l .short (modPower l (Power.withLimit (s.limitOf steps)) s) := by
  rw [applyLimit_eq, compareCurrent_of_short (by rw [modPower_lane]; exact switched_eq_true h) (by rw [modPower_lane]; exact hcurrent)]

theorem enterQuietly_modPower (l : Lane) (st : PowerState) (cause : LaneCause) (dp : DisablePending) (g : Power → Power) (s : State) :
    enterQuietly l st cause dp (modPower l g s) = notify (.lane l st cause (g (s.lane l).power).faultCount)
      (s.setLane l { s.lane l with power := (g (s.lane l).power).entered st dp s.now }) := by
  rw [enterQuietly, modPower_lane, modPower_now, modPower_eq_setLane, setLane_setLane]

/-- An action with a limit that comes to a change of the lane's power alone. -/
theorem exec_limited_power {a : Octet} (h : s.Asked tag [0x03, octet (laneCode l), a, limit] rest)
    (hrow : rowOf [0x03, octet (laneCode l), a, limit] = row) (ha : a.toNat ≤ 3) {g : Power → Power}
    (haction : ∀ t : State, t.strap = s.strap → t.now = s.now → t.overTemp = s.overTemp → t.lane l = s.lane l →
      action l (applyLimit l limit.toNat t) = modPower l g t) :
    takeRequest row (laneControl action) s = (s.setLane l { s.lane l with power := g (s.lane l).power }).answered rest tag 0x03
      (if s.limitOf limit.toNat = limit.toNat then .ok else .clamped)
      [octet (laneCode l), octet (g (s.lane l).power).state.code, octet (lastFaultCode (g (s.lane l).power).lastFault),
        octet (g (s.lane l).power).faultCount, octet (g (s.lane l).power).limit] := by
  rw [takeRequest_limited_as h hrow ha (modPower_ignoresArm l g) (haction _ rfl rfl rfl (taken_lane ..)), limitStatus, modPower_eq_setLane,
    laneReport_setLane]

/-- An action with a limit that comes to an entry with nothing to tear down. -/
theorem exec_limited_entry {a : Octet} (h : s.Asked tag [0x03, octet (laneCode l), a, limit] rest)
    (hrow : rowOf [0x03, octet (laneCode l), a, limit] = row) (ha : a.toNat ≤ 3) {g : Power → Power} {st : PowerState} {cause : LaneCause}
    {dp : DisablePending} (haction : ∀ t : State, t.strap = s.strap → t.now = s.now → t.overTemp = s.overTemp → t.lane l = s.lane l →
      action l (applyLimit l limit.toNat t) = enterQuietly l st cause dp (modPower l g t)) :
    takeRequest row (laneControl action) s = (notify (.lane l st cause (g (s.lane l).power).faultCount)
        (s.setLane l { s.lane l with power := (g (s.lane l).power).entered st dp s.now })).answered rest tag 0x03
      (if s.limitOf limit.toNat = limit.toNat then .ok else .clamped)
      [octet (laneCode l), octet st.code, octet (lastFaultCode (g (s.lane l).power).lastFault),
        octet (g (s.lane l).power).faultCount, octet (g (s.lane l).power).limit] := by
  rw [takeRequest_limited_as h hrow ha ((enterQuietly_ignoresArm l st cause dp).comp (modPower_ignoresArm l g)) (haction _ rfl rfl rfl (taken_lane ..)),
    limitStatus, laneReport_enterQuietly, enterQuietly_modPower, modPower_lane]

theorem exec_laneControlNone_of_short (h : s.Asked tag [0x03, octet (laneCode l), 0, limit] rest)
    (hst : (s.lane l).power.state = .ramping ∨ (s.lane l).power.state = .live)
    (hcurrent : 200000 * s.limitOf limit.toNat ≤ (s.lane l).power.laneCurrent) :
    ∃ t, exec .laneControlNone s = .next t ∧ (t.lane l).power = ((s.lane l).power.withLimit (s.limitOf limit.toNat)).tripped .short s.now ∧
      (t.lane (otherLane l)).power = (s.lane (otherLane l)).power := by
  have hexec := takeRequest_asked h (row := .laneControlNone) (act := laneControl (fun _ s => s)) rfl
  have hact (t : State) : (actOn (laneControl (fun _ s => s)) [0x03, octet (laneCode l), 0, limit] t).2 = applyLimit l limit.toNat t :=
    congrArg Prod.snd (laneControl_limited (by decide) (fun _ s => s) t)
  rw [hact, applyLimit_of_short (by rwa [taken_lane]) (by rwa [taken_lane])] at hexec
  refine ⟨_, congrArg Host.Outcome.next hexec, ?_, ?_⟩
  · rw [placeFrame_lane, enterFault_power, modPower_lane, taken_lane, modPower_now]
    rfl
  · rw [placeFrame_lane, (enterFault_moves (powerOf_powers l) .short _).otherPower (otherLane_ne l), modPower_lane_other, taken_lane]

/-- Settles O28: the clamped limit by `applyLimit` in each state, and the action after it. -/
theorem requestedLimit : Obligations.RequestedLimit := by
  intro s l tag limit rest
  refine ⟨fun h => ?_, fun h => ⟨fun hramping hlive => ?_, fun hst => ⟨fun hlow => ?_, fun hmid hlow => ?_, fun hshort => ?_⟩⟩,
    fun h => ⟨fun hst hcool => ?_, fun hoff hramping hlive => ?_⟩, fun h hst => ?_, fun h hst hcool => ?_⟩
  · exact congrArg Host.Outcome.next (takeRequest_laneControl_as (action := fun _ s => s) h rfl (by decide) id_ignoresArm rfl)
  · refine congrArg Host.Outcome.next (exec_limited_power (action := fun _ s => s) h rfl (by decide) (g := Power.withLimit (s.limitOf limit.toNat))
      fun t hstrap _ _ hlane => ?_)
    rw [applyLimit_of_open (by rwa [hlane]) (by rwa [hlane]), limitOf_of_strap hstrap]
  · refine congrArg Host.Outcome.next ((exec_limited_power (action := fun _ s => s) h rfl (by decide)
      (g := fun p => (p.withLimit (s.limitOf limit.toNat)).masked s.now) fun t hstrap hnow _ hlane => ?_).trans ?_)
    · have hn := limitOf_of_strap hstrap limit.toNat
      rw [applyLimit_of_closed (by rwa [hlane]) (by rw [hlane, hn]; exact hlow.trans_le (Nat.mul_le_mul_right _ (by decide))), hn, hnow]
    · rw [masked_of_low (p := (s.lane l).power.withLimit (s.limitOf limit.toNat)) hlow]
      rfl
  · refine congrArg Host.Outcome.next ((exec_limited_power (action := fun _ s => s) h rfl (by decide)
      (g := fun p => (p.withLimit (s.limitOf limit.toNat)).masked s.now) fun t hstrap hnow _ hlane => ?_).trans ?_)
    · have hn := limitOf_of_strap hstrap limit.toNat
      rw [applyLimit_of_closed (by rwa [hlane]) (by rw [hlane, hn]; exact hlow), hn, hnow]
    · rw [masked_of_high (p := (s.lane l).power.withLimit (s.limitOf limit.toNat)) hmid]
      rfl
  · obtain ⟨t, hexec, hpower, hother⟩ := exec_laneControlNone_of_short h hst hshort
    refine ⟨t, hexec, ?_, ?_, ?_, ?_, hother⟩
    all_goals
      rw [hpower]
      rfl
  · refine congrArg Host.Outcome.next (exec_limited_entry h rfl (by decide) (g := Power.withLimit (s.limitOf limit.toNat)) fun t hstrap _ hflag hlane => ?_)
    have hn := limitOf_of_strap hstrap limit.toNat
    rw [applyLimit_of_open (by simp [hlane, hst]) (by simp [hlane, hst]), hn, enableLane_of_off (by rw [modPower_lane, hlane]; exact hst),
      enterWaiting_of_cool (by rw [modPower_overTemp, hflag, hcool]) (by rw [modPower_lane, hlane]; simp [Power.withLimit, hst])]
    rfl
  · refine congrArg Host.Outcome.next (exec_limited_power h rfl (by decide) (g := Power.withLimit (s.limitOf limit.toNat)) fun t hstrap _ _ hlane => ?_)
    have hn := limitOf_of_strap hstrap limit.toNat
    rw [applyLimit_of_open (by rwa [hlane]) (by rwa [hlane]), hn, enableLane_of_not_off (by rw [modPower_lane, hlane]; exact hoff)]
  · refine congrArg Host.Outcome.next (exec_limited_entry h rfl (by decide) (g := Power.withLimit (s.limitOf limit.toNat)) fun t hstrap _ _ hlane => ?_)
    have hn := limitOf_of_strap hstrap limit.toNat
    have hopen : (s.lane l).power.state ≠ .ramping ∧ (s.lane l).power.state ≠ .live := by rcases hst with h | h | h <;> simp [h]
    rw [applyLimit_of_open (by rw [hlane]; exact hopen.1) (by rw [hlane]; exact hopen.2), hn, disableLane_of_open (by rw [modPower_lane, hlane]; exact hst)]
  · refine congrArg Host.Outcome.next (exec_limited_entry h rfl (by decide)
      (g := fun p => { p with limit := s.limitOf limit.toNat, faultCount := 0 }) fun t hstrap _ hflag hlane => ?_)
    have hn := limitOf_of_strap hstrap limit.toNat
    rw [applyLimit_of_open (by simp [hlane, hst]) (by simp [hlane, hst]), hn, clearLatch_of_latched (by rw [modPower_lane, hlane]; exact hst),
      modPower_modPower, enterWaiting_of_cool (by rw [modPower_overTemp, hflag, hcool]) (by rw [modPower_lane, hlane]; simp [Power.withLimit, hst])]
    rfl

/-! ## Faults from any state -/

theorem modPower_entry (l : Lane) (g : Power → Power) (s : State) (j : Nat) : (modPower l g s).entry j = s.entry j := by cases l <;> rfl

/-- What a fault of a lane does (R32, R38): of the lanes' power this lane's alone changes; a lane that was not LIVE gets its LANE notice and no more, a LIVE one is torn down. -/
structure Faulted (l : Lane) (why : Trip) (s t : State) : Prop where
  power : (t.lane l).power = (s.lane l).power.tripped why s.now
  other : (t.lane (otherLane l)).power = (s.lane (otherLane l)).power
  nameMap : t.nameMap = s.nameMap
  profiles : t.profiles = s.profiles
  quiet : (s.lane l).power.state ≠ .live → t = notify (.lane l ((s.lane l).power.tripped why s.now).state (.trip why)
    ((s.lane l).power.tripped why s.now).faultCount) (s.setLane l { s.lane l with power := (s.lane l).power.tripped why s.now })
  torn : (s.lane l).power.state = .live → t.lane l = { (s.lane l).tornDown with power := (s.lane l).power.tripped why s.now }
  gone : (s.lane l).power.state = .live → s.roster.length = 32 → ∀ slot e, t.entry slot = some e → e.lane ≠ l
  entries : (s.lane l).power.state = .live → ∀ slot e, s.entry slot = some e → e.lane ≠ l → e.state ≠ .held → t.entry slot = some e

theorem faultState_succ_ne_live (n : Nat) : (if n < 2 then PowerState.fault else .latched) ≠ .live := by split <;> decide

theorem enterFault_eq_enterPower (l : Lane) (why : Trip) (s : State) : enterFault l why s =
    enterPower l (if (s.lane l).power.faultCount < 2 then .fault else .latched) (.trip why) .no
      (modPower l (fun p => { p with faultCount := min 3 ((s.lane l).power.faultCount + 1), lastFault := some why }) s) := by
  rw [enterFault, faultState_succ]

theorem enterFault_faulted (l : Lane) (why : Trip) (s : State) : Faulted l why s (enterFault l why s) where
  power := enterFault_power l why s
  other := (enterFault_moves (powerOf_powers l) why s).otherPower (otherLane_ne l)
  nameMap := by rw [enterFault_eq_enterPower, (enterPower_nameMap ..).1, modPower_nameMap]
  profiles := by rw [enterFault_eq_enterPower, (enterPower_nameMap ..).2, modPower_profiles]
  quiet h := enterFault_eq h why
  torn h := by
    rw [enterFault_eq_enterPower, leave_lane (by rw [modPower_lane]; exact h) (faultState_succ_ne_live _), modPower_lane, modPower_now]
    rfl
  gone h hsize slot e he := by
    rw [enterFault_eq_enterPower] at he
    exact leave_gone (by rw [modPower_lane]; exact h) (by rwa [modPower_roster]) he
  entries h slot e he hl hheld := by
    rw [enterFault_eq_enterPower]
    exact leave_entry (by rw [modPower_lane]; exact h) (by rwa [modPower_entry]) hl hheld

/-! ## The lane current -/

/-- A lane's power with another current of the main switch. -/
def Power.withCurrent (i : Nat) (p : Power) : Power := { p with laneCurrent := i }

/-- An open switch carries no current (R41), whatever it carried before. -/
theorem entered_withCurrent {st : PowerState} (h : st.switched = false) (i : Nat) (p : Power) (dp : DisablePending) (now : Nat) :
    (p.withCurrent i).entered st dp now = p.entered st dp now := by
  cases st
  case ramping | live => cases h
  all_goals rfl

theorem tripped_withCurrent (i : Nat) (p : Power) (why : Trip) (now : Nat) : (p.withCurrent i).tripped why now = p.tripped why now :=
  entered_withCurrent (by split <;> rfl) i { p with faultCount := min 3 (p.faultCount + 1), lastFault := some why } .no now

theorem Faulted.withCurrent {why : Trip} {i : Nat} (h : Faulted l why (modPower l (Power.withCurrent i) s) t) : Faulted l why s t where
  power := by rw [h.power, modPower_lane, modPower_now, tripped_withCurrent]
  other := by rw [h.other, modPower_lane_other]
  nameMap := by rw [h.nameMap, modPower_nameMap]
  profiles := by rw [h.profiles, modPower_profiles]
  quiet hlive := by
    rw [h.quiet (by rwa [modPower_lane]), modPower_lane, modPower_now, tripped_withCurrent, modPower_eq_setLane, setLane_setLane]
  torn hlive := by
    rw [h.torn (by rwa [modPower_lane])]
    simp only [modPower_lane, modPower_now, tripped_withCurrent]
    rfl
  gone hlive hsize := h.gone (by rwa [modPower_lane]) (by rwa [modPower_roster])
  entries hlive slot e he := h.entries (by rwa [modPower_lane]) slot e (by rwa [modPower_entry])

theorem watchRemoval_of_not_live (h : (s.lane l).power.state ≠ .live) : watchRemoval l s = s := if_neg (by simp [State.laneLive, h])

/-- The removal timer follows the current (R27). -/
def Power.removalWatched (now : Nat) (p : Power) : Power := { p with timers := { p.timers with
  removal := if p.laneCurrent < 2000 then some (p.timers.removal.getD (now + 100)) else none } }

theorem watchRemoval_of_live (h : (s.lane l).power.state = .live) : watchRemoval l s = modPower l (Power.removalWatched s.now) s := by
  rw [watchRemoval, if_pos (by simp [State.laneLive, h]), modPower_eq_setLane, modPower_eq_setLane, watchTimer_eq]
  simp [Power.removalWatched, Power.underCurrent, removalMs]

theorem senseCurrent_eq (h : (s.lane l).power.state = .ramping ∨ (s.lane l).power.state = .live) (i : Nat) :
    senseCurrent l i s = watchRemoval l (compareCurrent l (modPower l (Power.withCurrent i) s)) := if_pos (switched_eq_true h)

theorem senseCurrent_of_short (h : (s.lane l).power.state = .ramping ∨ (s.lane l).power.state = .live) {i : Nat}
    (hi : 200000 * (s.lane l).power.limit ≤ i) : senseCurrent l i s = enterFault l .short (modPower l (Power.withCurrent i) s) := by
  have hst : (modPower l (Power.withCurrent i) s).lane l = { s.lane l with power := (s.lane l).power.withCurrent i } := modPower_lane ..
  rw [senseCurrent_eq h, compareCurrent_of_short (by rw [hst]; exact switched_eq_true h) (by rw [hst]; exact hi), watchRemoval_of_not_live]
  rw [enterFault_power]
  exact faultState_succ_ne_live _

theorem watchBackfeed_eq (l : Lane) (s : State) : watchBackfeed l s = modPower l (fun p =>
    if p.state = .waiting ∨ p.state = .ramping ∨ p.state = .live then { p with timers := { p.timers with
      backfeed := if p.overSupply then some (p.timers.backfeed.getD (s.now + 1)) else none } } else p) s := by
  rw [watchBackfeed, modPower_eq_setLane, modPower_eq_setLane, watchTimer_eq]
  cases h : (s.lane l).power.state
  case waiting | ramping | live => simp [PowerState.watchesBackfeed, backfeedMs]
  all_goals
    simp only [PowerState.watchesBackfeed, Bool.false_eq_true, if_false, reduceCtorEq, or_self]
    exact (setLane_lane_self s l).symm

/-- Settles O40: the comparisons of `senseCurrent`, each fault by `Faulted`, and the back-feed mask by `watchBackfeed`. -/
theorem laneCurrentAndMasks : Obligations.LaneCurrentAndMasks := by
  intro s l i m above hrun
  have hfault {why : Trip} {t : State} (h : Faulted l why s t) (hlive : (s.lane l).power.state = .live) :
      (t.lane l).exch = none ∧ (t.lane l).census.run = .idle ∧ (t.lane l).forward = [] ∧ (t.lane l).unaddress = [] ∧ (t.lane l).complete = false ∧
      (s.roster.length = 32 → ∀ slot e, t.entry slot = some e → e.lane ≠ l) ∧
      ((s.lane l).census.run ≠ .idle → (t.lane l).census.last = some .laneDown) ∧
      (∀ slot e, s.entry slot = some e → e.lane ≠ l → e.state ≠ .held → t.entry slot = some e) := by
    rw [h.torn hlive]
    exact ⟨rfl, downed_run _, rfl, rfl, rfl, h.gone hlive, downed_last, h.entries hlive⟩
  have hsense : exec (.laneCurrentChange l i) s = .next (senseCurrent l i s) := congrArg Host.Outcome.next (whenRunning_of_running hrun)
  have hlane : (modPower l (Power.withCurrent i) s).lane l = { s.lane l with power := (s.lane l).power.withCurrent i } := modPower_lane ..
  refine ⟨fun hramping hlive => ?_, fun hi hst => ?_, fun hi hst => ?_, fun hi hst => ?_, fun ht hm => ?_, fun ht hm => ?_, ?_⟩
  · rw [hsense, senseCurrent, switched_eq_false hramping hlive]
    rfl
  · rw [hsense, senseCurrent_eq (.inl hst), compareCurrent_of_closed (by rw [hlane]; exact switched_eq_true (.inl hst)) (by rw [hlane]; exact hi),
      watchRemoval_of_not_live, modPower_modPower, modPower_now]
    · rfl
    · rw [modPower_lane, hlane]
      exact fun h => absurd (hst.symm.trans h) (by decide)
  · rw [hsense, senseCurrent_eq (.inr hst), compareCurrent_of_closed (by rw [hlane]; exact switched_eq_true (.inr hst)) (by rw [hlane]; exact hi),
      watchRemoval_of_live, modPower_modPower, modPower_modPower, modPower_now, modPower_now]
    · rfl
    · rw [modPower_lane, hlane]
      exact hst
  · have h := (enterFault_faulted l .short (modPower l (Power.withCurrent i) s)).withCurrent
    exact ⟨_, hsense.trans (congrArg Host.Outcome.next (senseCurrent_of_short hst hi)), h.power, h.other, h.nameMap, h.profiles, h.quiet, hfault h⟩
  · have h := enterFault_faulted l .overcurrent s
    exact ⟨_, congrArg Host.Outcome.next (onTimer_of_ranOut hrun ht hm _), h.power, h.other, h.nameMap, h.profiles, h.quiet, hfault h⟩
  · have h := enterFault_faulted l .backfeed s
    exact ⟨_, congrArg Host.Outcome.next (onTimer_of_ranOut hrun ht hm _), h.power, h.other, h.nameMap, h.profiles, h.quiet, hfault h⟩
  · refine congrArg Host.Outcome.next ((whenRunning_of_running (by rwa [modPower_resetAsserted])).trans ?_)
    rw [watchBackfeed_eq, modPower_modPower, modPower_now]
    rfl

end Sys2Proof.Machine
end

section
/-! PROOFS. A lane that leaves LIVE by the tool (O39): the REFUSALs that its teardown offers, and its notices. -/

namespace Sys2Proof.Machine

variable {s t : State} {l : Lane} {cause : LaneCause}

/-! ## With no cycle in progress -/

theorem walkFrom_of_no_cycle (h : s.seq.run = none) (is : List Nat) : walkFrom l is s = setCursor l ⟨cyclePositions, none⟩ s := by
  induction is with
  | nil => rfl
  | cons i rest ih =>
    have hopen : s.openOn l i = false := by rw [State.openOn, h]
    rw [walkFrom, hopen, if_neg (by decide), ih]

theorem modRun_of_no_cycle (h : s.seq.run = none) (f : CycleRun → CycleRun) : modRun f s = s := by
  have hmap : s.seq.run.map f = s.seq.run := by rw [h]; rfl
  rw [modRun, modSeq, hmap]

theorem walkOn_of_no_cycle (h : s.seq.run = none) (i : Nat) : walkOn l i s = s := by
  rw [walkOn, walkFrom_of_no_cycle h, setCursor, modRun_of_no_cycle h, finishCycle, h]

/-- A store test with no cycle in progress touches the cycle list alone. -/
theorem storeTest_of_no_cycle (h : s.seq.run = none) (i : Nat) (fp : Fingerprint) :
    (storeTest i fp s).arm = s.arm ∧ (storeTest i fp s).seq.run = none := by
  have hsettle {t : State} (ht : t.seq.run = none) (o : CycleOutcome) (data : List Octet) : settle i o data t = t := modRun_of_no_cycle ht _
  unfold storeTest
  split
  · split
    · rw [hsettle h]
      exact ⟨rfl, h⟩
    · rw [hsettle (t := modCycleEntry i (fun e => { e with store := none }) s) h]
      exact ⟨rfl, h⟩
  · rw [hsettle h]
    exact ⟨rfl, h⟩

/-! ## The REFUSALs of a teardown -/

/-- The REFUSAL of a forwarded exchange in flight that is ABANDONED (R146). -/
def departedInFlight (x : Option Exchange) : List ArmFrame :=
  match x.map Exchange.source, x.bind Exchange.ref with
  | some (.forward name tag), some _ => [refusal name tag .departed]
  | _, _ => []

theorem forwardAnswer_abandoned (name : Nat) (tag : Octet) (r : EntryRef) (payload : List Octet) (s : State) :
    forwardAnswer name tag r .abandoned payload s = offer (refusal name tag .departed) s := by
  unfold forwardAnswer
  cases s.referenced r <;> rfl

theorem abandonExchange_arm (hrun : s.seq.run = none) (hup : s.arm.linkUp = true) (hroom : s.arm.outbound.length < 24) :
    (abandonExchange l s).arm = { s.arm with outbound := s.arm.outbound ++ departedInFlight (s.lane l).exch } ∧ (abandonExchange l s).seq.run = none := by
  have harm : (clearExchange l s).arm = s.arm := modLane_arm ..
  have hseq : (clearExchange l s).seq.run = none := by rw [clearExchange, modLane_seq, hrun]
  have hplain : s.arm = { s.arm with outbound := s.arm.outbound ++ [] } := by rw [List.append_nil]
  unfold abandonExchange departedInFlight
  cases hx : (s.lane l).exch with
  | none => exact ⟨hplain, hrun⟩
  | some x =>
    dsimp only [Option.map_some, Option.bind_some]
    rw [abandon_eq, toSource]
    cases hsource : x.source with
    | census =>
      dsimp only
      rw [censusOutcome_abandoned, harm]
      exact ⟨hplain, hseq⟩
    | supervision =>
      dsimp only
      rw [harm]
      exact ⟨hplain, hseq⟩
    | cycle i =>
      cases hr : x.ref with
      | none =>
        dsimp only
        rw [harm]
        exact ⟨hplain, hseq⟩
      | some r =>
        obtain ⟨htest, hnone⟩ := storeTest_of_no_cycle hseq i r.fp
        dsimp only [cycleOutcome]
        rw [walkOn_of_no_cycle hnone, htest, harm]
        exact ⟨hplain, hnone⟩
    | forward name tag =>
      cases hr : x.ref with
      | none =>
        dsimp only
        rw [harm]
        exact ⟨hplain, hseq⟩
      | some r =>
        dsimp only
        rw [forwardAnswer_abandoned, offer_of_room (by rwa [harm]) (by rwa [harm]), harm]
        exact ⟨rfl, hseq⟩

theorem censusDown_arm (l : Lane) (s : State) : (censusDown l s).arm = s.arm := by
  unfold censusDown
  split
  · exact (endCensus_ignoresArm l .laneDown).arm_eq s
  · rfl

theorem censusDown_forward (l : Lane) (s : State) : ((censusDown l s).lane l).forward = (s.lane l).forward := by
  obtain ⟨b, us, h⟩ := censusDown_lane l s
  rw [h]

/-- The forwarded exchange in flight, then the queued records, oldest first, are refused DEPARTED (R38). -/
theorem teardown_arm (hrun : s.seq.run = none) (hup : s.arm.linkUp = true) (hroom : s.arm.outbound.length + 1 + (s.lane l).forward.length ≤ 24) :
    (teardown l s).arm = { s.arm with outbound :=
      s.arm.outbound ++ departedInFlight (s.lane l).exch ++ (s.lane l).forward.map (ForwardRecord.refusal .departed) } := by
  obtain ⟨habandon, hnone⟩ := abandonExchange_arm (l := l) hrun hup (by omega)
  have harm : (censusDown l (takeBackDue l (abandonExchange l s))).arm =
      { s.arm with outbound := s.arm.outbound ++ departedInFlight (s.lane l).exch } := by
    rw [censusDown_arm, takeBackDue_of_no_cycle hnone, habandon]
  have hforward : ((censusDown l (takeBackDue l (abandonExchange l s))).lane l).forward = (s.lane l).forward := by
    rw [censusDown_forward, takeBackDue_lane, abandonExchange_lane]
    rfl
  have hone : (departedInFlight (s.lane l).exch).length ≤ 1 := by
    unfold departedInFlight
    split <;> simp
  rw [teardown_eq, naming_arm (removeLane_naming ..), State.emptied, discardSupervision, modLane_arm]
  dsimp only
  rw [refuseForward_of_room .departed (by rw [harm]; exact hup) (by rw [harm, hforward, List.length_append]; omega), modLane_arm, modArm_arm, harm, hforward]

/-! ## The notices of a teardown -/

/-- What a notice does to the notices depends on them alone. -/
theorem notify_notices_congr (h : t.notices = s.notices) (n : Notice) : (notify n t).notices = (notify n s).notices := by
  unfold notify
  rw [h]
  split
  · rfl
  · exact h

/-- With COMPLETE notices masked an evaluation queues none (R187). -/
theorem evalComplete_notices (h : s.notices.masks.kinds.getLsbD 1 = false) (l : Lane) : (evalComplete l s).notices = s.notices := by
  obtain ⟨-, heq⟩ | ⟨-, heq⟩ := evalComplete_cases l s
  · rw [heq]
  · rw [heq, notify_of_masked, modLane_notices]
    rw [modLane_notices, Masks.passes, show (Notice.complete l (s.completeNow l) (s.unsatisfied l)).kindBit = 1 from rfl, h, Bool.false_and]

/-- No entry is HELD. -/
def State.Unheld (s : State) : Prop := ∀ slot e, s.entry slot = some e → e.state ≠ .held

theorem State.Unheld.of_entries (hs : s.Unheld) (h : ∀ j e, t.entry j = some e → s.entry j = some e) : t.Unheld :=
  fun j e he => hs j e (h j e he)

theorem entry_setEntry_none {slot j : Nat} {e : Entry} (h : (setEntry slot none s).entry j = some e) : s.entry j = some e := by
  by_cases hj : slot = j
  · subst hj
    by_cases hlt : slot < s.roster.length
    · rw [entry_setEntry_same hlt] at h
      cases h
    · rw [entry_eq_none (by simpa using hlt)] at h
      cases h
  · rwa [entry_setEntry_ne hj] at h

theorem evalComplete_entry (l : Lane) (s : State) (j : Nat) : (evalComplete l s).entry j = s.entry j :=
  ((evalComplete_moves (emptying_evals l) l s).framed.slot j).resolve_left id

/-- With no HELD entry, and COMPLETE notices masked, a removal queues its DEPARTED notice and no other. -/
theorem removeEntry_of_unheld (hs : s.Unheld) (hmask : s.notices.masks.kinds.getLsbD 1 = false) {slot : Nat} {e : Entry} (he : s.entry slot = some e)
    (c : DeviceCause) : (removeEntry slot c s).notices = (notify (deviceNotice e .departed c) s).notices ∧
      ∀ j, (removeEntry slot c s).entry j = (setEntry slot none s).entry j := by
  have hunheld : (notify (deviceNotice e .departed c) (setEntry slot none s)).Unheld :=
    hs.of_entries fun j f hf => entry_setEntry_none (by rwa [notify_entry] at hf)
  have hremove : removeEntry slot c s =
      evalComplete (otherLane e.lane) (evalComplete e.lane (notify (deviceNotice e .departed c) (setEntry slot none s))) := by
    rw [removeEntry, he]
    dsimp only
    rw [reresolveHeld_of_unheld hunheld]
  have hmasked : (notify (deviceNotice e .departed c) (setEntry slot none s)).notices.masks.kinds.getLsbD 1 = false := by rwa [notify_masks]
  rw [hremove]
  constructor
  · rw [evalComplete_notices, evalComplete_notices hmasked]
    · exact notify_notices_congr (t := setEntry slot none s) (s := s) rfl _
    · rwa [evalComplete_notices hmasked]
  · intro j
    rw [evalComplete_entry, evalComplete_entry, notify_entry]

/-- The DEPARTED notice of the entry in a slot, if it is one of the lane. -/
def departSlot (s : State) (l : Lane) (u : State) (j : Nat) : State :=
  match s.entry j with
  | some e => if e.lane = l then notify (.device l e.name e.fp .departed .laneDown e.fail) u else u
  | none => u

/-- Entries removed slot by slot queue their notices slot by slot. -/
theorem removeIfOn_foldl_notices {u v : State} (hv : v.Unheld) (hmask : v.notices.masks.kinds.getLsbD 1 = false) (huv : v.notices = u.notices)
    (js : List Nat) (hjs : js.Nodup) (hsame : ∀ j ∈ js, v.entry j = (s.entry j).map (Entry.hushed l)) :
    (js.foldl (removeIfOn l .laneDown) v).notices = (js.foldl (departSlot s l) u).notices := by
  induction js generalizing u v with
  | nil => exact huv
  | cons j js ih =>
    obtain ⟨hj, hjs⟩ := List.nodup_cons.mp hjs
    have hslot := hsame j (List.mem_cons_self ..)
    have hrest : ∀ i ∈ js, v.entry i = (s.entry i).map (Entry.hushed l) := fun i hi => hsame i (List.mem_cons_of_mem _ hi)
    rw [List.foldl_cons, List.foldl_cons]
    cases he : s.entry j with
    | none =>
      have hkeep : removeIfOn l .laneDown v j = v := by rw [removeIfOn, hslot, he]; rfl
      have hdepart : departSlot s l u j = u := by rw [departSlot, he]
      rw [hkeep, hdepart]
      exact ih hv hmask huv hjs hrest
    | some e =>
      rw [he] at hslot
      have hlane : (e.hushed l).lane = e.lane := by rw [Entry.hushed, apply_ite Entry.lane, ite_self]
      by_cases hl : e.lane = l
      · obtain ⟨hnotices, hentries⟩ := removeEntry_of_unheld hv hmask hslot .laneDown
        have hremove : removeIfOn l .laneDown v j = removeEntry j .laneDown v := by
          rw [removeIfOn, hslot]
          exact if_pos (hlane.trans hl)
        have hnotice : deviceNotice (e.hushed l) .departed .laneDown = .device l e.name e.fp .departed .laneDown e.fail := by
          rw [Entry.hushed, if_pos hl, deviceNotice]
          exact congrArg (fun k => Notice.device k e.name e.fp .departed .laneDown e.fail) hl
        have hdepart : departSlot s l u j = notify (.device l e.name e.fp .departed .laneDown e.fail) u := by
          rw [departSlot, he]
          exact if_pos hl
        rw [hremove, hdepart]
        refine ih (hv.of_entries fun i f hf => entry_setEntry_none (by rwa [hentries] at hf)) ?_ ?_ hjs fun i hi => ?_
        · rw [hnotices, notify_masks, hmask]
        · rw [hnotices, hnotice, notify_notices_congr huv]
        · rw [hentries, entry_setEntry_ne (fun h : j = i => hj (h ▸ hi)), hrest i hi]
      · have hkeep : removeIfOn l .laneDown v j = v := by
          rw [removeIfOn, hslot]
          exact if_neg (by rwa [hlane])
        have hdepart : departSlot s l u j = u := by
          rw [departSlot, he]
          exact if_neg hl
        rw [hkeep, hdepart]
        exact ih hv hmask huv hjs hrest

theorem Moves.notices_of_cycling (h : Moves Scope.cycling s t) : t.notices = s.notices := by
  have hqueue := h.framed.queue.resolve_left id
  have hmasks := h.framed.masks.resolve_left id
  cases hs : s.notices
  cases ht : t.notices
  simp_all

/-- With no exchange and no run the steps before the removal queue no notice. -/
theorem emptied_notices (hexch : (s.lane l).exch = none) (hrun : (s.lane l).census.run = .idle) : (s.emptied l).notices = s.notices := by
  have habandon : abandonExchange l s = s := by rw [abandonExchange, hexch]
  have hdown : censusDown l (takeBackDue l s) = takeBackDue l s :=
    if_neg (by rw [State.censusRunning, takeBackDue_lane, hrun]; decide)
  have hoffer (fs : List ArmFrame) (u : State) : (offerAll fs u).notices = u.notices :=
    (offerAll_moves (A := Scope.cycling) trivial trivial fs u).notices_of_cycling
  rw [State.emptied, habandon, hdown, discardSupervision, modLane_notices, refuseForward]
  dsimp only
  rw [hoffer, modLane_notices, (takeBackDue_moves cycling_cycles l s).notices_of_cycling]

theorem teardown_notices (hexch : (s.lane l).exch = none) (hrun : (s.lane l).census.run = .idle) (hs : s.Unheld)
    (hmask : s.notices.masks.kinds.getLsbD 1 = false) :
    (teardown l s).notices = ((List.range 32).foldl (departSlot s l) s).notices := by
  have hnotices := emptied_notices hexch hrun
  rw [teardown_eq, removeLane, show rosterSlots = 32 from rfl]
  refine removeIfOn_foldl_notices (fun j e he => ?_) (by rwa [hnotices]) hnotices (List.range 32) List.nodup_range fun j _ => emptied_entry s l j
  rw [emptied_entry] at he
  obtain ⟨f, hf, rfl⟩ := Option.map_eq_some_iff.mp he
  have hst : (f.hushed l).state = f.state := by rw [Entry.hushed, apply_ite Entry.state, ite_self]
  rw [hst]
  exact hs j f hf

/-! ## A LIVE lane that goes to DISCHARGING -/

theorem darkened_arm (st : PowerState) (cause : LaneCause) (dp : DisablePending) : (s.darkened l st cause dp).arm = s.arm := by
  rw [naming_arm (darkened_naming s l st cause dp)]
  cases l <;> rfl

theorem darkened_seq (st : PowerState) (cause : LaneCause) (dp : DisablePending) : (s.darkened l st cause dp).seq = s.seq := by
  rw [(darkened_naming s l st cause dp).framed.cycle.resolve_left id]
  cases l <;> rfl

theorem leave_arm (hlive : (s.lane l).power.state = .live) (hrun : s.seq.run = none) (hup : s.arm.linkUp = true)
    (hroom : s.arm.outbound.length + 1 + (s.lane l).forward.length ≤ 24) :
    (enterPower l .discharging cause .no s).arm =
      { s.arm with outbound := s.arm.outbound ++ departedInFlight (s.lane l).exch ++ (s.lane l).forward.map (ForwardRecord.refusal .departed) } := by
  have hlane : (s.darkened l .discharging cause .no).lane l = _ := darkened_lane (by decide)
  rw [enterPower_of_live hlive, teardown_arm, darkened_arm, hlane]
  · rwa [darkened_seq]
  · rwa [darkened_arm]
  · rwa [darkened_arm, hlane]

theorem foldl_departSlot_congr {u v : State} (h : u.notices = v.notices) (js : List Nat) :
    (js.foldl (departSlot s l) u).notices = (js.foldl (departSlot s l) v).notices := by
  induction js generalizing u v with
  | nil => exact h
  | cons j js ih =>
    refine ih ?_
    unfold departSlot
    split
    · split
      · exact notify_notices_congr h _
      · exact h
    · exact h

theorem departSlot_of_entries (h : ∀ j, t.entry j = s.entry j) : departSlot t l = departSlot s l := by
  funext u j
  rw [departSlot, departSlot, h]

theorem leave_notices (hlive : (s.lane l).power.state = .live) (hexch : (s.lane l).exch = none) (hidle : (s.lane l).census.run = .idle)
    (hs : s.Unheld) (hmask : s.notices.masks.kinds.getLsbD 1 = false) : (enterPower l .discharging cause .no s).notices =
      ((List.range 32).foldl (departSlot s l) (notify (.lane l .discharging cause (s.lane l).power.faultCount) s)).notices := by
  have hlane : (s.darkened l .discharging cause .no).lane l = _ := darkened_lane (by decide)
  have hsame : (s.setLane l { s.lane l with power := (s.lane l).power.entered .discharging .no s.now }).notices = s.notices := by cases l <;> rfl
  have hnotified : (s.darkened l .discharging cause .no).notices =
      (notify (.lane l .discharging cause (s.lane l).power.faultCount) s).notices := by
    rw [State.darkened, evalComplete_notices (by rwa [notify_masks, hsame])]
    exact notify_notices_congr hsame _
  rw [enterPower_of_live hlive, teardown_notices, departSlot_of_entries (fun j => darkened_entry j)]
  · exact foldl_departSlot_congr hnotified _
  · rw [hlane, hexch]
  · rw [hlane, hidle]
  · exact hs.of_entries fun j e he => (darkened_entry j).symm.trans he
  · rwa [hnotified, notify_masks]

/-- What a LIVE lane's way to DISCHARGING by the tool leaves, with its new power (R26, R27, R38). -/
structure LeftByTool (l : Lane) (cause : LaneCause) (q : Power) (s t : State) : Prop where
  lane : t.lane l = { (s.lane l).tornDown with power := q }
  gone : s.roster.length = 32 → ∀ slot e, t.entry slot = some e → e.lane ≠ l
  entries : ∀ slot e, s.entry slot = some e → e.lane ≠ l → e.state ≠ .held → t.entry slot = some e
  other : t.lane (otherLane l) = { s.lane (otherLane l) with complete := (t.lane (otherLane l)).complete }
  arm : s.arm.linkUp = true → s.seq.run = none → s.arm.outbound.length + 1 + (s.lane l).forward.length ≤ 24 → t.arm =
    { s.arm with outbound := s.arm.outbound ++ departedInFlight (s.lane l).exch ++ (s.lane l).forward.map (ForwardRecord.refusal .departed) }
  notices : (s.lane l).exch = none → (s.lane l).census.run = .idle → s.Unheld → s.notices.masks.kinds.getLsbD 1 = false →
    t.notices = ((List.range 32).foldl (departSlot s l) (notify (.lane l .discharging cause (s.lane l).power.faultCount) s)).notices

theorem leftByTool (hlive : (s.lane l).power.state = .live) (cause : LaneCause) :
    LeftByTool l cause ((s.lane l).power.entered .discharging .no s.now) s (enterPower l .discharging cause .no s) where
  lane := leave_lane hlive (by decide)
  gone hsize _ _ he := leave_gone hlive hsize he
  entries _ _ he hl hheld := leave_entry hlive he hl hheld
  other := leave_lane_other hlive (otherLane_ne l)
  arm hup hrun hroom := leave_arm hlive hrun hup hroom
  notices hexch hidle hs hmask := leave_notices hlive hexch hidle hs hmask

/-- A change of the lane's power beforehand is of no account to the rest. -/
theorem LeftByTool.of_modPower {g : Power → Power} {q : Power} (hg : (g (s.lane l).power).faultCount = (s.lane l).power.faultCount)
    (h : LeftByTool l cause q (modPower l g s) t) : LeftByTool l cause q s t where
  lane := by rw [h.lane, modPower_lane]; rfl
  gone hsize := h.gone (by rwa [modPower_roster])
  entries slot e he := h.entries slot e (by rwa [modPower_entry])
  other := by
    have hother := h.other
    rwa [modPower_lane_other] at hother
  arm hup hrun hroom := by
    have harm := h.arm (by rwa [modPower_arm]) (by rwa [modPower_seq]) (by rwa [modPower_arm, modPower_lane])
    rwa [modPower_arm, modPower_lane] at harm
  notices hexch hidle hs hmask := by
    rw [h.notices (by rwa [modPower_lane]) (by rwa [modPower_lane]) (hs.of_entries fun j e he => by rwa [modPower_entry] at he) (by rwa [modPower_notices]),
      departSlot_of_entries (fun j => modPower_entry l g s j), modPower_lane]
    dsimp only
    rw [hg]
    exact foldl_departSlot_congr (notify_notices_congr (modPower_notices ..) _) _

theorem unlock_of_closed (h : (s.lane l).power.state = .ramping ∨ (s.lane l).power.state = .live) :
    unlock l s = enterPower l .discharging .unlocked .no s := if_pos (switched_eq_true h)

/-- A lane's power with the lock input fallen. -/
def Power.unlocked (p : Power) : Power := { p with lock := false }

theorem exec_lockDeassert (hrun : s.resetAsserted = false) (h : (s.lane l).power.state = .ramping ∨ (s.lane l).power.state = .live) :
    exec (.lockDeassert l) s = .next (enterPower l .discharging .unlocked .no (modPower l Power.unlocked s)) := by
  refine congrArg Host.Outcome.next ((whenRunning_of_running (by rwa [modPower_resetAsserted])).trans (unlock_of_closed ?_))
  rwa [modPower_lane]

/-- Settles O39: RAMPING by its LANE notice alone, LIVE by `LeftByTool`. -/
theorem leavingByTheTool : Obligations.LeavingByTheTool := by
  intro s l hrun hsize p departed inFlight queued gone
  have hgone {cause : LaneCause} {q : Power} {t : State} (h : LeftByTool l cause q s t) : gone cause t := by
    have hother := h.other
    refine ⟨by rw [h.lane]; rfl, by rw [h.lane]; exact downed_run _, by rw [h.lane]; rfl, by rw [h.lane]; rfl, by rw [h.lane]; rfl, h.gone hsize,
      fun hidle => by rw [h.lane]; exact downed_last hidle, h.entries, by rw [hother], by rw [hother], by rw [hother], fun hup hnone hroom => ?_,
      fun hexch hidle hheld hmask => ?_⟩
    · have hinFlight : departedInFlight (s.lane l).exch = inFlight := rfl
      have hqueued : (s.lane l).forward.map (ForwardRecord.refusal .departed) = queued :=
        List.map_congr_left fun r _ => by cases r <;> rfl
      rw [h.arm hup hnone hroom, hinFlight, hqueued]
    · exact h.notices hexch hidle hheld hmask
  refine ⟨fun hst => ?_, fun hst => ?_, fun m hst ht hm => ?_⟩
  · rw [exec_lockDeassert hrun (.inl hst), enterPower_of_not_live (by rw [modPower_lane]; exact fun h => absurd (hst.symm.trans h) (by decide)),
      modPower_lane, modPower_now, modPower_eq_setLane, setLane_setLane]
    rfl
  · have hleft := (leftByTool (l := l) (s := modPower l Power.unlocked s) (by rw [modPower_lane]; exact hst) .unlocked).of_modPower rfl
    rw [modPower_lane, modPower_now] at hleft
    exact ⟨_, exec_lockDeassert hrun (.inr hst), hgone hleft, by rw [hleft.lane]; rfl⟩
  · have hleft := leftByTool hst .removed
    exact ⟨_, congrArg Host.Outcome.next (onTimer_of_ranOut hrun ht hm _), hgone hleft, by rw [hleft.lane]⟩

end Sys2Proof.Machine
end

section
/-! PROOFS. What each change of a roster entry makes of it, and the resolution of a name (O36). -/

namespace Sys2Proof.Machine

variable {s t : State} {slot : Nat} {e : Entry}

/-! ## What each change makes of the entry -/

theorem entry_modified (he : s.entry slot = some e) (f : Entry) : (setEntry slot (some f) s).entry slot = some f :=
  entry_setEntry_same (slot_lt_of_entry he) _

theorem moveEntry_entry (he : s.entry slot = some e) (f : Entry → Entry) (d : DeviceDetail) (c : DeviceCause) :
    (moveEntry slot f d c s).entry slot = some (f e) := by
  rw [moveEntry, he]
  exact (notify_entry ..).trans (entry_modified he _)

theorem modEntry_entry (he : s.entry slot = some e) (f : Entry → Entry) : (modEntry slot f s).entry slot = some (f e) := by
  rw [modEntry, he]
  exact entry_modified he _

theorem enterLive_entry (he : s.entry slot = some e) (c : DeviceCause) : (enterLive slot c s).entry slot = some (e.toLive s.now) :=
  moveEntry_entry he ..

theorem KeepsPower.thresholdInUse (h : KeepsPower s t) (e : Entry) : t.thresholdInUse e = s.thresholdInUse e := by
  simp only [State.thresholdInUse, State.mapOf, h.options]
  rw [show t.mapEntry = s.mapEntry from funext fun i => by rw [State.mapEntry, State.mapEntry, h.nameMap]]

/-- A PROVING entry once its clean count is compared: LIVE, or with an echo item pending (R99, R106). -/
def State.compared (s : State) (e : Entry) : Entry := if s.thresholdInUse e ≤ e.clean then e.toLive s.now else { e with echo := true }

/-- An entry in PROVING, once its clean count is compared (R99). -/
def State.proved (s : State) (cause : DeviceCause) (e : Entry) : Entry := s.compared (e.toProving cause)

theorem KeepsPower.compared (h : KeepsPower s t) (e : Entry) : t.compared e = s.compared e := by
  rw [State.compared, State.compared, h.thresholdInUse, h.now]

theorem proveOrEcho_entry (he : s.entry slot = some e) (c : DeviceCause) : (proveOrEcho slot c s).entry slot = some (s.compared e) := by
  rw [proveOrEcho, he, State.compared]
  dsimp only
  split
  · exact enterLive_entry he c
  · exact entry_modified he _

theorem enterProving_entry (he : s.entry slot = some e) (c : DeviceCause) : (enterProving slot c s).entry slot = some (s.proved c e) := by
  rw [enterProving, proveOrEcho_entry (moveEntry_entry he ..), (moveEntry_keepsPower ..).compared]
  rfl

/-- An entry with a name given to it (R130). -/
def Entry.named (c : Carried) (e : Entry) : Entry := { e with name := some c.name, source := some c.source, mapRef := c.mapRef, held := none }

theorem giveName_entry (he : s.entry slot = some e) (c : Carried) : (giveName slot c s).entry slot = some (e.named c) := modEntry_entry he _

theorem notifyNamed_entry (c : Carried) (s : State) (j : Nat) : (notifyNamed slot c s).entry j = s.entry j := by
  unfold notifyNamed
  split
  · exact notify_entry ..
  · rfl

theorem nameAndProve_entry (he : s.entry slot = some e) (l : Lane) (c : Carried) (cause : DeviceCause) :
    (nameAndProve slot l c cause s).entry slot = some (s.proved cause (e.named c)) := by
  rw [nameAndProve, evalComplete_entry, notifyNamed_entry, enterProving_entry (giveName_entry he c), State.proved, (giveName_keepsPower ..).compared]
  rfl

theorem holdEntry_entry (he : s.entry slot = some e) (why : HeldReason) :
    (holdEntry slot why s).entry slot = some { e with state := .held, held := some why } := by
  rw [holdEntry, he]
  dsimp only
  split
  · next hheld => rw [entry_modified he, ← hheld]
  · exact moveEntry_entry he ..

theorem proved_device (s : State) (c : DeviceCause) (e : Entry) : (s.proved c e).device = e.device := by
  unfold State.proved State.compared
  split
  · rfl
  · rfl

theorem proved_name (s : State) (c : DeviceCause) (e : Entry) : (s.proved c e).name = e.name := by
  unfold State.proved State.compared
  split
  · rfl
  · rfl

theorem proved_state (s : State) (c : DeviceCause) (e : Entry) : (s.proved c e).state = .proving ∨ (s.proved c e).state = .live := by
  unfold State.proved State.compared
  split
  · exact .inr rfl
  · exact .inl rfl

/-- A nameless entry that takes a name: PROVING, or on into LIVE where its threshold is 0 (R99). -/
theorem proved_named_eq (s : State) (e : Entry) (c : Carried) :
    let z : Entry := { e with
      name := some c.name, source := some c.source, mapRef := c.mapRef, state := .proving, clean := 0, fail := 0, held := none, echo := true
      silenceFrom := none, checked := false, recallFrom := none }
    s.proved .named (e.named c) = if ((c.mapRef.bind s.mapEntry).bind MapEntry.override).getD (s.lane e.lane).options.passThreshold = 0 then
      { z with state := .live, echo := false, silenceFrom := some s.now, checked := false } else z := by
  intro z
  have hthreshold : s.thresholdInUse ((e.named c).toProving .named) =
    ((c.mapRef.bind s.mapEntry).bind MapEntry.override).getD (s.lane e.lane).options.passThreshold := rfl
  simp only [State.proved, State.compared, hthreshold]
  split
  · next h => exact (if_pos (Nat.le_zero.mp h)).symm
  · next h => exact (if_neg fun h0 => h (Nat.le_of_eq h0)).symm

theorem setRange_keepsThreshold (r : NameRange) (c : DeviceCause) (e : Entry) : State.proved { s with range := r } c e = s.proved c e := by
  cases e
  rfl

theorem resolveEntry_entry_named (he : s.entry slot = some e) {n : Nat} {src : Provenance} {ref : Option Nat} {cursor : Nat}
    (hr : s.resolve e.lane e.fp = .named n src ref cursor) (cause : DeviceCause) :
    (resolveEntry slot cause s).entry slot = some (s.proved cause (e.named ⟨n, src, ref⟩)) := by
  rw [resolveEntry, he]
  dsimp only
  rw [hr]
  exact (nameAndProve_entry (s := { s with range := { s.range with cursor := cursor } }) he ..).trans (congrArg some (setRange_keepsThreshold ..))

theorem resolveEntry_entry_held (he : s.entry slot = some e) {why : HeldReason} (hr : s.resolve e.lane e.fp = .held why) (cause : DeviceCause) :
    (resolveEntry slot cause s).entry slot = some { e with state := .held, held := some why } := by
  rw [resolveEntry, he]
  dsimp only
  rw [hr]
  exact (evalComplete_entry ..).trans (holdEntry_entry he why)

/-! ## Tables -/

/-- The entries of a table are listed in the order of their indices. -/
theorem entriesFrom_sorted {α : Type} (n : Nat) (xs : List (Option α)) : (entriesFrom n xs).Pairwise (fun x y => x.1 < y.1) := by
  induction xs generalizing n with
  | nil => exact .nil
  | cons x rest ih =>
    cases x with
    | none => exact ih _
    | some x => exact List.pairwise_cons.mpr ⟨fun y hy => (mem_entriesFrom.mp hy).1, ih _⟩

/-- The entry of the lowest index stands first in a sorted list. -/
theorem eq_cons_of_lowest {α : Type} {xs : List (Nat × α)} (hsorted : xs.Pairwise (fun x y => x.1 < y.1)) {x : Nat × α} (hx : x ∈ xs)
    (hlow : ∀ y ∈ xs, x.1 ≤ y.1) : ∃ rest, xs = x :: rest := by
  cases xs with
  | nil => cases hx
  | cons y rest =>
    obtain rfl | hrest := List.mem_cons.mp hx
    · exact ⟨rest, rfl⟩
    · have hlt := (List.pairwise_cons.mp hsorted).1 x hrest
      have hle := hlow y (.head _)
      omega

theorem mem_mapEntries {i : Nat} {m : MapEntry} : (i, m) ∈ s.mapEntries ↔ s.mapEntry i = some m := by
  rw [State.mapEntries, mem_entriesFrom, State.mapEntry, List.getD]
  cases s.nameMap[i]? <;> simp

/-! ## Names held and covered -/

theorem nameHeld_eq_true {n : Nat} : s.nameHeld n = true ↔
    (∃ i e, s.entry i = some e ∧ e.name = some n) ∨ s.carriedName .a = some n ∨ s.carriedName .b = some n := by
  simp [State.nameHeld, State.nameCarried, State.entryNamed, findEntry_isSome]

theorem nameCovered_eq_true {n : Nat} : s.nameCovered n = true ↔ ∃ i m, s.mapEntry i = some m ∧ m.base ≤ n ∧ n < m.base + m.span := by
  simp [State.nameCovered, mem_mapEntries]

theorem exactBase_eq_true {n : Nat} : s.exactBase n = true ↔ ∃ i m, s.mapEntry i = some m ∧ m.kind = .exact ∧ m.base = n := by
  simp [State.exactBase, mem_mapEntries]

/-! ## Steps 1 and 2: the map -/

theorem mem_considered {k : MapMatch} {l : Lane} {f : Fingerprint} {i : Nat} {m : MapEntry} : (i, m) ∈ s.considered k l f ↔
    s.mapEntry i = some m ∧ m.kind = k ∧ m.makerModel = f.extractLsb' 24 24 ∧ (k = .exact → m.serial = f.extractLsb' 0 24) ∧
      (m.restriction = none ∨ m.restriction = some l) := by
  have hfits : m.kind = k → (m.fits f = true ↔ m.makerModel = f.extractLsb' 24 24 ∧ (k = .exact → m.serial = f.extractLsb' 0 24)) := by
    rintro rfl
    cases hk : m.kind <;> simp [MapEntry.fits, hk, fpMakerModel, fpSerial]
  simp only [State.considered, List.mem_filter, mem_mapEntries, Bool.and_eq_true, beq_iff_eq, MapEntry.allows, Bool.or_eq_true]
  constructor
  · rintro ⟨hm, ⟨hk, hf⟩, hl⟩
    obtain ⟨hmodel, hserial⟩ := (hfits hk).mp hf
    exact ⟨hm, hk, hmodel, hserial, hl⟩
  · rintro ⟨hm, hk, hmodel, hserial, hl⟩
    exact ⟨hm, ⟨hk, (hfits hk).mpr ⟨hmodel, hserial⟩⟩, hl⟩

theorem considered_sorted (k : MapMatch) (l : Lane) (f : Fingerprint) : (s.considered k l f).Pairwise (fun x y => x.1 < y.1) :=
  (entriesFrom_sorted 0 s.nameMap).filter _

/-- The lowest name of a block that passes the test of step 2 (R128). -/
theorem freeInBlock_eq_some {m : MapEntry} {n : Nat} : s.freeInBlock m = some n ↔
    (s.nameHeld n = false ∧ s.exactBase n = false) ∧ (m.base ≤ n ∧ n < m.base + m.span) ∧
      ∀ k, m.base ≤ k → k < n → ¬ (s.nameHeld k = false ∧ s.exactBase k = false) := by
  simp [State.freeInBlock, List.find?_range'_eq_some, or_iff_not_imp_left]

theorem freeInBlock_eq_none {m : MapEntry} : s.freeInBlock m = none ↔
    ∀ k, m.base ≤ k → k < m.base + m.span → ¬ (s.nameHeld k = false ∧ s.exactBase k = false) := by
  simp [State.freeInBlock]

theorem modelName_eq_none {xs : List (Nat × MapEntry)} (h : ∀ x ∈ xs, s.freeInBlock x.2 = none) : s.modelName xs = none := by
  induction xs with
  | nil => rfl
  | cons x rest ih =>
    simp only [State.modelName, h x (.head _)]
    exact ih fun y hy => h y (.tail _ hy)

/-- The lowest entry with a free name gives it (R128). -/
theorem modelName_eq_some {xs : List (Nat × MapEntry)} (hsorted : xs.Pairwise (fun x y => x.1 < y.1)) {i n : Nat} {m : MapEntry} (hm : (i, m) ∈ xs)
    (hn : s.freeInBlock m = some n) (hlow : ∀ y ∈ xs, s.freeInBlock y.2 ≠ none → i ≤ y.1) : s.modelName xs = some (n, i) := by
  induction xs with
  | nil => cases hm
  | cons x rest ih =>
    obtain ⟨hfirst, hrest⟩ := List.pairwise_cons.mp hsorted
    obtain rfl | hmem := List.mem_cons.mp hm
    · simp only [State.modelName, hn]
    · have hnone : s.freeInBlock x.2 = none := by
        by_contra h
        have hlt := hfirst _ hmem
        have hle := hlow x (.head _) h
        omega
      simp only [State.modelName, hnone]
      exact ih hrest hmem fun y hy => hlow y (.tail _ hy)

/-! ## Step 3: the provisional range -/

/-- A name of the provisional range that step 3 may take (R129). -/
def State.ProvisionalFree (s : State) (n : Nat) : Prop := s.range.low ≤ n ∧ n ≤ s.range.high ∧ s.nameHeld n = false ∧ s.nameCovered n = false

/-- From the cursor up, the first free name is the lowest there (R129). -/
theorem provisionalName_above (hs : s.rangeSound) {n : Nat} (hn : s.ProvisionalFree n) (hcursor : s.range.cursor ≤ n)
    (hlow : ∀ k, s.ProvisionalFree k → s.range.cursor ≤ k → n ≤ k) : s.provisionalName = some n := by
  obtain ⟨-, hbase, -, -⟩ := hs
  obtain ⟨-, hhigh, hheld, hcov⟩ := hn
  rw [State.provisionalName, NameRange.order, List.find?_append, List.find?_range'_eq_some.mpr, Option.some_or]
  refine ⟨by simp [hheld, hcov], by rw [List.mem_range'_1]; omega, fun k hk hkn => ?_⟩
  by_contra hfree
  simp only [Bool.not_eq_true', Bool.and_eq_true, Bool.not_eq_false] at hfree
  have := hlow k ⟨by omega, by omega, hfree.1, hfree.2⟩ hk
  omega

/-- With none from the cursor up, the lowest below it (R129). -/
theorem provisionalName_below (hs : s.rangeSound) {n : Nat} (hn : s.ProvisionalFree n) (hcursor : n < s.range.cursor)
    (hlow : ∀ k, s.ProvisionalFree k → k < s.range.cursor ∧ n ≤ k) : s.provisionalName = some n := by
  obtain ⟨-, hbase, htop, -⟩ := hs
  obtain ⟨hlo, -, hheld, hcov⟩ := hn
  have hnone : (List.range' s.range.cursor (s.range.high + 1 - s.range.cursor)).find? (fun n => !s.nameHeld n && !s.nameCovered n) = none := by
    refine List.find?_eq_none.mpr fun k hk hfree => ?_
    rw [List.mem_range'_1] at hk
    simp only [Bool.and_eq_true, Bool.not_eq_true'] at hfree
    have := hlow k ⟨by omega, by omega, hfree.1, hfree.2⟩
    omega
  rw [State.provisionalName, NameRange.order, List.find?_append, hnone, Option.none_or, List.find?_range'_eq_some]
  refine ⟨by simp [hheld, hcov], by rw [List.mem_range'_1]; omega, fun k hk hkn => ?_⟩
  by_contra hfree
  simp only [Bool.not_eq_true', Bool.and_eq_true, Bool.not_eq_false] at hfree
  have := hlow k ⟨by omega, by omega, hfree.1, hfree.2⟩
  omega

theorem provisionalName_eq_none (hs : s.rangeSound) (h : ∀ n, ¬ s.ProvisionalFree n) : s.provisionalName = none := by
  obtain ⟨-, hlow, hhigh, -⟩ := hs
  refine List.find?_eq_none.mpr fun k hk hfree => ?_
  simp only [NameRange.order, List.mem_append, List.mem_range'_1] at hk
  simp only [Bool.and_eq_true, Bool.not_eq_true'] at hfree
  exact h k ⟨by omega, by omega, hfree.1, hfree.2⟩

/-! ## The steps together -/

theorem resolve_pinned {l : Lane} {f : Fingerprint} {i : Nat} {m : MapEntry} (hm : (i, m) ∈ s.considered .exact l f)
    (hlow : ∀ y ∈ s.considered .exact l f, i ≤ y.1) :
    s.resolve l f = if s.nameHeld m.base then .held .nameClash else .named m.base .mapExact (some i) s.range.cursor := by
  obtain ⟨rest, hrest⟩ := eq_cons_of_lowest (considered_sorted ..) hm hlow
  rw [State.resolve, hrest]

theorem resolve_unpinned {l : Lane} {f : Fingerprint} (h : ∀ i m, (i, m) ∉ s.considered .exact l f) : s.resolve l f = s.resolveUnpinned l f := by
  have hnil : s.considered .exact l f = [] := List.eq_nil_iff_forall_not_mem.mpr fun x => h x.1 x.2
  rw [State.resolve, hnil]

theorem modelName_modArm (g : ArmLink → ArmLink) (s : State) (xs : List (Nat × MapEntry)) : (modArm g s).modelName xs = s.modelName xs := by
  induction xs with
  | nil => rfl
  | cons x rest ih =>
    simp only [State.modelName, ih]
    rfl

/-- A resolution does not look at the arm link. -/
theorem resolve_modArm (g : ArmLink → ArmLink) (s : State) (l : Lane) (f : Fingerprint) : (modArm g s).resolve l f = s.resolve l f := by
  have hunpinned : (modArm g s).resolveUnpinned l f = s.resolveUnpinned l f := by
    rw [State.resolveUnpinned, modelName_modArm]
    rfl
  rw [State.resolve, hunpinned]
  rfl

/-! ## Re-resolution of the HELD entries -/

/-- Re-resolving other slots keeps an entry. -/
theorem foldl_reresolveSlot_entry {js : List Nat} (h : slot ∉ js) (s : State) : (js.foldl reresolveSlot s).entry slot = s.entry slot := by
  induction js generalizing s with
  | nil => rfl
  | cons j js ih =>
    rw [List.mem_cons, not_or] at h
    rw [List.foldl_cons, ih h.2, reresolveSlot]
    split
    · exact (resolveEntry_keepsDevices (P := (· ≠ slot)) (Ne.symm h.1) .named s).others slot (by simp)
    · rfl

theorem foldl_reresolveSlot_of_none_held {js : List Nat} (h : ∀ j ∈ js, s.slotHeld j = false) : js.foldl reresolveSlot s = s := by
  induction js with
  | nil => rfl
  | cons j js ih =>
    rw [List.foldl_cons, reresolveSlot, h j (.head _)]
    exact ih fun i hi => h i (.tail _ hi)

theorem slotHeld_eq_true : s.slotHeld slot = true ↔ ∃ e, s.entry slot = some e ∧ e.state = .held := by
  unfold State.slotHeld
  split <;> simp_all

/-- The lowest HELD entry is resolved as the state stands (R132). -/
theorem reresolveHeld_lowest (he : s.entry slot = some e) (hheld : e.state = .held) (hsize : s.roster.length = 32)
    (hlow : ∀ j y, s.entry j = some y → y.state = .held → slot ≤ j) : (reresolveHeld s).entry slot = (resolveEntry slot .named s).entry slot := by
  have hslot : slot < 32 := hsize ▸ slot_lt_of_entry he
  have hsplit : List.range rosterSlots = List.range' 0 slot ++ slot :: List.range' (slot + 1) (31 - slot) := by
    rw [show rosterSlots = slot + (1 + (31 - slot)) by unfold rosterSlots; omega, List.range_eq_range', ← List.range'_append_1, ← List.range'_append_1]
    simp
  rw [reresolveHeld, hsplit, List.foldl_append, List.foldl_cons, foldl_reresolveSlot_of_none_held (js := List.range' 0 slot),
    foldl_reresolveSlot_entry (by simp), reresolveSlot, if_pos (slotHeld_eq_true.mpr ⟨e, he, hheld⟩)]
  intro j hj
  rw [List.mem_range'_1] at hj
  by_contra h
  obtain ⟨y, hy, hyheld⟩ := slotHeld_eq_true.mp (by simpa using h)
  have := hlow j y hy hyheld
  omega

/-- A HELD entry after its re-resolution: still HELD, or named in PROVING or LIVE. -/
def Entry.Resolved (e : Entry) : Prop := e.state = .held ∨ ((e.state = .proving ∨ e.state = .live) ∧ e.name.isSome = true)

theorem resolveEntry_resolved (he : s.entry slot = some e) (cause : DeviceCause) : ∃ z, (resolveEntry slot cause s).entry slot = some z ∧ z.Resolved := by
  cases hr : s.resolve e.lane e.fp with
  | named n src ref cursor =>
    exact ⟨_, resolveEntry_entry_named he hr cause, .inr ⟨proved_state .., by rw [proved_name]; rfl⟩⟩
  | held why => exact ⟨_, resolveEntry_entry_held he hr cause, .inl rfl⟩

theorem reresolveHeld_resolved (he : s.entry slot = some e) (h : e.Resolved) : ∃ z, (reresolveHeld s).entry slot = some z ∧ z.Resolved := by
  suffices hjs : ∀ (js : List Nat) (t : State), (∃ z, t.entry slot = some z ∧ z.Resolved) → ∃ z, (js.foldl reresolveSlot t).entry slot = some z ∧ z.Resolved from
    hjs _ s ⟨e, he, h⟩
  intro js
  induction js with
  | nil => exact fun t h => h
  | cons j js ih =>
    refine fun t ht => ih _ ?_
    obtain ⟨z, hz, hres⟩ := ht
    unfold reresolveSlot
    split
    · by_cases hj : j = slot
      · exact hj ▸ resolveEntry_resolved (hj ▸ hz) .named
      · exact ⟨z, ((resolveEntry_keepsDevices (P := (· ≠ slot)) hj .named t).others slot (by simp)).trans hz, hres⟩
    · exact ⟨z, hz, hres⟩

theorem device_eq_iff {y z : Entry} : z.device = y.device ↔ z.fp = y.fp ∧ z.lane = y.lane ∧ z.address = y.address := by
  simp only [Entry.device, Prod.mk.injEq]
  tauto

theorem KeepsDevices.entry_isSome {P : Nat → Prop} (h : KeepsDevices P s t) {y : Entry} (hy : s.entry slot = some y) :
    ∃ z, t.entry slot = some z ∧ z.device = y.device := by
  have hd := h.devices slot
  rw [hy, Option.map_some, Option.map_eq_some_iff] at hd
  exact hd

theorem KeepsDevices.entry_none {P : Nat → Prop} (h : KeepsDevices P s t) (hy : s.entry slot = none) : t.entry slot = none := by
  have hd := h.devices slot
  rwa [hy, Option.map_none, Option.map_eq_none_iff] at hd

@[simp] theorem placeFrame_entry (k : Nat) (f : ArmFrame) (t : State) (j : Nat) : (placeFrame k f t).entry j = t.entry j := rfl

/-- SET PROVISIONAL RANGE, carried out on the state that holds the RESPONSE's place. -/
theorem takeRequest_setProvisionalRange {tag low high : Octet} {rest : List Request} (h : s.Asked tag [0x0E, low, high] rest) (hlow : low ≠ 0) (hhigh : high ≠ 255)
    (hle : low.toNat ≤ high.toNat) : ∃ f, takeRequest .setProvisionalRange actSetProvisionalRange s =
      placeFrame s.arm.outbound.length f (setRange low.toNat high.toNat (s.taken tag [0x0E, low, high])) := by
  have hact : actOn actSetProvisionalRange [0x0E, low, high] (s.taken tag [0x0E, low, high]) =
      (⟨.ok, [low, high, octet (setRange low.toNat high.toNat (s.taken tag [0x0E, low, high])).range.cursor]⟩,
        setRange low.toNat high.toNat (s.taken tag [0x0E, low, high])) := actSetProvisionalRange_eq hlow hhigh hle _
  have htake := takeRequest_asked (row := .setProvisionalRange) (act := actSetProvisionalRange) h rfl
  rw [hact] at htake
  dsimp only at htake
  exact ⟨_, htake⟩

/-- Settles O36: the four steps of a resolution, each from what the roster, the map and the range hold; and the re-resolution of the HELD entries, lowest first. -/
theorem nameResolution : Obligations.NameResolution := by
  constructor
  · intro s l fp hs considered held covered exactBase inBlock provisional unpinned unmodelled
    have hcons (k : MapMatch) (i : Nat) (m : MapEntry) : considered k i m ↔ (i, m) ∈ s.considered k l fp := mem_considered.symm
    have hheld (n : Nat) : held n ↔ s.nameHeld n = true := nameHeld_eq_true.symm
    have hnotheld (n : Nat) : ¬ held n ↔ s.nameHeld n = false := by rw [hheld, Bool.not_eq_true]
    have hblock (m : MapEntry) (n : Nat) : inBlock m n ↔ (s.nameHeld n = false ∧ s.exactBase n = false) ∧ m.base ≤ n ∧ n < m.base + m.span := by
      rw [← hnotheld, ← Bool.not_eq_true, exactBase_eq_true]
      exact ⟨fun ⟨h1, h2, h3, h4⟩ => ⟨⟨h3, h4⟩, h1, h2⟩, fun ⟨⟨h3, h4⟩, h1, h2⟩ => ⟨h1, h2, h3, h4⟩⟩
    have hprov (n : Nat) : provisional n ↔ s.ProvisionalFree n := by
      rw [State.ProvisionalFree, ← hnotheld, ← Bool.not_eq_true, nameCovered_eq_true]
    have hunpinned (h : unpinned) : s.resolve l fp = s.resolveUnpinned l fp := resolve_unpinned fun i m hm => h i m ((hcons ..).mpr hm)
    have hunmodelled (h : unmodelled) : s.modelName (s.considered .model l fp) = none :=
      modelName_eq_none fun x hx => freeInBlock_eq_none.mpr fun k h1 h2 hfree =>
        h x.1 x.2 k ((hcons ..).mpr hx) ((hblock ..).mpr ⟨hfree, h1, h2⟩)
    refine ⟨fun i m hm hlow => ?_, fun i m n hun hm hn hfirst hlow => ?_, fun n hun hmod hn hfirst => ?_, fun hun hmod hnone => ?_⟩
    · have hpin := resolve_pinned ((hcons ..).mp hm) fun y hy => hlow y.1 y.2 ((hcons ..).mpr hy)
      exact ⟨fun hh => by rw [hpin, if_pos ((hheld _).mp hh)], fun hh => by rw [hpin, if_neg (mt (hheld _).mpr hh)]⟩
    · obtain ⟨hfree, hin⟩ := (hblock ..).mp hn
      have hname : s.modelName (s.considered .model l fp) = some (n, i) := by
        refine modelName_eq_some (considered_sorted ..) ((hcons ..).mp hm) (freeInBlock_eq_some.mpr ⟨hfree, hin, fun k hk hkn hkfree => ?_⟩) fun y hy hsome => ?_
        · have := hfirst k ((hblock ..).mpr ⟨hkfree, hk, by omega⟩)
          omega
        · obtain ⟨q, hq⟩ := Option.ne_none_iff_exists'.mp hsome
          obtain ⟨hqfree, hqin, -⟩ := freeInBlock_eq_some.mp hq
          exact hlow y.1 y.2 q ((hcons ..).mpr hy) ((hblock ..).mpr ⟨hqfree, hqin⟩)
      rw [hunpinned hun, State.resolveUnpinned, hname]
    · have hname : s.provisionalName = some n := by
        obtain ⟨hcursor, hlow⟩ | ⟨hcursor, hlow⟩ := hfirst
        · exact provisionalName_above hs ((hprov n).mp hn) hcursor fun k hk => hlow k ((hprov k).mpr hk)
        · exact provisionalName_below hs ((hprov n).mp hn) hcursor fun k hk => hlow k ((hprov k).mpr hk)
      rw [hunpinned hun, State.resolveUnpinned, hunmodelled hmod, hname]
      rfl
    · rw [hunpinned hun, State.resolveUnpinned, hunmodelled hmod, provisionalName_eq_none hs fun n hn => hnone n ((hprov n).mpr hn)]
  · intro s tag low high rest slot e h hlow hhigh hle hsize he hheld hfirst
    obtain ⟨f, hexec⟩ := takeRequest_setProvisionalRange h hlow hhigh hle
    obtain ⟨v, hv⟩ : ∃ v : State, v = { s.taken tag [0x0E, low, high] with range := ⟨low.toNat, high.toNat, low.toNat⟩ } := ⟨_, rfl⟩
    have hset : setRange low.toNat high.toNat (s.taken tag [0x0E, low, high]) = reresolveHeld v := by
      rw [hv]
      rfl
    have hentry (j : Nat) : v.entry j = s.entry j := by
      rw [hv]
      rfl
    have hresolve : State.resolve { s with range := ⟨low.toNat, high.toNat, low.toNat⟩ } e.lane e.fp = v.resolve e.lane e.fp := by
      rw [hv]
      exact (resolve_modArm (fun _ => (s.taken tag [0x0E, low, high]).arm) _ _ _).symm
    have hproved (x : Entry) : v.proved .named x = s.proved .named x := by
      rw [hv]
      cases x
      rfl
    have hkeeps := reresolveHeld_keepsDevices v
    rw [hset] at hexec
    rw [hresolve]
    have hplaced (j : Nat) : (placeFrame s.arm.outbound.length f (reresolveHeld v)).entry j = (reresolveHeld v).entry j := placeFrame_entry ..
    generalize placeFrame s.arm.outbound.length f (reresolveHeld v) = t at hexec hplaced
    refine ⟨t, congrArg Host.Outcome.next hexec, ?_, fun j y hy hyheld => ?_, fun j hj => (hplaced j).trans (hkeeps.entry_none ((hentry j).trans hj))⟩
    · have hve := (hentry slot).trans he
      have hlowest := reresolveHeld_lowest hve hheld (by rw [hv]; exact hsize) fun j y hy => hfirst j y ((hentry j).symm.trans hy)
      cases hr : v.resolve e.lane e.fp with
      | named n src ref cursor =>
        refine (hplaced slot).trans (hlowest.trans ((resolveEntry_entry_named hve hr .named).trans ?_))
        rw [hproved]
        exact congrArg some (proved_named_eq s e ⟨n, src, ref⟩)
      | held why =>
        refine (hplaced slot).trans (hlowest.trans ((resolveEntry_entry_held hve hr .named).trans ?_))
        rw [← hheld]
    · obtain ⟨z, hz, hres⟩ := reresolveHeld_resolved ((hentry j).trans hy) (.inl hyheld)
      obtain ⟨z', hz', hdev⟩ := hkeeps.entry_isSome ((hentry j).trans hy)
      obtain rfl : z' = z := Option.some.inj (hz'.symm.trans hz)
      obtain ⟨hfp, hlane, haddr⟩ := device_eq_iff.mp hdev
      exact ⟨z', (hplaced j).trans hz', hfp, hlane, haddr, hres⟩

end Sys2Proof.Machine
end

section
/-! PROOFS. SET PROVISIONAL RANGE (O33), NAME DEVICE (O34) and RELEASE (O35). -/

namespace Sys2Proof.Machine

variable {s t : State} {tag : Octet} {payload : List Octet} {rest : List Request} {row : RequestRow} {act : List Octet → State → Done} {slot : Nat} {e : Entry}

/-! ## Requests that leave the arm link alone -/

/-- A request whose action leaves the arm link alone: the part is as the action leaves it, with the RESPONSE at the back of the outbound queue. -/
theorem takeRequest_armless (h : s.Asked tag payload rest) (hrow : rowOf payload = row) {answer : Answer}
    (hact : actOn act payload (s.taken tag payload) = (answer, t)) (harm : t.arm = (s.taken tag payload).arm) : ∃ b : ArmLink,
      takeRequest row act s = { t with arm := b } ∧ b.outbound = s.arm.outbound ++
        [⟨0, .response, tag, requestCode payload :: octet answer.status.code :: octet t.notices.queue.length :: answer.data⟩] :=
  ⟨_, takeRequest_placed h hrow hact (behind := []) (by rw [harm]; exact taken_outbound h), rfl⟩

@[simp] theorem placed_entry (t : State) (b : ArmLink) (j : Nat) : ({ t with arm := b } : State).entry j = t.entry j := rfl

theorem reresolveHeld_naming (s : State) : Moves Scope.naming s (reresolveHeld s) := reresolveHeld_moves naming_names fun _ _ => trivial

theorem evalComplete_naming (l : Lane) (s : State) : Moves Scope.naming s (evalComplete l s) := evalComplete_moves naming_names.toEvals l s

theorem reresolveHeld_entry_of_unheld (he : s.entry slot = some e) (h : e.state ≠ .held) : (reresolveHeld s).entry slot = some e := by
  refine ((reresolveHeld_keepsDevices s).others slot fun hheld => ?_).trans he
  obtain ⟨f, hf, hfheld⟩ := slotHeld_eq_true.mp hheld
  obtain rfl : f = e := Option.some.inj (hf.symm.trans he)
  exact h hfheld

/-! ## SET PROVISIONAL RANGE -/

theorem setRange_bounds (low high : Nat) (s : State) : (setRange low high s).range.low = low ∧ (setRange low high s).range.high = high := by
  rw [setRange]
  exact (reresolveHeld_naming { s with range := ⟨low, high, low⟩ }).framed.bounds.resolve_left id

theorem setRange_cursor {low high : Nat} (h1 : 1 ≤ low) (h2 : low ≤ high) (h3 : high ≤ 254) (s : State) :
    low ≤ (setRange low high s).range.cursor ∧ (setRange low high s).range.cursor ≤ high := by
  have hb := setRange_bounds low high s
  have hsound := (reresolveHeld_naming { s with range := ⟨low, high, low⟩ }).bounded.range ⟨h1, Nat.le_refl low, h2, h3⟩
  rw [← setRange] at hsound
  generalize setRange low high s = t at hb hsound
  obtain ⟨hlow, hhigh⟩ := hb
  obtain ⟨-, hcl, hch, -⟩ := hsound
  exact ⟨hlow ▸ hcl, hhigh ▸ hch⟩

theorem setRange_power (low high : Nat) (s : State) : KeepsPower s (setRange low high s) :=
  (setRange_keepsPower ⟨low, high, low⟩ s).trans (reresolveHeld_keepsPower _)

theorem setRange_entry_of_unheld (he : s.entry slot = some e) (h : e.state ≠ .held) (low high : Nat) : (setRange low high s).entry slot = some e :=
  reresolveHeld_entry_of_unheld (s := { s with range := ⟨low, high, low⟩ }) he h

theorem actSetProvisionalRange_of_wrong {low high : Octet} (hbad : low = 0 ∨ low = 255 ∨ high = 0 ∨ high = 255 ∨ high.toNat < low.toNat) (t : State) :
    actSetProvisionalRange [low, high] t = refuse .badArgument t := by
  simp only [actSetProvisionalRange]
  split
  · next a b ha hb =>
    by_cases hlow : low = 0 ∨ low = 255
    · rw [deviceName_eq_none hlow] at ha
      cases ha
    · by_cases hhigh : high = 0 ∨ high = 255
      · rw [deviceName_eq_none hhigh] at hb
        cases hb
      · rw [not_or] at hlow hhigh
        rw [deviceName_eq_some hlow.1 hlow.2] at ha
        rw [deviceName_eq_some hhigh.1 hhigh.2] at hb
        cases ha
        cases hb
        refine if_pos ?_
        obtain h | h | h | h | h := hbad
        · exact absurd h hlow.1
        · exact absurd h hlow.2
        · exact absurd h hhigh.1
        · exact absurd h hhigh.2
        · exact h
  · rfl

/-- Settles O33: the refusals, the range alone without HELD entries, and with them the bounds of the cursor. -/
theorem setProvisionalRange : Obligations.SetProvisionalRange := by
  intro s tag low high rest h bad
  have hgood (hb : ¬ bad) : low ≠ 0 ∧ low ≠ 255 ∧ high ≠ 0 ∧ high ≠ 255 ∧ low.toNat ≤ high.toNat := by
    simp only [bad, not_or, Nat.not_lt] at hb
    exact hb
  refine ⟨fun hb => congrArg Host.Outcome.next (takeRequest_of_refuse h rfl (actSetProvisionalRange_of_wrong hb)), fun hb hunheld => ?_, fun hb => ?_⟩
  · obtain ⟨hlow, -, -, hhigh, hle⟩ := hgood hb
    refine congrArg Host.Outcome.next (takeRequest_of_ignoresArm h rfl (f := fun s => { s with range := ⟨low.toNat, high.toNat, low.toNat⟩ })
      (fun _ _ => rfl) ?_)
    have hunheld' : ∀ j x, (s.taken tag [0x0E, low, high]).entry j = some x → x.state ≠ .held := hunheld
    rw [actOn, actSetProvisionalRange_eq hlow hhigh hle, setRange_of_unheld hunheld']
    simp [done]
  · obtain ⟨hlow, -, -, hhigh, hle⟩ := hgood hb
    obtain ⟨f, hexec⟩ := takeRequest_setProvisionalRange h hlow hhigh hle
    have hb1 : 1 ≤ low.toNat := Nat.one_le_iff_ne_zero.mpr (toNat_ne_zero_of_ne_zero hlow)
    have hb2 : high.toNat ≤ 254 := by
      have h1 := high.isLt
      have h2 := toNat_ne_255 hhigh
      omega
    have hpower := setRange_power low.toNat high.toNat (s.taken tag [0x0E, low, high])
    have hentry (slot : Nat) (e : Entry) (he : s.entry slot = some e) (hn : e.state ≠ .held) :=
      setRange_entry_of_unheld (s := s.taken tag [0x0E, low, high]) he hn low.toNat high.toNat
    have hends := setRange_bounds low.toNat high.toNat (s.taken tag [0x0E, low, high])
    have hcursor := setRange_cursor hb1 hle hb2 (s.taken tag [0x0E, low, high])
    generalize setRange low.toNat high.toNat (s.taken tag [0x0E, low, high]) = t at hexec hpower hentry hends hcursor
    refine ⟨_, congrArg Host.Outcome.next hexec, hends.1, hends.2, hcursor.1, hcursor.2, hpower.nameMap, hentry, fun l => ?_⟩
    rw [placeFrame_lane, hpower.power, taken_lane]

/-! ## NAME DEVICE -/

/-- A PROVING entry at or above its threshold in use goes to LIVE (R111). -/
def State.crossed (s : State) (e : Entry) : Entry := if e.state = .proving ∧ s.thresholdInUse e ≤ e.clean then e.toLive s.now else e

theorem crossThreshold_entry (he : s.entry slot = some e) : (crossThreshold slot s).entry slot = some (s.crossed e) := by
  rw [crossThreshold, he, State.crossed]
  dsimp only
  split
  · exact enterLive_entry he _
  · exact he

theorem KeepsPower.crossed (h : KeepsPower s t) (e : Entry) : t.crossed e = s.crossed e := by
  rw [State.crossed, State.crossed, h.thresholdInUse, h.now]

/-- Going to LIVE changes neither the name nor the map reference nor the device, and a PROVING entry goes nowhere else. -/
theorem crossed_fields (s : State) (e : Entry) : (s.crossed e).name = e.name ∧ (s.crossed e).source = e.source ∧ (s.crossed e).mapRef = e.mapRef ∧
    (s.crossed e).held = e.held ∧ (s.crossed e).device = e.device ∧ ((s.crossed e).state = e.state ∨ (e.state = .proving ∧ (s.crossed e).state = .live)) := by
  unfold State.crossed
  split
  · next h => exact ⟨rfl, rfl, rfl, rfl, rfl, .inr ⟨h.1, rfl⟩⟩
  · exact ⟨rfl, rfl, rfl, rfl, rfl, .inl rfl⟩

theorem crossThreshold_keepsDevices {P : Nat → Prop} (hP : P slot) (s : State) : KeepsDevices P s (crossThreshold slot s) := by
  unfold crossThreshold
  split
  · split
    · exact moveEntry_keepsDevices (f := Entry.toLive s.now) (fun _ => rfl) hP ..
    · exact .refl s
  · exact .refl s

/-- What NAME DEVICE makes of its entry (R135). -/
def State.renamed (s : State) (e : Entry) (c : Carried) : Entry :=
  match e.state with
  | .held => s.proved .named (e.named c)
  | .proving => if e.mapRef.isSome then s.crossed (e.named c) else e.named c
  | .live | .suspect | .lost | .assigning => e.named c

theorem nameEntry_entry (he : s.entry slot = some e) (c : Carried) : (nameEntry slot e c s).entry slot = some (s.renamed e c) := by
  have hgive := giveName_entry he c
  cases hst : e.state with
  | held =>
    simp only [nameEntry, State.renamed, hst]
    rw [enterProving_entry hgive, State.proved, (giveName_keepsPower ..).compared, ← State.proved]
  | proving =>
    simp only [nameEntry, State.renamed, hst]
    split
    · rw [crossThreshold_entry hgive, (giveName_keepsPower ..).crossed]
    · exact hgive
  | live | suspect | lost | assigning =>
    simp only [nameEntry, State.renamed, hst]
    exact hgive

theorem nameEntry_keepsDevices (e : Entry) (c : Carried) (s : State) : KeepsDevices (· = slot) s (nameEntry slot e c s) := by
  have hgive : KeepsDevices (· = slot) s (giveName slot c s) := modEntry_keepsDevices (P := (· = slot)) (f := Entry.named c) (fun _ => rfl) rfl s
  unfold nameEntry
  split
  · exact hgive.trans (enterProving_keepsDevices (P := (· = slot)) rfl ..)
  · split
    · exact hgive.trans (crossThreshold_keepsDevices (P := (· = slot)) rfl _)
    · exact hgive
  all_goals exact hgive

theorem renamed_of_settled (h : e.state = .live ∨ e.state = .suspect ∨ e.state = .lost) (s : State) (c : Carried) : s.renamed e c = e.named c := by
  obtain h | h | h := h <;> simp [State.renamed, h]

/-- An entry in HELD or PROVING takes the name, and is in PROVING or LIVE. -/
theorem renamed_fields (h : e.state = .held ∨ e.state = .proving) (s : State) (c : Carried) : (s.renamed e c).name = some c.name ∧
    (s.renamed e c).source = some c.source ∧ (s.renamed e c).mapRef = c.mapRef ∧ (s.renamed e c).held = none ∧
    ((s.renamed e c).state = .proving ∨ (s.renamed e c).state = .live) := by
  obtain h | h := h
  · have hr : s.renamed e c = s.proved .named (e.named c) := by simp [State.renamed, h]
    rw [hr, proved_named_eq]
    split
    · exact ⟨rfl, rfl, rfl, rfl, .inr rfl⟩
    · exact ⟨rfl, rfl, rfl, rfl, .inl rfl⟩
  · simp only [State.renamed, h]
    split
    · obtain ⟨h1, h2, h3, h4, -, h5⟩ := crossed_fields s (e.named c)
      exact ⟨h1, h2, h3, h4, h5.imp (·.trans h) And.right⟩
    · exact ⟨rfl, rfl, rfl, rfl, .inl h⟩

theorem renamed_ne_held (s : State) (e : Entry) (c : Carried) : (s.renamed e c).state ≠ .held := by
  cases hst : e.state with
  | held => obtain ⟨-, -, -, -, h | h⟩ := renamed_fields (.inl hst) s c <;> simp [h]
  | proving => obtain ⟨-, -, -, -, h | h⟩ := renamed_fields (.inr hst) s c <;> simp [h]
  | live | suspect | lost | assigning => simp [State.renamed, hst, Entry.named]

/-- A HELD entry under a threshold above 0 proves, with its echo item pending (R99). -/
theorem renamed_of_held (h : e.state = .held) (hpass : 0 < (s.lane e.lane).options.passThreshold) (n : Nat) : (s.renamed e ⟨n, .request, none⟩).state = .proving ∧
    (s.renamed e ⟨n, .request, none⟩).clean = 0 ∧ (s.renamed e ⟨n, .request, none⟩).echo = true := by
  have hr : s.renamed e ⟨n, .request, none⟩ = s.proved .named (e.named ⟨n, .request, none⟩) := by simp [State.renamed, h]
  rw [hr, proved_named_eq, if_neg]
  · exact ⟨rfl, rfl, rfl⟩
  · exact hpass.ne'

/-- The entries after a NAME DEVICE: its own, and every other that is not HELD. -/
theorem nameDevice_entry (he : s.entry slot = some e) (n : Nat) : (nameDevice slot e n s).entry slot = some (s.renamed e ⟨n, .request, none⟩) ∧
    ∀ j y, j ≠ slot → s.entry j = some y → y.state ≠ .held → (nameDevice slot e n s).entry j = some y := by
  have hnamed (j : Nat) : (notifyNamed slot ⟨n, .request, none⟩ (nameEntry slot e ⟨n, .request, none⟩ s)).entry j =
    (nameEntry slot e ⟨n, .request, none⟩ s).entry j := notifyNamed_entry ..
  have hkeep (j : Nat) (y : Entry) (hy : (nameEntry slot e ⟨n, .request, none⟩ s).entry j = some y) (hn : y.state ≠ .held) :
      (nameDevice slot e n s).entry j = some y := by
    rw [nameDevice, evalComplete_entry, evalComplete_entry]
    split
    · exact reresolveHeld_entry_of_unheld ((hnamed j).trans hy) hn
    · exact (hnamed j).trans hy
  exact ⟨hkeep slot _ (nameEntry_entry he _) (renamed_ne_held s e _),
    fun j y hj hy hn => hkeep j y (((nameEntry_keepsDevices e _ s).others j hj).trans hy) hn⟩

/-- A name is taken by an entry in another slot, or is carried (R134). -/
theorem nameTaken_eq_true {n : Nat} : s.nameTaken slot n = true ↔ s.carriedName .a = some n ∨ s.carriedName .b = some n ∨
    ∃ j y, j ≠ slot ∧ s.entry j = some y ∧ y.name = some n := by
  simp only [State.nameTaken, State.nameCarried, Bool.or_eq_true, beq_iff_eq, List.any_eq_true, Prod.exists, mem_roster, Bool.and_eq_true, bne_iff_ne, or_assoc]
  exact or_congr_right (or_congr_right (exists₂_congr fun _ _ => and_left_comm))

/-- Settles O34: the refusals in their order, and what the naming makes of its entry and of the others. -/
theorem nameDeviceRequest : Obligations.NameDevice := by
  intro s tag a b c d e f n rest h fp holds taken
  refine ⟨fun hn => ?_, fun h0 h255 => ⟨fun hnone => ?_, fun slot x hx => ?_⟩⟩
  · refine congrArg Host.Outcome.next (takeRequest_of_refuse h rfl fun t => ?_)
    simp only [actNameDevice, deviceName_eq_none hn]
  · refine congrArg Host.Outcome.next (takeRequest_of_refusal h rfl ?_)
    simp only [actNameDevice, deviceName_eq_some h0 h255]
    rw [entryWithFp_none (s := s.taken tag [0x0F, a, b, c, d, e, f, n]) (f := fpOf a b c d e f) hnone]
  · obtain ⟨hx, hfp, hone⟩ := hx
    have hact (v : State) (hv : v = s.taken tag [0x0F, a, b, c, d, e, f, n]) : actNameDevice [a, b, c, d, e, f, n] v =
        if x.state = .assigning then refuse .busy v
        else if v.nameTaken slot n.toNat then refuse .nameInUse v
        else done [octet slot, octet (laneCode x.lane), octet ((nameDevice slot x n.toNat v).slotStateCode slot), n, octet (x.name.getD 0)]
          (nameDevice slot x n.toNat v) := by
      have hfind : v.entryWithFp (fpOf a b c d e f) = some (slot, x) := by
        rw [hv]
        exact entryWithFp_eq hx hfp hone
      simp only [actNameDevice, deviceName_eq_some h0 h255, hfind]
    have htaken (v : State) (hv : v = s.taken tag [0x0F, a, b, c, d, e, f, n]) : v.nameTaken slot n.toNat = true ↔ taken slot := by
      rw [nameTaken_eq_true, hv]
      exact Iff.rfl
    refine ⟨fun hassigning => ?_, fun hst htake => ?_, fun hst hfree => ?_⟩
    · refine congrArg Host.Outcome.next (takeRequest_of_refusal h rfl ?_)
      rw [hact _ rfl, if_pos hassigning]
    · refine congrArg Host.Outcome.next (takeRequest_of_refusal h rfl ?_)
      rw [hact _ rfl, if_neg hst, if_pos ((htaken _ rfl).mpr htake)]
    · obtain ⟨v, hv⟩ : ∃ v, v = s.taken tag [0x0F, a, b, c, d, e, f, n] := ⟨_, rfl⟩
      have hvfree : v.nameTaken slot n.toNat = false := by simpa using mt (htaken v hv).mp hfree
      have hve (j : Nat) : v.entry j = s.entry j := by rw [hv, taken_entry]
      have hvl (l : Lane) : v.lane l = s.lane l := by rw [hv, taken_lane]
      have hmoves := nameDevice_moves naming_names (fun _ => trivial) x hvfree
      have hacted : actOn actNameDevice [0x0F, a, b, c, d, e, f, n] (s.taken tag [0x0F, a, b, c, d, e, f, n]) =
          (⟨.ok, [octet slot, octet (laneCode x.lane), octet ((nameDevice slot x n.toNat v).slotStateCode slot), n, octet (x.name.getD 0)]⟩,
            nameDevice slot x n.toNat v) := by
        rw [← hv, actOn, hact v hv, if_neg hst, if_neg (by simp [hvfree])]
        rfl
      obtain ⟨arm, hexec, hout⟩ := takeRequest_armless (row := .nameDevice) h rfl hacted (by rw [← hv]; exact naming_arm hmoves)
      obtain ⟨hself, hothers⟩ := nameDevice_entry ((hve slot).trans hx) n.toNat
      have hmap : (nameDevice slot x n.toNat v).nameMap = s.nameMap := (hmoves.framed.nameMap.resolve_left id).trans (by rw [hv]; rfl)
      have hseq : (nameDevice slot x n.toNat v).seq = s.seq := (hmoves.framed.cycle.resolve_left id).trans (by rw [hv]; rfl)
      refine ⟨_, congrArg Host.Outcome.next hexec, fun hs => ?_, fun hs => ?_, fun j y hj hy hn => ?_, fun l => ?_, hmap, hseq, _, hout⟩
      · exact hself.trans (congrArg some (renamed_of_settled hs v _))
      · obtain ⟨h1, h2, h3, h4, h5⟩ := renamed_fields hs v ⟨n.toNat, .request, none⟩
        exact ⟨_, hself, h1, h2, h3, h4, h5, fun hheld hpass => renamed_of_held hheld (by rwa [hvl]) _⟩
      · exact hothers j y hj ((hve j).trans hy) hn
      · rw [placed_lane, hmoves.lane_of_naming l, hvl]
        exact ⟨rfl, rfl⟩

/-! ## RELEASE -/

theorem removeEntry_naming (slot : Nat) (c : DeviceCause) (s : State) : Moves Scope.naming s (removeEntry slot c s) :=
  removeEntry_moves naming_names trivial (fun _ _ => trivial) c

theorem addUnaddress_entry (l : Lane) (a : Nat) (s : State) (j : Nat) : (addUnaddress l a s).entry j = s.entry j := by
  unfold addUnaddress
  split
  · rfl
  · cases l <;> rfl

/-- An item joins the lane's own items at the back, once (R59). -/
theorem addUnaddress_lane (l : Lane) (a : Nat) (s : State) : (addUnaddress l a s).lane l = { s.lane l with
    unaddress := if a ∈ (s.lane l).unaddress then (s.lane l).unaddress else (s.lane l).unaddress ++ [a] } := by
  unfold addUnaddress
  split
  · rfl
  · exact modLane_lane ..

theorem addUnaddress_lane_other {k l : Lane} (h : k ≠ l) (a : Nat) (s : State) : (addUnaddress l a s).lane k = s.lane k := by
  unfold addUnaddress
  split
  · rfl
  · rw [eq_otherLane h]
    exact modLane_lane_other ..

theorem addUnaddress_arm (l : Lane) (a : Nat) (s : State) : (addUnaddress l a s).arm = s.arm ∧ (addUnaddress l a s).nameMap = s.nameMap ∧
    (addUnaddress l a s).seq = s.seq ∧ (addUnaddress l a s).notices = s.notices := by
  unfold addUnaddress
  split
  · exact ⟨rfl, rfl, rfl, rfl⟩
  · cases l <;> exact ⟨rfl, rfl, rfl, rfl⟩

theorem releaseEntry_arm (slot : Nat) (e : Entry) (s : State) : (releaseEntry slot e s).arm = s.arm ∧ (releaseEntry slot e s).nameMap = s.nameMap ∧
    (releaseEntry slot e s).seq = s.seq := by
  have hmoves := removeEntry_naming slot .released s
  obtain ⟨harm, hmap, hseq, -⟩ := addUnaddress_arm e.lane e.address (removeEntry slot .released s)
  exact ⟨harm.trans (naming_arm hmoves), hmap.trans (hmoves.framed.nameMap.resolve_left id), hseq.trans (hmoves.framed.cycle.resolve_left id)⟩

/-- A released entry is gone, and no other entry but a HELD one changes (R150). -/
theorem releaseEntry_entry (he : s.entry slot = some e) : (releaseEntry slot e s).entry slot = none ∧
    ∀ j y, j ≠ slot → s.entry j = some y → y.state ≠ .held → (releaseEntry slot e s).entry j = some y := by
  obtain ⟨hgone, -, -, hothers, -⟩ := removeEntry_spec he .released
  exact ⟨(addUnaddress_entry ..).trans hgone, fun j y hj hy hn => (addUnaddress_entry ..).trans (hothers j y hj hy hn)⟩

/-- Of the lanes, a release changes the items of the entry's lane, and completeness. -/
theorem releaseEntry_lane (slot : Nat) (e : Entry) (s : State) (l : Lane) : (releaseEntry slot e s).lane l = { s.lane l with
    unaddress := if l = e.lane ∧ e.address ∉ (s.lane l).unaddress then (s.lane l).unaddress ++ [e.address] else (s.lane l).unaddress
    complete := ((removeEntry slot .released s).lane l).complete } := by
  have hlane := (removeEntry_naming slot .released s).lane_of_naming l
  by_cases hl : l = e.lane
  · subst hl
    rw [releaseEntry, addUnaddress_lane, hlane]
    by_cases ha : e.address ∈ (s.lane e.lane).unaddress <;> simp [ha]
  · rw [releaseEntry, addUnaddress_lane_other hl, if_neg (fun h => hl h.1)]
    exact hlane

/-- Settles O35: the two refusals, and the removal with its UNADDRESS item. -/
theorem release : Obligations.Release := by
  intro s tag a b c d e f rest h fp
  refine ⟨fun hnone => ?_, fun slot x hx hfp hone => ?_⟩
  · refine congrArg Host.Outcome.next (takeRequest_of_refusal h rfl ?_)
    simp only [actRelease]
    rw [entryWithFp_none (s := s.taken tag [0x10, a, b, c, d, e, f]) (f := fpOf a b c d e f) hnone]
  · have hact (v : State) (hv : v = s.taken tag [0x10, a, b, c, d, e, f]) : actRelease [a, b, c, d, e, f] v =
        if v.censusRunning x.lane then refuse .busy v
        else done [octet slot, octet (laneCode x.lane), octet x.address, octet (x.name.getD 0), octet x.state.code] (releaseEntry slot x v) := by
      have hfind : v.entryWithFp (fpOf a b c d e f) = some (slot, x) := by
        rw [hv]
        exact entryWithFp_eq hx hfp hone
      simp only [actRelease, hfind]
    have hrunning (v : State) (hv : v = s.taken tag [0x10, a, b, c, d, e, f]) : v.censusRunning x.lane = true ↔ (s.lane x.lane).census.run ≠ .idle := by
      rw [censusRunning_eq_true, hv, taken_lane]
    refine ⟨fun hrun => ?_, fun hidle => ?_⟩
    · refine congrArg Host.Outcome.next (takeRequest_of_refusal h rfl ?_)
      rw [hact _ rfl, if_pos ((hrunning _ rfl).mpr hrun)]
    · obtain ⟨v, hv⟩ : ∃ v, v = s.taken tag [0x10, a, b, c, d, e, f] := ⟨_, rfl⟩
      have hve (j : Nat) : v.entry j = s.entry j := by rw [hv, taken_entry]
      have hvl (l : Lane) : v.lane l = s.lane l := by rw [hv, taken_lane]
      have hacted : actOn actRelease [0x10, a, b, c, d, e, f] (s.taken tag [0x10, a, b, c, d, e, f]) =
          (⟨.ok, [octet slot, octet (laneCode x.lane), octet x.address, octet (x.name.getD 0), octet x.state.code]⟩, releaseEntry slot x v) := by
        rw [← hv, actOn, hact v hv, if_neg (mt (hrunning v hv).mp (not_not_intro hidle))]
        rfl
      obtain ⟨harm, hmap, hseq⟩ := releaseEntry_arm slot x v
      obtain ⟨arm, hexec, hout⟩ := takeRequest_armless (row := .release) h rfl hacted (by rw [← hv]; exact harm)
      obtain ⟨hgone, hothers⟩ := releaseEntry_entry ((hve slot).trans hx)
      refine ⟨_, congrArg Host.Outcome.next hexec, hgone, ?_, ?_, fun j y hj hy hn => hothers j y hj ((hve j).trans hy) hn, fun l => ?_,
        hmap.trans (by rw [hv]; rfl), hseq.trans (by rw [hv]; rfl), hout⟩
      · rw [placed_lane, releaseEntry_lane, hvl]
        by_cases ha : x.address ∈ (s.lane x.lane).unaddress <;> simp [ha]
      · rw [placed_lane, releaseEntry_lane, hvl]
        exact if_neg fun hl => otherLane_ne x.lane hl.1
      · rw [placed_lane, releaseEntry_lane, hvl]
        exact ⟨rfl, rfl, rfl⟩

end Sys2Proof.Machine
end

section
/-! PROOFS. MAP WRITE, MAP READ (O31) and MAP CLEAR (O32). -/

namespace Sys2Proof.Machine

variable {s t : State} {tag : Octet} {rest : List Request} {slot : Nat} {e : Entry} {hit : Nat → Bool}

/-! ## Folds over the slots -/

/-- An operation carried out slot by slot, each time on its own slot alone: a slot is as its own turn makes it, which meets it as it stood at first. -/
theorem foldl_slots_entry {f : State → Nat → State} (hother : ∀ t j i, j ≠ i → (f t j).entry i = t.entry i) (hslot : slot < 32) (s : State) :
    ((List.range rosterSlots).foldl f s).entry slot = (f ((List.range' 0 slot).foldl f s) slot).entry slot ∧
      ((List.range' 0 slot).foldl f s).entry slot = s.entry slot := by
  have hkeep (js : List Nat) (t : State) (hjs : slot ∉ js) : (js.foldl f t).entry slot = t.entry slot := by
    induction js generalizing t with
    | nil => rfl
    | cons j js ih =>
      rw [List.mem_cons, not_or] at hjs
      rw [List.foldl_cons, ih _ hjs.2, hother t j slot (Ne.symm hjs.1)]
  have hsplit : List.range rosterSlots = List.range' 0 slot ++ slot :: List.range' (slot + 1) (31 - slot) := by
    rw [show rosterSlots = slot + (1 + (31 - slot)) by unfold rosterSlots; omega, List.range_eq_range', ← List.range'_append_1, ← List.range'_append_1]
    simp
  refine ⟨?_, hkeep _ s (by simp)⟩
  rw [hsplit, List.foldl_append, List.foldl_cons, hkeep _ _ (by simp)]

/-! ## The effects on the roster -/

/-- An entry that may have lost its map reference, its clean count compared again (R123). -/
def State.unreferred (s : State) (hit : Nat → Bool) (e : Entry) : Entry := if refersTo hit e.mapRef then s.crossed { e with mapRef := none } else e

theorem dropRef_entry (he : s.entry slot = some e) (hit : Nat → Bool) : (dropRef hit s slot).entry slot = some (s.unreferred hit e) := by
  rw [dropRef, he, State.unreferred]
  dsimp only
  split
  · rw [crossThreshold_entry (entry_modified he _), (setEntry_keepsPower ..).crossed]
  · exact he

theorem dropRef_keepsDevices (hit : Nat → Bool) (s : State) (slot : Nat) : KeepsDevices (· = slot) s (dropRef hit s slot) := by
  unfold dropRef
  split
  · next e he =>
    split
    · exact (setEntry_keepsDevices (P := (· = slot)) (f := { e with mapRef := none }) rfl he rfl).trans (crossThreshold_keepsDevices (P := (· = slot)) rfl _)
    · exact .refl s
  · exact .refl s

/-- Losing a map reference leaves the name and the device; a HELD entry has no other way in. -/
theorem unreferred_fields (s : State) (hit : Nat → Bool) (e : Entry) : (s.unreferred hit e).name = e.name ∧ (s.unreferred hit e).source = e.source ∧
    (s.unreferred hit e).device = e.device ∧ (s.unreferred hit e).mapRef = (if refersTo hit e.mapRef then none else e.mapRef) ∧
    (e.state ≠ .held → (s.unreferred hit e).state ≠ .held) := by
  unfold State.unreferred
  split
  · obtain ⟨hname, hsource, href, -, hdev, hstate⟩ := crossed_fields s { e with mapRef := none }
    refine ⟨hname, hsource, hdev, href, fun hn => ?_⟩
    obtain h | ⟨-, h⟩ := hstate
    · rwa [h]
    · simp [h]
  · exact ⟨rfl, rfl, rfl, rfl, id⟩

/-- The roster once the references to what changed are gone. -/
def unrefer (hit : Nat → Bool) (s : State) : State := (List.range rosterSlots).foldl (dropRef hit) s

theorem unrefer_entry (he : s.entry slot = some e) (hsize : s.roster.length = 32) (hit : Nat → Bool) :
    ∃ u, (unrefer hit s).entry slot = some (State.unreferred u hit e) := by
  obtain ⟨hfold, hsame⟩ := foldl_slots_entry (f := dropRef hit) (fun t j i hij => (dropRef_keepsDevices hit t j).others i (Ne.symm hij))
    (hsize ▸ slot_lt_of_entry he) s
  exact ⟨_, hfold.trans (dropRef_entry (hsame.trans he) hit)⟩

theorem unrefer_naming (hit : Nat → Bool) (s : State) : Moves Scope.naming s (unrefer hit s) :=
  foldl_moves (fun _ _ => dropRef_moves trivial trivial hit _) _ s

/-- A Census Engine whose find in hand may have lost a carried reference. -/
def Census.unreferred (hit : Nat → Bool) (c : Census) : Census :=
  { c with find := c.find.map (fun x => { x with carried := x.carried.map (Carried.dropRef hit) }) }

theorem mapChanged_eq (hit : Nat → Bool) (s : State) :
    mapChanged hit s = evalComplete .b (evalComplete .a (reresolveHeld (dropCarried hit .b (dropCarried hit .a (unrefer hit s))))) := by
  simp only [mapChanged, bothLanes, unrefer]

/-- The carried references of both Census Engines. -/
theorem dropBoth_frame (hit : Nat → Bool) (u : State) : (dropCarried hit .b (dropCarried hit .a u)).arm = u.arm ∧
    (dropCarried hit .b (dropCarried hit .a u)).seq = u.seq ∧ (dropCarried hit .b (dropCarried hit .a u)).profiles = u.profiles ∧
    (dropCarried hit .b (dropCarried hit .a u)).nameMap = u.nameMap ∧ (dropCarried hit .b (dropCarried hit .a u)).roster = u.roster :=
  ⟨rfl, rfl, rfl, rfl, rfl⟩

theorem mapChanged_settles (hit : Nat → Bool) (s : State) :
    Moves Scope.naming (dropCarried hit .b (dropCarried hit .a (unrefer hit s))) (mapChanged hit s) := by
  rw [mapChanged_eq]
  exact Relation.ReflTransGen.trans (reresolveHeld_naming _) ((evalComplete_naming .a _).trans (evalComplete_naming .b _))

theorem mapChanged_arm (hit : Nat → Bool) (s : State) : (mapChanged hit s).arm = s.arm ∧ (mapChanged hit s).seq = s.seq ∧
    (mapChanged hit s).profiles = s.profiles ∧ (mapChanged hit s).nameMap = s.nameMap := by
  have hfirst := unrefer_naming hit s
  have hlast := mapChanged_settles hit s
  obtain ⟨harm, hseq, hprofiles, hmap, -⟩ := dropBoth_frame hit (unrefer hit s)
  exact ⟨(naming_arm hlast).trans (harm.trans (naming_arm hfirst)),
    (hlast.framed.cycle.resolve_left id).trans (hseq.trans (hfirst.framed.cycle.resolve_left id)),
    (hlast.framed.profiles.resolve_left id).trans (hprofiles.trans (hfirst.framed.profiles.resolve_left id)),
    (hlast.framed.nameMap.resolve_left id).trans (hmap.trans (hfirst.framed.nameMap.resolve_left id))⟩

/-- Of a lane, a change of the map changes a carried reference and completeness. -/
theorem mapChanged_lane (hit : Nat → Bool) (s : State) (l : Lane) : (mapChanged hit s).lane l =
    { s.lane l with
      census := (s.lane l).census.unreferred hit
      complete := ((mapChanged hit s).lane l).complete } := by
  have hdrop (u : State) : (dropCarried hit .b (dropCarried hit .a u)).lane l = { u.lane l with census := (u.lane l).census.unreferred hit } := by
    cases l <;> rfl
  have hfirst := (unrefer_naming hit s).lane_of_naming l
  have hlast := (mapChanged_settles hit s).lane_of_naming l
  rw [hdrop, hfirst] at hlast
  exact hlast

/-- A change of the map renames no device: an entry that is not HELD loses at most its map reference (R123). -/
theorem mapChanged_entry (he : s.entry slot = some e) (hsize : s.roster.length = 32) (hn : e.state ≠ .held) (hit : Nat → Bool) :
    ∃ y, (mapChanged hit s).entry slot = some y ∧ y.name = e.name ∧ y.source = e.source ∧ y.device = e.device ∧
      y.mapRef = if refersTo hit e.mapRef then none else e.mapRef := by
  obtain ⟨u, hu⟩ := unrefer_entry he hsize hit
  obtain ⟨hname, hsource, hdev, href, hstate⟩ := unreferred_fields u hit e
  refine ⟨_, ?_, hname, hsource, hdev, href⟩
  obtain ⟨-, -, -, -, hroster⟩ := dropBoth_frame hit (unrefer hit s)
  rw [mapChanged_eq, evalComplete_entry, evalComplete_entry]
  refine reresolveHeld_entry_of_unheld ?_ (hstate hn)
  rw [State.entry, hroster]
  exact hu

theorem refersTo_only (i : Nat) (r : Option Nat) : refersTo (only i) r = true ↔ r = some i := by
  cases r <;> simp [refersTo, only]

/-! ## MAP WRITE -/

/-- A stored MAP WRITE, behind its RESPONSE's place. -/
theorem mapWrite_stored {args : List Octet} {i : Octet} {m : MapEntry} {c : Bool} (h : s.Asked tag (0x0B :: args) rest) (hsize : s.roster.length = 32)
    (hact : ∀ t, actMapWrite args t = storeMap i m c t) : ∃ t, exec .mapWrite s = .next t ∧ t.nameMap = s.nameMap.set i.toNat (some m) ∧
      (∀ slot x, s.entry slot = some x → x.state ≠ .held → ∃ y, t.entry slot = some y ∧ y.name = x.name ∧ y.source = x.source ∧
        y.fp = x.fp ∧ y.lane = x.lane ∧ y.address = x.address ∧ y.mapRef = if x.mapRef = some i.toNat then none else x.mapRef) ∧
      (∀ l, (t.lane l).power = (s.lane l).power ∧ (t.lane l).exch = (s.lane l).exch ∧ (t.lane l).census.run = (s.lane l).census.run) ∧
      t.seq = s.seq ∧ t.profiles = s.profiles ∧
      ∃ st data, t.arm.outbound = s.arm.outbound ++ [⟨0, .response, tag, 0x0B :: octet (Status.code st) :: octet t.notices.queue.length :: data⟩] ∧
        (c = true → st = .clamped) ∧ (c = false → st = .ok) ∧ data[1]? = some 1 ∧ data[11]? = some (octet m.span) := by
  obtain ⟨v, hv⟩ : ∃ v, v = setMap i.toNat (some m) (s.taken tag (0x0B :: args)) := ⟨_, rfl⟩
  have hacted : actOn actMapWrite (0x0B :: args) (s.taken tag (0x0B :: args)) = (⟨if c then .clamped else .ok,
      i :: m.octets ++ [octet ((s.taken tag (0x0B :: args)).referring (only i.toNat))]⟩, mapChanged (only i.toNat) v) := by
    rw [hv]
    exact hact _
  obtain ⟨harm, hseq, hprofiles, hmap⟩ := mapChanged_arm (only i.toNat) v
  obtain ⟨b, hexec, hout⟩ := takeRequest_armless (row := .mapWrite) h rfl hacted (by rw [harm, hv]; rfl)
  have hentry (slot : Nat) (x : Entry) (hx : s.entry slot = some x) (hn : x.state ≠ .held) :=
    mapChanged_entry (s := v) (slot := slot) (by rw [hv]; exact hx) (by rw [hv]; exact hsize) hn (only i.toNat)
  have hlane (l : Lane) : (mapChanged (only i.toNat) v).lane l = { s.lane l with
      census := (s.lane l).census.unreferred (only i.toNat)
      complete := ((mapChanged (only i.toNat) v).lane l).complete } := by
    have hvl : v.lane l = s.lane l := by
      rw [hv]
      exact taken_lane s tag (0x0B :: args) l
    rw [mapChanged_lane, hvl]
  generalize mapChanged (only i.toNat) v = w at hmap hseq hprofiles hexec hout hentry hlane
  refine ⟨{ w with arm := b }, congrArg Host.Outcome.next hexec, hmap.trans (by rw [hv]; rfl), fun slot x hx hn => ?_, fun l => ?_,
    hseq.trans (by rw [hv]; rfl), hprofiles.trans (by rw [hv]; rfl), _, _, hout, fun hc => if_pos hc, fun hc => if_neg (by simp [hc]), rfl, rfl⟩
  · obtain ⟨y, hy, hname, hsource, hdev, href⟩ := hentry slot x hx hn
    obtain ⟨hfp, hlane, haddr⟩ := device_eq_iff.mp hdev
    simp only [refersTo_only] at href
    exact ⟨y, hy, hname, hsource, hfp, hlane, haddr, href⟩
  · rw [placed_lane, hlane]
    exact ⟨rfl, rfl, rfl⟩

section
variable {i k r base prof : Octet}

/-- The fields that MAP WRITE accepts (R121). -/
def FieldsRight (i k r base prof : Octet) : Prop :=
  i.toNat ≤ 63 ∧ (k = 1 ∨ k = 2) ∧ (r = 1 ∨ r = 2 ∨ r = 3) ∧ base ≠ 0 ∧ base ≠ 255 ∧ prof.toNat ≤ 3

theorem mapFields_of_right (h : FieldsRight i k r base prof) : mapFields i k r base prof =
    some ⟨if k = 1 then .exact else .model, if r = 1 then some .a else if r = 2 then some .b else none, base.toNat, prof.toNat⟩ := by
  obtain ⟨hi, hk, hr, h0, h255, hp⟩ := h
  rw [mapFields, deviceName_eq_some h0 h255]
  have hmatch : matchOf k = some (if k = 1 then .exact else .model) := by obtain rfl | rfl := hk <;> rfl
  have hrestrict : restrictionOf r = some (if r = 1 then some .a else if r = 2 then some .b else none) := by obtain rfl | rfl | rfl := hr <;> rfl
  rw [hmatch, hrestrict]
  exact if_pos ⟨hi, hp⟩

theorem matchOf_eq_none (h1 : k ≠ 1) (h2 : k ≠ 2) : matchOf k = none := by
  unfold matchOf
  split
  · next h => exact absurd (BitVec.eq_of_toNat_eq h) h1
  · next h => exact absurd (BitVec.eq_of_toNat_eq h) h2
  · rfl

theorem restrictionOf_eq_none (h1 : r ≠ 1) (h2 : r ≠ 2) (h3 : r ≠ 3) : restrictionOf r = none := by
  unfold restrictionOf
  split
  · next h => exact absurd (BitVec.eq_of_toNat_eq h) h1
  · next h => exact absurd (BitVec.eq_of_toNat_eq h) h2
  · next h => exact absurd (BitVec.eq_of_toNat_eq h) h3
  · rfl

theorem fields_of_mapFields {f : MapFields} (h : mapFields i k r base prof = some f) : FieldsRight i k r base prof := by
  unfold mapFields at h
  split at h
  · next hk hr hb =>
    split at h
    · next hip =>
      have hbase : ¬ (base = 0 ∨ base = 255) := fun hn => by simp [deviceName_eq_none hn] at hb
      rw [not_or] at hbase
      refine ⟨hip.1, ?_, ?_, hbase.1, hbase.2, hip.2⟩
      · by_contra hn
        rw [not_or] at hn
        simp [matchOf_eq_none hn.1 hn.2] at hk
      · by_contra hn
        simp only [not_or] at hn
        simp [restrictionOf_eq_none hn.1 hn.2.1 hn.2.2] at hr
    · cases h
  · cases h

theorem mapFields_of_wrong (h : ¬ FieldsRight i k r base prof) : mapFields i k r base prof = none :=
  Option.eq_none_iff_forall_ne_some.mpr fun _ hf => h (fields_of_mapFields hf)

end

/-- The entry that the accepted fields of a MAP WRITE make, with its override (R121). -/
theorem mapEntry_of_fields {k r base prof : Octet} (hk : k = 1 ∨ k = 2) (makerModel serial : BitVec 24) (span req : Octet) (ov : Option Octet) :
    MapFields.entry ⟨if k = 1 then .exact else .model, if r = 1 then some .a else if r = 2 then some .b else none, base.toNat, prof.toNat⟩
      makerModel serial span req ov =
    ⟨if k = 1 then .exact else .model, makerModel, if k = 1 then serial else 0, if r = 1 then some .a else if r = 2 then some .b else none, base.toNat,
      if k = 1 then 1 else min (min 16 (max 1 span.toNat)) (255 - base.toNat), prof.toNat, ov.map (fun o => min 15 o.toNat), req.getLsbD 0⟩ := by
  obtain rfl | rfl := hk <;> simp [MapFields.entry, storedSpan, clamp]

theorem clamped_eq_true {m : MapEntry} {span : Octet} {ov : Option Octet} : m.clamped span ov = true ↔
    (m.kind = .model ∧ m.span ≠ span.toNat) ∨ m.override ≠ ov.map BitVec.toNat := by
  simp [MapEntry.clamped]

theorem exec_mapRead {i : Octet} (h : s.Asked tag [0x0D, i] rest) (hi : i.toNat ≤ 63) :
    exec .mapRead s = .next (s.answered rest tag 0x0D .ok (i :: mapRecord (s.mapEntry i.toNat))) :=
  congrArg Host.Outcome.next (takeRequest_of_read h rfl (if_neg (Nat.not_lt.mpr hi)))

/-- Settles O31: the checks, the entry stored, and the entries of the roster under it; and what MAP READ gives. -/
theorem mapWrite : Obligations.MapWrite := by
  intro s tag i k m1 m2 m3 s1 s2 s3 r base span prof req o rest bad fields stored clampedSpan effect hsize
  have hright (hb : ¬ bad) : FieldsRight i k r base prof := by
    simp only [bad, not_or, not_and_or, not_not, Nat.not_lt] at hb
    obtain ⟨hi, hk, hr, h0, h255, hp⟩ := hb
    exact ⟨hi, by tauto, by tauto, h0, h255, hp⟩
  have hwrong (hb : bad) : ¬ FieldsRight i k r base prof := by
    rintro ⟨hi, hk, hr, h0, h255, hp⟩
    simp only [bad] at hb
    obtain h | h | h | h | h | h := hb
    · omega
    · tauto
    · tauto
    · exact h0 h
    · exact h255 h
    · omega
  have hspan {ov : Option Nat} (hb : ¬ bad) : ((stored ov).kind = .model ∧ (stored ov).span ≠ span.toNat) ↔ clampedSpan := by
    obtain ⟨-, hk, -⟩ := hright hb
    obtain rfl | rfl := hk
    · simp [stored, clampedSpan]
    · simp [stored, clampedSpan]
  refine ⟨fun h => ⟨fun hb => ?_, fun hb => ?_⟩, fun h => ?_, fun h => ⟨fun hi => ?_, fun hi hnone => ?_, fun e hi he => ?_⟩⟩
  · refine congrArg Host.Outcome.next (takeRequest_of_refuse h rfl fun t => ?_)
    simp only [actMapWrite, fields, mapFields_of_wrong (hwrong hb)]
  · have hentry : MapFields.entry _ (code24 m1 m2 m3) (code24 s1 s2 s3) span req none = stored none := mapEntry_of_fields (hright hb).2.1 ..
    obtain ⟨t, hexec, hmap, hentries, hlanes, hseq, hprofiles, st, data, hout, hclamped, hok, hdata⟩ := mapWrite_stored (i := i) (m := stored none)
      (c := (stored none).clamped span none) h hsize fun t => by simp only [actMapWrite, fields, mapFields_of_right (hright hb), hentry]
    have hiff : (stored none).clamped span none = true ↔ clampedSpan := by
      rw [clamped_eq_true, hspan hb]
      exact or_iff_left (not_not_intro rfl)
    exact ⟨t, hexec, hmap, hentries, hlanes, hseq, hprofiles, st, data, hout, fun hc => hclamped (hiff.mpr hc),
      fun hc => hok (Bool.not_eq_true _ ▸ mt hiff.mp hc), hdata⟩
  · replace h : s.Asked tag (0x0B :: [i, k, m1, m2, m3, s1, s2, s3, r, base, span, prof, req, o]) rest := h
    refine ⟨fun hb => ?_, fun hb => ?_⟩
    · refine congrArg Host.Outcome.next (takeRequest_of_refuse h rfl fun t => ?_)
      simp only [actMapWrite, mapFields_of_wrong (hwrong hb)]
    · have hentry : MapFields.entry _ (code24 m1 m2 m3) (code24 s1 s2 s3) span req (some o) = stored (some (min 15 o.toNat)) :=
        mapEntry_of_fields (hright hb).2.1 ..
      obtain ⟨t, hexec, hmap, hentries, hlanes, hseq, hprofiles, st, data, hout, hclamped, hok, hdata⟩ :=
        mapWrite_stored (i := i) (m := stored (some (min 15 o.toNat))) (c := (stored (some (min 15 o.toNat))).clamped span (some o)) h hsize
          fun t => by simp only [actMapWrite, mapFields_of_right (hright hb), hentry]
      have hiff : (stored (some (min 15 o.toNat))).clamped span (some o) = true ↔ clampedSpan ∨ 15 < o.toNat := by
        rw [clamped_eq_true, hspan hb]
        refine or_congr_right ?_
        simp only [stored, Option.map_some, ne_eq, Option.some.injEq]
        omega
      exact ⟨t, hexec, hmap, hentries, hlanes, hseq, hprofiles, st, data, hout, fun hc => hclamped (hiff.mpr hc),
        fun hc => hok (Bool.not_eq_true _ ▸ mt hiff.mp hc), hdata⟩
  · exact congrArg Host.Outcome.next (takeRequest_of_refuse h rfl fun t => if_pos hi)
  · rw [exec_mapRead h hi, hnone]
    rfl
  · rw [exec_mapRead h hi, he]
    rfl

/-! ## MAP CLEAR -/

/-- A carried-out MAP CLEAR, behind its RESPONSE's place. -/
theorem mapClear_cleared {i : Octet} {hit : Nat → Bool} {table : List (Option MapEntry)} (h : s.Asked tag [0x0C, i] rest) (hsize : s.roster.length = 32)
    (hact : actMapClear [i] (s.taken tag [0x0C, i]) = done [i, octet ((s.taken tag [0x0C, i]).referring hit)]
      (mapChanged hit { s.taken tag [0x0C, i] with nameMap := table })) : ∃ t, exec .mapClear s = .next t ∧ t.nameMap = table ∧
      (∀ slot x, s.entry slot = some x → x.state ≠ .held → ∃ y, t.entry slot = some y ∧ y.name = x.name ∧ y.source = x.source ∧
        y.fp = x.fp ∧ y.mapRef = if refersTo hit x.mapRef then none else x.mapRef) ∧
      (∀ l, (t.lane l).power = (s.lane l).power ∧ (t.lane l).exch = (s.lane l).exch) ∧ t.seq = s.seq ∧ t.profiles = s.profiles ∧
      ∃ data, t.arm.outbound = s.arm.outbound ++ [⟨0, .response, tag, 0x0C :: 0 :: octet t.notices.queue.length :: i :: data⟩] := by
  obtain ⟨v, hv⟩ : ∃ v, v = { s.taken tag [0x0C, i] with nameMap := table } := ⟨_, rfl⟩
  have hacted : actOn actMapClear [0x0C, i] (s.taken tag [0x0C, i]) = (⟨.ok, [i, octet ((s.taken tag [0x0C, i]).referring hit)]⟩, mapChanged hit v) := by
    rw [hv]
    exact hact
  obtain ⟨harm, hseq, hprofiles, hmap⟩ := mapChanged_arm hit v
  obtain ⟨b, hexec, hout⟩ := takeRequest_armless (row := .mapClear) h rfl hacted (by rw [harm, hv])
  have hentry (slot : Nat) (x : Entry) (hx : s.entry slot = some x) (hn : x.state ≠ .held) :=
    mapChanged_entry (s := v) (slot := slot) (by rw [hv]; exact hx) (by rw [hv]; exact hsize) hn hit
  have hlane (l : Lane) : (mapChanged hit v).lane l = { s.lane l with
      census := (s.lane l).census.unreferred hit
      complete := ((mapChanged hit v).lane l).complete } := by
    have hvl : v.lane l = s.lane l := by
      rw [hv]
      exact taken_lane s tag [0x0C, i] l
    rw [mapChanged_lane, hvl]
  generalize mapChanged hit v = w at hmap hseq hprofiles hexec hout hentry hlane
  refine ⟨{ w with arm := b }, congrArg Host.Outcome.next hexec, hmap.trans (by rw [hv]), fun slot x hx hn => ?_, fun l => ?_,
    hseq.trans (by rw [hv]; rfl), hprofiles.trans (by rw [hv]; rfl), _, hout⟩
  · obtain ⟨y, hy, hname, hsource, hdev, href⟩ := hentry slot x hx hn
    exact ⟨y, hy, hname, hsource, (device_eq_iff.mp hdev).1, href⟩
  · rw [placed_lane, hlane]
    exact ⟨rfl, rfl⟩

theorem mapEntry_of_table {table : List (Option MapEntry)} (h : s.nameMap = table) (j : Nat) : s.mapEntry j = table.getD j none := by
  rw [State.mapEntry, h]

/-- Settles O32: one index, or all of them. -/
theorem mapClear : Obligations.MapClear := by
  intro s tag i rest h hsize
  refine ⟨fun hi h255 => ?_, fun hi => ?_⟩
  · refine congrArg Host.Outcome.next (takeRequest_of_refuse h rfl fun t => ?_)
    rw [actMapClear, if_neg (toNat_ne_255 h255), if_pos hi]
  · by_cases h255 : i = 255
    · obtain ⟨t, hexec, hmap, hentries, hlanes, hseq, hprofiles, hout⟩ := mapClear_cleared (hit := fun _ => true)
        (table := s.nameMap.map (fun _ => none)) h hsize (if_pos (congrArg BitVec.toNat h255))
      refine ⟨t, hexec, fun j => ?_, fun slot x hx hn => ?_, hlanes, hseq, hprofiles, hout⟩
      · rw [mapEntry_of_table hmap, if_pos (.inl h255), List.getD_eq_getElem?_getD, List.getElem?_map]
        cases s.nameMap[j]? <;> rfl
      · obtain ⟨y, hy, hname, hsource, hfp, href⟩ := hentries slot x hx hn
        refine ⟨y, hy, hname, hsource, hfp, ?_⟩
        rw [href, if_pos (c := i = 255 ∨ x.mapRef = some i.toNat) (.inl h255)]
        cases x.mapRef <;> rfl
    · have hle : i.toNat ≤ 63 := hi.resolve_right h255
      obtain ⟨t, hexec, hmap, hentries, hlanes, hseq, hprofiles, hout⟩ := mapClear_cleared (hit := only i.toNat)
        (table := s.nameMap.set i.toNat none) h hsize (by rw [actMapClear, if_neg (toNat_ne_255 h255), if_neg (Nat.not_lt.mpr hle)]; rfl)
      refine ⟨t, hexec, fun j => ?_, fun slot x hx hn => ?_, hlanes, hseq, hprofiles, hout⟩
      · rw [mapEntry_of_table hmap, List.getD_eq_getElem?_getD]
        by_cases hj : j = i.toNat
        · rw [if_pos (.inr hj), hj, List.getElem?_set_self']
          cases s.nameMap[i.toNat]? <;> rfl
        · rw [if_neg (not_or.mpr ⟨h255, hj⟩), List.getElem?_set_ne (Ne.symm hj), ← List.getD_eq_getElem?_getD]
          rfl
      · obtain ⟨y, hy, hname, hsource, hfp, href⟩ := hentries slot x hx hn
        refine ⟨y, hy, hname, hsource, hfp, ?_⟩
        simp only [refersTo_only] at href
        rw [href]
        simp only [h255, false_or]

end Sys2Proof.Machine
end

section
/-! PROOFS. LANE OPTIONS, the write form (O19). -/

namespace Sys2Proof.Machine

variable {s t : State} {tag : Octet} {rest : List Request} {slot : Nat} {e : Entry} {l : Lane} {f : Nat → Entry → State → State}

theorem crossThreshold_keepsPower (slot : Nat) (s : State) : KeepsPower s (crossThreshold slot s) := by
  unfold crossThreshold
  split
  · split
    · exact enterLive_keepsPower ..
    · exact .refl s
  · exact .refl s

theorem judgeSilence_keepsPower (slot : Nat) (e : Entry) (s : State) : KeepsPower s (judgeSilence slot e s) := by
  unfold judgeSilence
  split
  · exact silenceDue_keepsPower ..
  · exact recallDue_keepsPower ..
  all_goals exact .refl s

theorem judgeSilence_keepsDevices (slot : Nat) (e : Entry) (s : State) : KeepsDevices (· = slot) s (judgeSilence slot e s) := by
  unfold judgeSilence silenceDue recallDue
  split
  · split
    · next e he =>
      split
      · exact setEntry_keepsDevices (P := (· = slot)) (f := { e with echo := true, checked := true }) rfl he rfl
      · exact .refl s
    · exact .refl s
  · split
    · next e he =>
      split
      · exact setEntry_keepsDevices (P := (· = slot)) (f := { e with echo := true, recallFrom := some s.now }) rfl he rfl
      · exact .refl s
    · exact .refl s
  all_goals exact .refl s

/-! ## Operations on the entries of a lane -/

/-- One turn of an operation on the entries of a lane. -/
def laneTurn (l : Lane) (f : Nat → Entry → State → State) (s : State) (i : Nat) : State :=
  match s.entry i with
  | some e => if e.lane = l then f i e s else s
  | none => s

theorem onLaneSlots_eq (l : Lane) (f : Nat → Entry → State → State) (s : State) : onLaneSlots l f s = (List.range rosterSlots).foldl (laneTurn l f) s := by
  unfold onLaneSlots laneTurn
  rfl

theorem laneTurn_of_on (he : s.entry slot = some e) (hl : e.lane = l) : laneTurn l f s slot = f slot e s := by
  simp only [laneTurn, he]
  exact if_pos hl

theorem laneTurn_of_off (he : s.entry slot = some e) (hl : e.lane ≠ l) : laneTurn l f s slot = s := by
  simp only [laneTurn, he]
  exact if_neg hl

/-- What every turn keeps, the operation keeps. -/
theorem onLaneSlots_keeps {β : Type} (g : State → β) (hf : ∀ i e t, g (f i e t) = g t) (l : Lane) (s : State) : g (onLaneSlots l f s) = g s := by
  rw [onLaneSlots_eq]
  generalize List.range rosterSlots = js
  induction js generalizing s with
  | nil => rfl
  | cons j js ih =>
    rw [List.foldl_cons, ih, laneTurn]
    split
    · split
      · exact hf ..
      · rfl
    · rfl

theorem laneTurn_keepsDevices (hf : ∀ i e t, KeepsDevices (· = i) t (f i e t)) (s : State) (i : Nat) : KeepsDevices (· = i) s (laneTurn l f s i) := by
  unfold laneTurn
  split
  · split
    · exact hf ..
    · exact .refl s
  · exact .refl s

theorem laneTurn_keepsPower (hf : ∀ i e t, KeepsPower t (f i e t)) (s : State) (i : Nat) : KeepsPower s (laneTurn l f s i) := by
  unfold laneTurn
  split
  · split
    · exact hf ..
    · exact .refl s
  · exact .refl s

theorem onLaneSlots_keepsPower (hf : ∀ i e t, KeepsPower t (f i e t)) (l : Lane) (s : State) : KeepsPower s (onLaneSlots l f s) := by
  rw [onLaneSlots_eq]
  exact .foldl (laneTurn_keepsPower hf) _ s

/-- An entry after such an operation: as its own turn makes it, if it belongs to the lane. -/
theorem onLaneSlots_entry (hp : ∀ i e t, KeepsPower t (f i e t)) (hd : ∀ i e t, KeepsDevices (· = i) t (f i e t)) (hsize : s.roster.length = 32)
    (he : s.entry slot = some e) (l : Lane) : ∃ u, KeepsPower s u ∧ u.entry slot = some e ∧
      (e.lane = l → (onLaneSlots l f s).entry slot = (f slot e u).entry slot) ∧ (e.lane ≠ l → (onLaneSlots l f s).entry slot = some e) := by
  obtain ⟨hfold, hsame⟩ := foldl_slots_entry (f := laneTurn l f) (fun t j i hij => (laneTurn_keepsDevices hd t j).others i (Ne.symm hij))
    (hsize ▸ slot_lt_of_entry he) s
  have hu := hsame.trans he
  refine ⟨_, .foldl (laneTurn_keepsPower hp) _ s, hu, fun hl => ?_, fun hl => ?_⟩
  · rw [onLaneSlots_eq, hfold, laneTurn_of_on hu hl]
  · rw [onLaneSlots_eq, hfold, laneTurn_of_off hu hl, hu]

theorem onLaneSlots_entry_none (hd : ∀ i e t, KeepsDevices (· = i) t (f i e t)) (h : s.entry slot = none) (l : Lane) :
    (onLaneSlots l f s).entry slot = none := by
  have hmap : ((onLaneSlots l f s).entry slot).map Entry.device = none := by
    rw [onLaneSlots_keeps (fun t => (t.entry slot).map Entry.device) (fun i e t => (hd i e t).devices slot) l s, h, Option.map_none]
  exact Option.map_eq_none_iff.mp hmap

theorem onLaneSlots_size (hd : ∀ i e t, KeepsDevices (· = i) t (f i e t)) (l : Lane) (s : State) : (onLaneSlots l f s).roster.length = s.roster.length :=
  onLaneSlots_keeps (fun t => t.roster.length) (fun i e t => (hd i e t).size) l s

/-! ## The effects of an options write -/

/-- An entry judged against the interval in force (R113, R114). -/
def State.judged (s : State) (e : Entry) : Entry :=
  match e.state with
  | .live => if !e.checked && reached s.now (s.lane e.lane).options.silenceInterval e.silenceFrom then { e with echo := true, checked := true } else e
  | .lost => if reached s.now (s.lane e.lane).options.silenceInterval e.recallFrom then { e with echo := true, recallFrom := some s.now } else e
  | .assigning | .held | .proving | .suspect => e

theorem KeepsPower.judged (h : KeepsPower s t) (e : Entry) : t.judged e = s.judged e := by rw [State.judged, State.judged, h.now, h.options]

theorem judgeSilence_entry (he : s.entry slot = some e) : (judgeSilence slot e s).entry slot = some (s.judged e) := by
  cases hst : e.state with
  | live =>
    simp only [judgeSilence, silenceDue, State.givesCheck, State.judged, hst, he, beq_self_eq_true, Bool.true_and]
    split
    · exact entry_modified he _
    · exact he
  | lost =>
    simp only [judgeSilence, recallDue, State.judged, hst, he, true_and]
    split
    · exact entry_modified he _
    · exact he
  | assigning | held | proving | suspect =>
    simp only [judgeSilence, State.judged, hst]
    exact he

/-- The turn of an options write that compares clean counts. -/
def crossTurn (l : Lane) (i : Nat) (_ : Entry) (s : State) : State := evalComplete l (crossThreshold i s)

theorem applyOptions_eq (l : Lane) (s : State) : applyOptions l s = onLaneSlots l judgeSilence (onLaneSlots l (crossTurn l) s) := rfl

theorem crossTurn_keepsPower (l : Lane) (i : Nat) (e : Entry) (s : State) : KeepsPower s (crossTurn l i e s) :=
  (crossThreshold_keepsPower i s).trans (evalComplete_keepsPower ..)

theorem crossTurn_keepsDevices (l : Lane) (i : Nat) (e : Entry) (s : State) : KeepsDevices (· = i) s (crossTurn l i e s) :=
  (crossThreshold_keepsDevices (P := (· = i)) rfl s).trans (evalComplete_keepsDevices ..)

theorem applyOptions_keepsPower (l : Lane) (s : State) : KeepsPower s (applyOptions l s) := by
  rw [applyOptions_eq]
  exact (onLaneSlots_keepsPower (crossTurn_keepsPower l) l s).trans (onLaneSlots_keepsPower judgeSilence_keepsPower l _)

/-- An entry of the lane is compared with its threshold, then judged against the interval; no other entry changes (R104). -/
theorem applyOptions_entry (hsize : s.roster.length = 32) (he : s.entry slot = some e) (l : Lane) :
    (e.lane = l → (applyOptions l s).entry slot = some (s.judged (s.crossed e))) ∧ (e.lane ≠ l → (applyOptions l s).entry slot = some e) := by
  obtain ⟨u, hu, hue, hon, hoff⟩ := onLaneSlots_entry (crossTurn_keepsPower l) (crossTurn_keepsDevices l) hsize he l
  have hsize' := (onLaneSlots_size (crossTurn_keepsDevices l) l s).trans hsize
  have hkeeps := onLaneSlots_keepsPower (crossTurn_keepsPower l) l s
  rw [applyOptions_eq]
  constructor
  · intro hl
    have hcrossed : (onLaneSlots l (crossTurn l) s).entry slot = some (s.crossed e) := by
      rw [hon hl, crossTurn, evalComplete_entry, crossThreshold_entry hue, hu.crossed]
    have hlane : (s.crossed e).lane = l := (device_eq_iff.mp (crossed_fields s e).2.2.2.2.1).2.1.trans hl
    obtain ⟨w, hw, hwe, hjudge, -⟩ := onLaneSlots_entry judgeSilence_keepsPower judgeSilence_keepsDevices hsize' hcrossed l
    rw [hjudge hlane, judgeSilence_entry hwe, hw.judged, hkeeps.judged]
  · intro hl
    obtain ⟨w, -, -, -, hsame⟩ := onLaneSlots_entry judgeSilence_keepsPower judgeSilence_keepsDevices hsize' (hoff hl) l
    exact hsame hl

theorem applyOptions_entry_none (h : s.entry slot = none) (l : Lane) : (applyOptions l s).entry slot = none := by
  rw [applyOptions_eq]
  exact onLaneSlots_entry_none judgeSilence_keepsDevices (onLaneSlots_entry_none (crossTurn_keepsDevices l) h l) l

theorem moveEntry_lane (i : Nat) (g : Entry → Entry) (d : DeviceDetail) (c : DeviceCause) (s : State) (k : Lane) : (moveEntry i g d c s).lane k = s.lane k := by
  unfold moveEntry
  split
  · rw [notify_lane, setEntry_lane]
  · rfl

theorem crossThreshold_lane (i : Nat) (s : State) (k : Lane) : (crossThreshold i s).lane k = s.lane k := by
  unfold crossThreshold
  split
  · split
    · exact moveEntry_lane ..
    · rfl
  · rfl

theorem judgeSilence_lane (i : Nat) (e : Entry) (s : State) (k : Lane) : (judgeSilence i e s).lane k = s.lane k := by
  unfold judgeSilence silenceDue recallDue
  split
  · split
    · split
      · exact setEntry_lane ..
      · rfl
    · rfl
  · split
    · split
      · exact setEntry_lane ..
      · rfl
    · rfl
  all_goals rfl

theorem applyOptions_lane_other {k : Lane} (h : k ≠ l) (s : State) : (applyOptions l s).lane k = s.lane k := by
  rw [applyOptions_eq, onLaneSlots_keeps (fun t => t.lane k) (fun i e t => judgeSilence_lane i e t k),
    onLaneSlots_keeps (f := crossTurn l) (fun t => t.lane k) fun i e t => (evalComplete_lane_other h _).trans (crossThreshold_lane i t k)]

theorem applyOptions_naming (l : Lane) (s : State) : Moves Scope.naming s (applyOptions l s) := applyOptions_moves naming_names (fun _ => trivial) l s

/-! ## What becomes of an entry -/

theorem reached_eq_true {now interval : Nat} {start : Option Nat} : reached now interval start = true ↔
    0 < interval ∧ ∃ m, start = some m ∧ interval ≤ now - m := by
  cases start <;> simp [reached]

theorem crossed_of_not_proving (h : e.state ≠ .proving) (s : State) : s.crossed e = e := if_neg fun hp => h hp.1

theorem judged_of_idle (h : e.state = .assigning ∨ e.state = .held ∨ e.state = .proving ∨ e.state = .suspect) (s : State) : s.judged e = e := by
  obtain h | h | h | h := h <;> simp [State.judged, h]

/-- An entry that goes to LIVE now has no silence time yet. -/
theorem judged_toLive (s : State) (e : Entry) : s.judged (e.toLive s.now) = e.toLive s.now := by
  have hreached : reached s.now (s.lane e.lane).options.silenceInterval (some s.now) = false := by simp [reached]; omega
  simp [State.judged, Entry.toLive, hreached]

theorem judged_live (h : e.state = .live) (s : State) : s.judged e = if e.checked = false ∧
    reached s.now (s.lane e.lane).options.silenceInterval e.silenceFrom = true then { e with echo := true, checked := true } else e := by
  simp [State.judged, h]

theorem judged_lost (h : e.state = .lost) (s : State) : s.judged e =
    if reached s.now (s.lane e.lane).options.silenceInterval e.recallFrom = true then { e with echo := true, recallFrom := some s.now } else e := by
  simp [State.judged, h]

theorem setOptions_lane (l : Lane) (o : LaneOptions) (s : State) : (setOptions l o s).lane l = { s.lane l with options := o } := modLane_lane ..

theorem writtenOptions_eq (sw th fl hi lo pr : Octet) : writtenOptions sw th fl hi lo pr =
    ⟨sw.getLsbD 7, sw.getLsbD 6, sw.getLsbD 5, min 15 th.toNat, min 7 (max 1 fl.toNat), 256 * hi.toNat + lo.toNat, pr.toNat⟩ := by
  simp [writtenOptions, clamp]

/-- Settles O19: the options stored, and what they make of every entry at once. -/
theorem laneOptionsWrite : Obligations.LaneOptionsWrite := by
  intro s l tag sw th fl hi lo pr rest h hsize
  refine ⟨fun hp => ?_, fun hp => ?_⟩
  · refine congrArg Host.Outcome.next (takeRequest_of_refuse h rfl fun t => ?_)
    simp only [actLaneOptionsWrite, laneOf_octet_laneCode]
    exact if_pos hp
  obtain ⟨o, ho⟩ : ∃ o, o = writtenOptions sw th fl hi lo pr := ⟨_, rfl⟩
  obtain ⟨v, hv⟩ : ∃ v, v = setOptions l o (s.taken tag [0x04, octet (laneCode l), sw, th, fl, hi, lo, pr]) := ⟨_, rfl⟩
  have hacted : actOn actLaneOptionsWrite [0x04, octet (laneCode l), sw, th, fl, hi, lo, pr] (s.taken tag [0x04, octet (laneCode l), sw, th, fl, hi, lo, pr]) =
      (⟨if o.passThreshold != th.toNat || o.failureLimit != fl.toNat then .clamped else .ok, (applyOptions l v).optionsReport l⟩, applyOptions l v) := by
    rw [actOn, actLaneOptionsWrite]
    simp only [laneOf_octet_laneCode, if_neg (Nat.not_lt.mpr hp), hv, ho]
    rfl
  have hve (j : Nat) : v.entry j = s.entry j := by
    rw [hv]
    cases l <;> rfl
  have hvl : v.lane l = { s.lane l with options := o } := by rw [hv, setOptions_lane, taken_lane]
  have hvk (k : Lane) (hk : k ≠ l) : v.lane k = s.lane k := by
    obtain rfl := eq_otherLane hk
    rw [hv, setOptions, modLane_lane_other, taken_lane]
  have hvrest : v.roster = s.roster ∧ v.now = s.now ∧ v.nameMap = s.nameMap ∧ v.seq = s.seq ∧ v.profiles = s.profiles ∧
      v.arm = (s.taken tag [0x04, octet (laneCode l), sw, th, fl, hi, lo, pr]).arm := by
    rw [hv]
    cases l <;> exact ⟨rfl, rfl, rfl, rfl, rfl, rfl⟩
  obtain ⟨hvroster, hvnow, hvmap, hvseq, hvprofiles, hvarm⟩ := hvrest
  have hmoves := applyOptions_naming l v
  have hkeeps := applyOptions_keepsPower l v
  obtain ⟨b, hexec, hout⟩ := takeRequest_armless (row := .laneOptionsWrite) (h := h) rfl hacted ((naming_arm hmoves).trans hvarm)
  have hseq := (hmoves.framed.cycle.resolve_left id).trans hvseq
  have hother := applyOptions_lane_other (otherLane_ne l) v
  have hentry (slot : Nat) (e : Entry) (he : s.entry slot = some e) :=
    applyOptions_entry (s := v) (slot := slot) (by rw [hvroster]; exact hsize) ((hve slot).trans he) l
  have hnone (slot : Nat) (he : s.entry slot = none) := applyOptions_entry_none (s := v) (slot := slot) ((hve slot).trans he) l
  generalize applyOptions l v = w at hexec hout hkeeps hseq hother hentry hnone
  have ho' := ho.trans (writtenOptions_eq ..)
  have hstatus : (if (o.passThreshold != th.toNat || o.failureLimit != fl.toNat) = true then Status.clamped else .ok) =
      if th.toNat ≤ 15 ∧ 1 ≤ fl.toNat ∧ fl.toNat ≤ 7 then Status.ok else .clamped := by
    have hiff : (o.passThreshold != th.toNat || o.failureLimit != fl.toNat) = true ↔ ¬ (th.toNat ≤ 15 ∧ 1 ≤ fl.toNat ∧ fl.toNat ≤ 7) := by
      rw [ho']
      simp only [Bool.or_eq_true, bne_iff_ne]
      omega
    simp only [hiff, ite_not]
  refine ⟨{ w with arm := b }, congrArg Host.Outcome.next hexec, ?_, ?_, ?_, hkeeps.nameMap.trans hvmap, hseq, hkeeps.profiles.trans hvprofiles,
    ⟨octet w.notices.queue.length :: w.optionsReport l, hout.trans (by rw [hstatus]; rfl)⟩, hnone, fun slot e he => ?_⟩
  · rw [placed_lane, hkeeps.options, hvl, ho']
  · rw [placed_lane, hother, hvk _ (otherLane_ne l)]
  · rw [placed_lane, hkeeps.power, hvl]
  · rw [← ho']
    obtain ⟨hon, hoff⟩ := hentry slot e he
    have hoptions (hl : e.lane = l) : (v.lane e.lane).options = o := by rw [hl, hvl]
    have hthreshold (hl : e.lane = l) : v.thresholdInUse e = ((e.mapRef.bind s.mapEntry).bind MapEntry.override).getD o.passThreshold := by
      rw [State.thresholdInUse, hoptions hl, State.mapOf, show v.mapEntry = s.mapEntry from funext fun i => by rw [State.mapEntry, State.mapEntry, hvmap]]
    have hreached (hl : e.lane = l) (start : Option Nat) : reached v.now (v.lane e.lane).options.silenceInterval start = true ↔
        0 < o.silenceInterval ∧ ∃ m, start = some m ∧ o.silenceInterval ≤ s.now - m := by rw [hoptions hl, hvnow, reached_eq_true]
    refine ⟨fun hst => ?_, fun hl hst hlow => ?_, fun hl hst hhigh => ?_, fun hl hst hdue hch => ?_, fun hl hst hno => ?_, fun hl hst hdue => ?_,
      fun hl hst hno => ?_⟩
    · by_cases hl : e.lane = l
      · have hst := hst.resolve_left (not_not_intro hl)
        refine (hon hl).trans (congrArg some ?_)
        rw [crossed_of_not_proving (by obtain h | h | h := hst <;> simp [h]), judged_of_idle (hst.imp_right (Or.imp_right .inr))]
      · exact hoff hl
    · refine (hon hl).trans (congrArg some ?_)
      rw [State.crossed, if_neg fun hc => absurd hc.2 (by rw [hthreshold hl]; exact Nat.not_le.mpr hlow), judged_of_idle (by simp [hst])]
    · refine (hon hl).trans (congrArg some ?_)
      rw [State.crossed, if_pos ⟨hst, by rw [hthreshold hl]; exact hhigh⟩, judged_toLive, hvnow]
      rfl
    · refine (hon hl).trans (congrArg some ?_)
      rw [crossed_of_not_proving (by simp [hst]), judged_live hst, if_pos ⟨hch, (hreached hl _).mpr hdue⟩]
    · refine (hon hl).trans (congrArg some ?_)
      rw [crossed_of_not_proving (by simp [hst]), judged_live hst, if_neg]
      rintro ⟨hch, hdue⟩
      exact hno.elim (fun h => h ((hreached hl _).mp hdue)) (by simp [hch])
    · refine (hon hl).trans (congrArg some ?_)
      rw [crossed_of_not_proving (by simp [hst]), judged_lost hst, if_pos ((hreached hl _).mpr hdue), hvnow]
    · refine (hon hl).trans (congrArg some ?_)
      rw [crossed_of_not_proving (by simp [hst]), judged_lost hst, if_neg (mt (hreached hl _).mp hno)]

end Sys2Proof.Machine
end

section
/-! PROOFS. The classes of a probe slot (O51), and the timers of entries and cycles (O52). -/

namespace Sys2Proof.Machine

variable {s : State} {slot : Nat} {e : Entry}

/-! ## PROBE REPLY -/

theorem fpOf_octets (f : Fingerprint) : fpOf (f.extractLsb' 40 8) (f.extractLsb' 32 8) (f.extractLsb' 24 8) (f.extractLsb' 16 8)
    (f.extractLsb' 8 8) (f.extractLsb' 0 8) = f := by
  refine BitVec.eq_of_getLsbD_eq fun i hi => ?_
  simp only [fpOf, BitVec.getLsbD_append, BitVec.getLsbD_extractLsb']
  repeat' split
  all_goals
    rw [decide_eq_true (by omega), Bool.true_and]
    exact congrArg f.getLsbD (by omega)

theorem fpOctets_of (a b c d e f : Octet) : fpOctets (fpOf a b c d e f) = [a, b, c, d, e, f] := by
  simp only [fpOctets, fpOf, BitVec.extractLsb'_append_eq_ite]
  simp

/-- A frame that ended without its tail bit is not valid (R5, R7). -/
theorem tail_of_valid {how : FrameEnd} {body : List Octet} (h : classifyEnd how = .valid body) :
    ∃ bits, how = .tail bits ∧ checkContent busMin busMax bits = .valid body := by
  cases how with
  | tail bits => exact ⟨bits, rfl, h⟩
  | brk n =>
    simp only [classifyEnd, breakClass] at h
    split at h <;> cases h
  | long => cases h

theorem probeReply_eq_some {how : FrameEnd} {f : Fingerprint} : probeReply how = some f ↔
    ∃ bits, how = .tail bits ∧ checkContent busMin busMax bits = .valid (0 :: 0x90 :: fpOctets f) := by
  constructor
  · intro h
    unfold probeReply at h
    split at h
    · next address kind a b c d e f hvalid =>
      split at h
      · next hhead =>
        obtain ⟨rfl, rfl⟩ := hhead
        cases h
        rw [fpOctets_of]
        exact tail_of_valid hvalid
      · cases h
    · cases h
  · rintro ⟨bits, rfl, hbits⟩
    simp only [probeReply, classifyEnd, hbits, fpOctets]
    exact (if_pos ⟨trivial, rfl⟩).trans (congrArg some (fpOf_octets f))

/-! ## Slots -/

/-- The one frame of a SINGLE slot, with the fingerprint it carries (R72). -/
theorem singleIn_eq_some {p : Prefix} {guard k : Nat} {o : SlotObs} {f : Fingerprint} : singleIn p guard k o = some f ↔
    ∃ completed bits, o.frames = [⟨completed, some (.tail bits)⟩] ∧ (∃ z, o.firstZero = some z ∧ z + 8 = completed) ∧ completed ≤ 8 + guard ∧
      checkContent busMin busMax bits = .valid (0 :: 0x90 :: fpOctets f) ∧ p.covers f = true ∧ slotOf p.depth f = k := by
  have hzero (completed : Nat) : o.firstZero.map (· + 8) = some completed ↔ ∃ z, o.firstZero = some z ∧ z + 8 = completed := by
    rw [Option.map_eq_some_iff]
  constructor
  · intro h
    unfold singleIn at h
    split at h
    · next completed how hframes =>
      split at h
      · next g hreply =>
        split at h
        · next hall =>
          cases h
          obtain ⟨htime, hz, hcover, hslot⟩ := hall
          obtain ⟨bits, rfl, hvalid⟩ := probeReply_eq_some.mp hreply
          exact ⟨completed, bits, hframes, (hzero _).mp hz, htime, hvalid, hcover, hslot⟩
        · cases h
      · cases h
    · cases h
  · rintro ⟨completed, bits, hframes, hz, htime, hvalid, hcover, hslot⟩
    have hreply : probeReply (.tail bits) = some f := probeReply_eq_some.mpr ⟨bits, rfl, hvalid⟩
    simp only [singleIn, hframes, hreply]
    exact if_pos ⟨htime, (hzero _).mpr hz, hcover, hslot⟩

theorem classifySlot_of_quiet {o : SlotObs} (h : o.firstZero = none) (p : Prefix) (guard k : Nat) : classifySlot p guard k o = .empty := by
  simp [classifySlot, h]

/-- A slot with a 0 in it is SINGLE where its one frame says so, else COLLIDED (R72). -/
theorem classifySlot_of_heard {o : SlotObs} (h : o.firstZero ≠ none) (p : Prefix) (guard k : Nat) :
    (∀ f, singleIn p guard k o = some f → classifySlot p guard k o = .single f) ∧
      (singleIn p guard k o = none → classifySlot p guard k o = .collided) := by
  have hsome : o.firstZero.isNone = false := by
    cases hz : o.firstZero with
    | none => exact absurd hz h
    | some z => rfl
  constructor
  · intro f hf
    simp [classifySlot, hsome, hf]
  · intro hf
    simp [classifySlot, hsome, hf]

/-- Settles O51: the three classes, each by what the slot heard. -/
theorem slotClasses : Obligations.SlotClasses := by
  intro p guard k m f o single
  have hsingle (g : Fingerprint) : single g ↔ singleIn p guard k o = some g := by
    rw [singleIn_eq_some]
    simp only [Prefix.covers, beq_iff_eq, slotOf]
    rfl
  have hzero {g : Fingerprint} (hg : single g) : o.firstZero ≠ none := by
    obtain ⟨-, -, -, ⟨z, hz, -⟩, -⟩ := hg
    simp [hz]
  have hclasses : (classifySlot p guard k o = .empty ↔ o.firstZero = none) ∧ (classifySlot p guard k o = .single f ↔ single f) ∧
      (classifySlot p guard k o = .collided ↔ o.firstZero ≠ none ∧ ∀ g, ¬ single g) := by
    by_cases hquiet : o.firstZero = none
    · have hempty := classifySlot_of_quiet hquiet p guard k
      exact ⟨iff_of_true hempty hquiet, iff_of_false (by simp [hempty]) fun hf => hzero hf hquiet, iff_of_false (by simp [hempty]) fun h => h.1 hquiet⟩
    · obtain ⟨hfound, hnone⟩ := classifySlot_of_heard hquiet p guard k
      cases hin : singleIn p guard k o with
      | none =>
        have hcollided := hnone hin
        have hno (g : Fingerprint) : ¬ single g := by simp [hsingle, hin]
        exact ⟨iff_of_false (by simp [hcollided]) hquiet, iff_of_false (by simp [hcollided]) (hno f), iff_of_true hcollided ⟨hquiet, hno⟩⟩
      | some g =>
        have hfind := hfound g hin
        have hg : single g := (hsingle g).mpr hin
        refine ⟨iff_of_false (by simp [hfind]) hquiet, ?_, iff_of_false (by simp [hfind]) fun h => h.2 g hg⟩
        rw [hfind, hsingle, hin]
        simp
  obtain ⟨hempty, hfind, hcollided⟩ := hclasses
  refine ⟨hempty, hfind, hcollided, fun hm hcover hslot => ?_⟩
  refine (classifySlot_of_heard (o := ⟨some m, [⟨m + 8, some (.tail (stuffedContent (0 :: 0x90 :: fpOctets f)))⟩]⟩) (by simp) p guard k).1 f ?_
  exact singleIn_eq_some.mpr ⟨m + 8, _, rfl, ⟨m, rfl, rfl⟩, by omega,
    checkContent_stuffedContent (by simp [fpOctets, busMin]) (by simp [fpOctets, busMax]), hcover, hslot⟩

/-! ## Silence checks and recall echoes -/

/-- A timer that has run for an interval other than 0. -/
theorem reached_iff {now interval : Nat} {start : Option Nat} : reached now interval start = true ↔ interval ≠ 0 ∧ ∃ m, start = some m ∧ m + interval ≤ now := by
  rw [reached_eq_true]
  constructor
  · rintro ⟨hpos, m, hm, hle⟩
    exact ⟨hpos.ne', m, hm, by omega⟩
  · rintro ⟨hne, m, hm, hle⟩
    exact ⟨Nat.pos_of_ne_zero hne, m, hm, by omega⟩

theorem silenceDue_eq (he : s.entry slot = some e) : silenceDue slot s =
    if e.state = .live ∧ e.checked = false ∧ reached s.now (s.lane e.lane).options.silenceInterval e.silenceFrom = true
    then setEntry slot (some { e with echo := true, checked := true }) s else s := by
  simp only [silenceDue, he, State.givesCheck, Bool.and_eq_true, beq_iff_eq, Bool.not_eq_true', and_assoc]

theorem recallDue_eq (he : s.entry slot = some e) : recallDue slot s =
    if e.state = .lost ∧ reached s.now (s.lane e.lane).options.silenceInterval e.recallFrom = true
    then setEntry slot (some { e with echo := true, recallFrom := some s.now }) s else s := by
  simp only [recallDue, he]

/-! ## The period timer -/

/-- A period timer that has run out starts again and gives its trigger (R158). -/
theorem periodElapsed_of_ranOut {m : Nat} (h : s.seq.timer = some m) (hm : m ≤ s.now) :
    periodElapsed s = trigger .period { s with seq := { s.seq with timer := some (s.now + s.seq.period) } } := if_pos (ranOut_of_le h hm)

theorem periodElapsed_of_early (h : ∀ m, s.seq.timer = some m → s.now < m) : periodElapsed s = s := by
  refine if_neg ?_
  unfold ranOut
  split
  · next m hm => simp [h m hm]
  · simp

/-- Settles O52: the three timers, before their moment and at it. -/
theorem entryAndPeriodTimers : Obligations.EntryAndPeriodTimers := by
  refine ⟨fun s slot e hrun he => ?_, fun s hrun hearly => ?_, fun s m hrun htimer hm => ?_⟩
  · intro set interval reach
    have hreach (start : Option Nat) : reached s.now (s.lane e.lane).options.silenceInterval start = true ↔ reach start := reached_iff
    have hsilence : exec (.silenceCheckDue slot) s = .next (silenceDue slot s) := congrArg Host.Outcome.next (whenRunning_of_running hrun)
    have hrecall : exec (.recallEchoDue slot) s = .next (recallDue slot s) := congrArg Host.Outcome.next (whenRunning_of_running hrun)
    rw [hsilence, hrecall, silenceDue_eq he, recallDue_eq he]
    refine ⟨fun hst hdue hch => ?_, fun hno => ?_, fun hst hdue => ?_, fun hno => ?_⟩
    · rw [if_pos ⟨hst, hch, (hreach _).mpr hdue⟩]
      rfl
    · rw [if_neg]
      rintro ⟨hst, hch, hdue⟩
      obtain h | h | h := hno
      · exact h hst
      · exact h ((hreach _).mp hdue)
      · simp [hch] at h
    · rw [if_pos ⟨hst, (hreach _).mpr hdue⟩]
      rfl
    · rw [if_neg]
      rintro ⟨hst, hdue⟩
      exact hno.elim (fun h => h hst) fun h => h ((hreach _).mp hdue)
  · exact congrArg Host.Outcome.next ((whenRunning_of_running hrun).trans (periodElapsed_of_early hearly))
  · intro q
    have hexec : exec .periodTimerExpiry s = .next (trigger .period { s with seq := q }) :=
      congrArg Host.Outcome.next ((whenRunning_of_running hrun).trans (periodElapsed_of_ranOut htimer hm))
    rw [hexec]
    refine ⟨fun hst => ?_, fun hst => ?_, fun hst hlist hstop hup hroom => ?_⟩
    · simp [trigger, q, hst]
    · simp only [trigger, q, hst]
      rfl
    · have hstart : trigger .period { s with seq := q } = startCycle { s with seq := q } := by simp [trigger, q, hst]
      rw [hstart, startCycle_of_no_entry_of_room (s := { s with seq := q }) hlist hst hstop hup hroom]
      rfl

end Sys2Proof.Machine
end

section
/-! PROOFS. The course of an exchange up to its reply, and of a probe in its slots (O43). -/

namespace Sys2Proof.Machine

variable {s : State} {l : Lane} {x : Exchange} {p : ProbeRecord} {how : FrameEnd}

/-! ## The exchange record and the receiver of a lane -/

/-- A row of the tool buses acts on the exchange in flight, in its phase. -/
theorem inPhase_eq (hrun : s.resetAsserted = false) (hx : (s.lane l).exch = some x) {ph : Phase} (hph : x.phase = ph) (f : Exchange → State → State) :
    inPhase l ph f s = f x s := by
  rw [inPhase, whenRunning_of_running hrun]
  simp only [hx]
  exact if_pos hph

theorem setExchange_eq (l : Lane) (y : Exchange) (s : State) : setExchange l y s = s.setLane l { s.lane l with exch := some y } := rfl

theorem setRx_eq (l : Lane) (r : RxState) (s : State) : setRx l r s = s.setLane l { s.lane l with rx := r } := rfl

theorem setRx_setExchange (l : Lane) (r : RxState) (y : Exchange) (s : State) :
    setRx l r (setExchange l y s) = s.setLane l { s.lane l with exch := some y, rx := r } := by
  rw [setRx_eq, setExchange_eq, setLane_lane, setLane_setLane]

theorem setExchange_self (hx : (s.lane l).exch = some x) : s.setLane l { s.lane l with exch := some x } = s := by
  have hlane : ({ s.lane l with exch := some x } : LaneState) = s.lane l := by rw [← hx]
  rw [hlane, setLane_lane_self]

theorem countProbeSent_setExchange (l : Lane) (y : Exchange) (s : State) : countProbeSent l (setExchange l y s) = s.setLane l { s.lane l with
    exch := some y
    counters := { (s.lane l).counters with probesSent := addSat (s.lane l).counters.probesSent } } := by
  rw [countProbeSent, modCounters, setExchange_eq, modLane, setLane_lane, setLane_setLane]

/-- The counters of a lane with an outcome counted (R54). -/
def LaneCounters.counted (o : ExchangeOutcome) (c : LaneCounters) : LaneCounters :=
  match o with
  | .ok => { c with ok := addSat c.ok }
  | .noReply => { c with noReply := addSat c.noReply }
  | .corrupt => { c with corrupt := addSat c.corrupt }
  | .abandoned => c

/-- A lane whose exchange has ended with an outcome (R8, R54). -/
def LaneState.ended (o : ExchangeOutcome) (x : LaneState) : LaneState := { x with exch := none, rx := .hunt, counters := x.counters.counted o }

theorem countOutcome_clearExchange (l : Lane) (o : ExchangeOutcome) (s : State) :
    countOutcome l o (clearExchange l s) = s.setLane l ((s.lane l).ended o) := by
  cases o <;> cases l <;> rfl

/-- An exchange of no entry, whose outcome concerns no source, leaves the lane idle with its outcome counted (R54, R143, R151). -/
theorem endExchange_of_unheeded (href : x.ref = none) (hsource : x.source = .supervision ∨ ∃ name tag, x.source = .forward name tag)
    (o : ExchangeOutcome) (payload : List Octet) (slots : List SlotObs) (s : State) :
    endExchange l x o payload slots s = s.setLane l ((s.lane l).ended o) := by
  have hto (t : State) : toSource l x o payload slots t = t := by
    obtain h | ⟨name, tag, h⟩ := hsource
    · simp only [toSource, h]
    · simp only [toSource, h, href]
  rw [endExchange, hto, countOutcome_clearExchange]
  simp only [toSupervision, href]

/-! ## GUARD -/

theorem loseIdle_of_fit {r : GuardReport} (h : guardReportFits (s.lane l).rx r = true) (x : Exchange) :
    loseIdle l r x s = s.setLane l { s.lane l with exch := some { x with guardIdle := 0 }, rx := rxInGuard (s.lane l).rx r } := by
  rw [loseIdle, if_pos h, setRx_setExchange]

/-! ## The slots of a probe -/

theorem recordReport_of_fit {r : SlotReport} (h : slotReportFits (s.lane l).rx r = true) (p : ProbeRecord) (x : Exchange) :
    recordReport l r p x s = s.setLane l { s.lane l with exch := some { x with probe := some (p.observe r) }, rx := rxOn (s.lane l).rx r } := if_pos h

theorem recordReport_of_misfit {r : SlotReport} (h : slotReportFits (s.lane l).rx r = false) (p : ProbeRecord) (x : Exchange) :
    recordReport l r p x s = s := if_neg (by simp [h])

theorem modSlot_eq {k : Nat} {o : SlotObs} (h : p.slots[k]? = some o) (f : SlotObs → SlotObs) :
    p.modSlot k f = { p with slots := p.slots.set k (f o) } := by
  rw [ProbeRecord.modSlot, List.modify_eq_set_getElem?, h]
  rfl

/-- The newest frame gets its end. -/
theorem endNewest_append (how : FrameEnd) (fs : List SlotFrame) (began : Nat) : endNewest how (fs ++ [⟨began, none⟩]) = fs ++ [⟨began, some how⟩] := by
  induction fs with
  | nil => rfl
  | cons f fs ih => rw [List.cons_append, endNewest, if_neg (by simp), ih, List.cons_append]

/-- A report that the receiver's state allows, by the state it needs. -/
theorem fits_of_eq {rx : RxState} {r : RxState} (h : rx = r) : (rx == r) = true := beq_iff_eq.mpr h

/-- The first 0 of a slot is kept. -/
theorem observe_zero {k m : Nat} {o : SlotObs} (hplace : p.place = .slot k) (ho : p.slots[k]? = some o) (hz : o.firstZero = none) :
    p.observe (.zero m) = { p with slots := p.slots.set k { o with firstZero := some m } } := by
  simp only [ProbeRecord.observe, hplace]
  rw [modSlot_eq ho, hz, ← hplace]

/-- A later 0 of a slot changes nothing. -/
theorem observe_zero_again {k m u : Nat} {o : SlotObs} (hplace : p.place = .slot k) (ho : p.slots[k]? = some o) (hz : o.firstZero = some u) :
    p.observe (.zero m) = p := by
  obtain ⟨hk, hget⟩ := List.getElem?_eq_some_iff.mp ho
  have hset : p.slots.set k o = p.slots := by rw [← hget, List.set_getElem_self]
  have ho' : ({ o with firstZero := some u } : SlotObs) = o := by rw [← hz]
  simp only [ProbeRecord.observe, hplace]
  rw [modSlot_eq ho, hz, ho', hset]

/-- A frame belongs to the slot in which its delimiter completed. -/
theorem observe_delimiter {k m : Nat} {o : SlotObs} (hplace : p.place = .slot k) (ho : p.slots[k]? = some o) :
    p.observe (.delimiter m) = { p with slots := p.slots.set k { o with frames := o.frames ++ [⟨m, none⟩] }, inFrame := some (.slot k) } := by
  simp only [ProbeRecord.observe, hplace]
  rw [modSlot_eq ho, ← hplace]

/-- Its end goes there, wherever it falls. -/
theorem observe_frameEnd {k began : Nat} {o : SlotObs} {fs : List SlotFrame} (hin : p.inFrame = some (.slot k)) (ho : p.slots[k]? = some o)
    (hfs : o.frames = fs ++ [⟨began, none⟩]) : p.observe (.frameEnd how) =
      { p with slots := p.slots.set k { o with frames := fs ++ [⟨began, some how⟩] }, inFrame := none } := by
  simp only [ProbeRecord.observe, hin]
  rw [modSlot_eq ho, hfs, endNewest_append]

/-- Settles O43: each event of GUARD, of the request and of the slots, by phase, receiver and place. -/
theorem exchangePhases : Obligations.ExchangePhases := by
  intro s l x how hrun hx put rx code after
  have hcode : octet x.kind.code = code := by
    simp only [code]
    cases x.kind <;> rfl
  have hafter : rxAfter how = after := by cases how <;> rfl
  refine ⟨fun hph => ?_, fun hph hkind => ?_, fun hph hkind => ?_, fun hph => ?_, fun hph href hkind => ?_, fun p m hph hp => ?_⟩
  · have hreach : exec (.guardCountReached l) s = .next (startSending l x s) := congrArg Host.Outcome.next (inPhase_eq hrun hx hph _)
    have hlost (r : GuardReport) : exec (.guardIdleLost l r) s = .next (loseIdle l r x s) := congrArg Host.Outcome.next (inPhase_eq hrun hx hph _)
    rw [hreach]
    simp only [hlost]
    refine ⟨fun hrx => ?_, fun hrx => ?_, ?_, fun hrx => ?_, fun hrx => ?_, fun hrx => ?_, fun hrx => ?_⟩
    · rw [startSending, if_pos hrx, setExchange_eq, Exchange.lineBits, Exchange.body, hcode]
      simp only [put, ← hrx]
      rfl
    · rw [startSending, if_neg hrx]
    · rw [loseIdle_of_fit rfl]
      rfl
    · rw [loseIdle_of_fit (r := .delimiter) (l := l) (s := s) (fits_of_eq hrx)]
      rfl
    · rw [loseIdle_of_fit (r := .frameEnd how) (l := l) (s := s) (fits_of_eq hrx)]
      simp only [put, rxInGuard, hafter]
    · rw [loseIdle_of_fit (r := .discardEnd) (l := l) (s := s) (fits_of_eq hrx)]
      rfl
    · exact congrArg Host.Outcome.next (if_neg (by simpa [guardReportFits] using hrx))
  · have hexec : exec (.requestTailBit l) s = .next (afterTail l x s) := congrArg Host.Outcome.next (inPhase_eq hrun hx hph _)
    have hreply : x.expectsReply = true := by
      obtain h | h | ⟨h, htarget⟩ := hkind
      · simp [Exchange.expectsReply, h]
      · simp [Exchange.expectsReply, h]
      · simp [Exchange.expectsReply, h, htarget]
    have hprobe : x.kind ≠ .probe := by
      obtain h | h | ⟨h, -⟩ := hkind <;> simp [h]
    rw [hexec, afterTail, if_neg hprobe, if_pos hreply]
    rfl
  · have hexec : exec (.requestTailBit l) s = .next (afterTail l x s) := congrArg Host.Outcome.next (inPhase_eq hrun hx hph _)
    rw [hexec, afterTail, if_pos hkind, countProbeSent_setExchange]
    rfl
  · have hexec : exec (.replyDelimiterComplete l) s = .next (setRx l .frame (setExchange l { x with phase := .receive } s)) :=
      congrArg Host.Outcome.next (inPhase_eq hrun hx hph _)
    rw [hexec, setRx_setExchange]
  · have hexec : exec (.requestTailBit l) s = .next (afterTail l x s) := congrArg Host.Outcome.next (inPhase_eq hrun hx hph _)
    have hprobe : x.kind ≠ .probe := by
      obtain ⟨h, -⟩ | ⟨h, -⟩ := hkind <;> simp [h]
    have hreply : ¬ x.expectsReply = true := by
      obtain ⟨h, -⟩ | ⟨h, htarget, -⟩ := hkind
      · simp [Exchange.expectsReply, h]
      · simp [Exchange.expectsReply, h, htarget]
    rw [hexec, afterTail, if_neg hprobe, if_neg hreply, endExchange_of_unheeded href (hkind.imp And.right fun h => h.2.2)]
    rfl
  · intro probe
    have hstart : exec (.slotStart l) s = .next (nextSlot l p x s) :=
      congrArg Host.Outcome.next ((inPhase_eq hrun hx hph _).trans (by simp only [onProbe, hp]))
    have hreport (r : SlotReport) : exec (.slotObservation l r) s = .next (recordReport l r p x s) :=
      congrArg Host.Outcome.next ((inPhase_eq hrun hx hph _).trans (by simp only [onProbe, hp]))
    have hsame : probe p = x := by
      simp only [probe, ← hp]
    have hself {y : Exchange} (hy : y = x) : s.setLane l { s.lane l with exch := some y, rx := rx } = s := by
      rw [hy]
      exact setExchange_self hx
    rw [hstart]
    simp only [hreport]
    refine ⟨fun hrx => ?_, fun hrx => ?_, fun hplace => ⟨?_, ?_, fun hrx => ?_⟩, fun k hk hplace => ?_, fun k o hplace ho => ⟨fun hz => ?_, fun u hz => ?_, fun hrx => ?_⟩,
      fun hrx => ⟨fun k o fs began hin ho hfs => ?_, fun hin => ?_⟩⟩
    · rw [recordReport_of_fit (r := .discardEnd) (l := l) (s := s) (fits_of_eq hrx)]
      exact congrArg (fun y => Host.Outcome.next (s.setLane l { s.lane l with exch := some y, rx := .hunt })) hsame
    · exact congrArg Host.Outcome.next (recordReport_of_misfit (by simpa [slotReportFits] using hrx) p x)
    · rw [nextSlot, if_neg (by simp [hplace]), setExchange_eq, hplace]
      rfl
    · rw [recordReport_of_fit rfl, show p.observe (.zero m) = p by simp [ProbeRecord.observe, hplace]]
      exact congrArg Host.Outcome.next (hself hsame)
    · rw [recordReport_of_fit (r := .delimiter m) (l := l) (s := s) (fits_of_eq hrx), show p.observe (.delimiter m) = { p with inFrame := some .turnaround } by simp [ProbeRecord.observe, hplace]]
      rfl
    · rw [nextSlot, if_neg (by simp [hplace]; omega), setExchange_eq, hplace]
      rfl
    · rw [recordReport_of_fit rfl, observe_zero hplace ho hz]
      rfl
    · rw [recordReport_of_fit rfl, observe_zero_again hplace ho hz]
      exact congrArg Host.Outcome.next (hself hsame)
    · rw [recordReport_of_fit (r := .delimiter m) (l := l) (s := s) (fits_of_eq hrx), observe_delimiter hplace ho]
      rfl
    · rw [recordReport_of_fit (r := .frameEnd how) (l := l) (s := s) (fits_of_eq hrx), observe_frameEnd hin ho hfs]
      simp only [put, probe, rxOn, hafter]
    · rw [recordReport_of_fit (r := .frameEnd how) (l := l) (s := s) (fits_of_eq hrx), show p.observe (.frameEnd how) = { p with inFrame := none } by simp [ProbeRecord.observe, hin]]
      simp only [put, probe, rxOn, hafter]

end Sys2Proof.Machine
end

section
/-! PROOFS. A failed attempt with attempts left (O44), and the replies that an exchange accepts. -/

namespace Sys2Proof.Machine

variable {s : State} {l : Lane} {x : Exchange} {how : FrameEnd}

/-- A lane's next attempt of an exchange: GUARD again, an ECHO with a new token (R51, R63). -/
def LaneState.guarding (y : LaneState) (x : Exchange) : LaneState :=
  let g : Exchange := { x with phase := .guard, guardIdle := 0, probe := none, line := [] }
  if x.kind = .echo then
    { y with echoToken := y.echoToken + 1, exch := some { g with token := some (y.echoToken + 1), payload := tokenOctets (y.echoToken + 1) } }
  else { y with exch := some g }

theorem enterGuard_eq (l : Lane) (x : Exchange) (s : State) : enterGuard l x s = s.setLane l ((s.lane l).guarding x) := by
  unfold enterGuard LaneState.guarding
  split
  · rfl
  · rfl

theorem guarding_rx (y : LaneState) (x : Exchange) : { y.guarding x with rx := y.rx } = y.guarding x := by
  unfold LaneState.guarding
  split
  · rfl
  · rfl

theorem failAttempt_of_left (hreply : x.expectsReply = true) (hleft : x.attempt ≤ x.profile.retries) (l : Lane) (o : ExchangeOutcome) (s : State) :
    failAttempt l x o s = s.setLane l ((s.lane l).guarding { x with attempt := x.attempt + 1 }) := by
  rw [failAttempt, if_pos (by simp [hreply]; omega), enterGuard_eq]

theorem failAttempt_of_last (hlast : x.profile.retries < x.attempt) (l : Lane) (o : ExchangeOutcome) (s : State) :
    failAttempt l x o s = endExchange l x o [] [] s := by
  rw [failAttempt, if_neg (by simp; omega)]

theorem setRx_guarding (r : RxState) (x : Exchange) (s : State) :
    (setRx l r s).setLane l (((setRx l r s).lane l).guarding x) = s.setLane l { (s.lane l).guarding x with rx := r } := by
  rw [setRx_eq, setLane_lane, setLane_setLane]
  unfold LaneState.guarding
  split
  · rfl
  · rfl

/-! ## Replies -/

/-- The replies that an exchange accepts, by its kind (R50, R196). -/
def Exchange.Accepts (x : Exchange) (body : List Octet) : Prop :=
  (x.kind = .assign ∧ body = x.payload.getD 6 0 :: 0x91 :: x.payload.take 6) ∨
    (x.kind = .echo ∧ ∃ status, body = octet x.target :: 0x92 :: x.payload ++ [status]) ∨
    (x.kind = .data ∧ ∃ data, body = octet x.target :: 0x93 :: data)

theorem accepts_of_checkReply {body payload : List Octet} (h : checkReply x body = some payload) : x.Accepts body := by
  unfold checkReply at h
  split at h
  · next address kind rest =>
    split at h
    · next hk =>
      split at h
      · next hall =>
        obtain ⟨rfl, rfl, rfl⟩ := hall
        exact .inl ⟨hk, rfl⟩
      · cases h
    · next hk =>
      split at h
      · next hall =>
        obtain ⟨rfl, rfl, hlen, htake⟩ := hall
        obtain ⟨a, b, c, rfl⟩ := List.length_eq_three.mp hlen
        exact .inr (.inl ⟨hk, c, by rw [← htake]; rfl⟩)
      · cases h
    · next hk =>
      split at h
      · next hall =>
        obtain ⟨rfl, rfl⟩ := hall
        exact .inr (.inr ⟨hk, rest, rfl⟩)
      · cases h
    · cases h
    · cases h
  · cases h

theorem acceptReply_eq_none (h : ∀ body, classifyEnd how = .valid body → ¬ x.Accepts body) : acceptReply x how = none := by
  unfold acceptReply
  split
  · next body hvalid => exact Option.eq_none_iff_forall_ne_some.mpr fun payload hp => h body hvalid (accepts_of_checkReply hp)
  · rfl

/-- Settles O44: each way an attempt can fail comes to `failAttempt`. -/
theorem failedAttemptIsRepeated : Obligations.FailedAttemptIsRepeated := by
  intro s l x how hrun hx hleft hkind token again next good
  have hreply : x.expectsReply = true := by
    obtain h | h | ⟨h, htarget⟩ := hkind
    · simp [Exchange.expectsReply, h]
    · simp [Exchange.expectsReply, h]
    · simp [Exchange.expectsReply, h, htarget]
  have hnext (r : RxState) : s.setLane l { (s.lane l).guarding { x with attempt := x.attempt + 1 } with rx := r } = next r := by
    simp only [next]
    by_cases hecho : x.kind = .echo
    · rw [LaneState.guarding, if_pos hecho, if_pos hecho]
      rfl
    · rw [LaneState.guarding, if_neg hecho, if_neg hecho]
  have hfail (o : ExchangeOutcome) : failAttempt l x o s = next (s.lane l).rx := by
    rw [failAttempt_of_left hreply hleft, ← hnext, guarding_rx]
  have hended (hph : x.phase = .receive) (hbad : ∀ body, classifyEnd how = .valid body → ¬ x.Accepts body) :
      exec (.replyFrameEnd l how) s = .next (next (rxAfter how)) := by
    refine congrArg Host.Outcome.next ((inPhase_eq hrun hx hph _).trans ?_)
    rw [replyEnded, acceptReply_eq_none hbad, failAttempt_of_left hreply hleft, setRx_guarding, hnext]
  refine ⟨fun hph => ?_, fun hph => ?_, fun n hph hhow => ?_, fun hph hhow => ?_, fun bits hph hhow hbad => ?_⟩
  · exact congrArg Host.Outcome.next ((inPhase_eq hrun hx hph _).trans (hfail .noReply))
  · exact congrArg Host.Outcome.next ((inPhase_eq hrun hx hph _).trans (hfail .corrupt))
  · subst hhow
    refine hended hph fun body hvalid => ?_
    obtain ⟨bits, hbits, -⟩ := tail_of_valid hvalid
    cases hbits
  · subst hhow
    refine hended hph fun body hvalid => ?_
    cases hvalid
  · subst hhow
    exact hended hph hbad

end Sys2Proof.Machine
end

section
/-! PROOFS. The end of an exchange, and how a failure moves the entry it was for (O45). -/

namespace Sys2Proof.Machine

variable {s t : State} {l : Lane} {x : Exchange} {r : EntryRef} {e : Entry} {slot : Nat} {o : ExchangeOutcome} {c : Instr}

/-! ## The end of an exchange -/

/-- The part once an exchange has ended and its outcome is counted, before the outcome goes anywhere (R54). -/
def State.hungUp (s : State) (l : Lane) (o : ExchangeOutcome) : State := modLane l (LaneState.ended o) s

theorem endExchange_eq (l : Lane) (x : Exchange) (o : ExchangeOutcome) (payload : List Octet) (slots : List SlotObs) (s : State) :
    endExchange l x o payload slots s = toSupervision x o payload (toSource l x o payload slots (s.hungUp l o)) := by
  rw [endExchange, countOutcome_clearExchange]
  rfl

@[simp] theorem hungUp_lane (l : Lane) (o : ExchangeOutcome) (s : State) : (s.hungUp l o).lane l = (s.lane l).ended o := modLane_lane ..

@[simp] theorem hungUp_entry (l : Lane) (o : ExchangeOutcome) (s : State) (j : Nat) : (s.hungUp l o).entry j = s.entry j := modLane_entry ..

@[simp] theorem hungUp_arm (l : Lane) (o : ExchangeOutcome) (s : State) : (s.hungUp l o).arm = s.arm := setLane_arm ..

@[simp] theorem hungUp_seq (l : Lane) (o : ExchangeOutcome) (s : State) : (s.hungUp l o).seq = s.seq := setLane_seq ..

@[simp] theorem hungUp_notices (l : Lane) (o : ExchangeOutcome) (s : State) : (s.hungUp l o).notices = s.notices := setLane_notices ..

@[simp] theorem hungUp_roster (l : Lane) (o : ExchangeOutcome) (s : State) : (s.hungUp l o).roster = s.roster := setLane_roster ..

@[simp] theorem hungUp_now (l : Lane) (o : ExchangeOutcome) (s : State) : (s.hungUp l o).now = s.now := setLane_now ..

theorem hungUp_keepsPower (l : Lane) (o : ExchangeOutcome) (s : State) : KeepsPower s (s.hungUp l o) :=
  modLane_keepsPower (g := LaneState.ended o) (fun _ => rfl) (fun _ => rfl) l s

theorem hungUp_census (l : Lane) (o : ExchangeOutcome) (s : State) (k : Lane) : ((s.hungUp l o).lane k).census = (s.lane k).census := by
  rw [State.hungUp, modLane_lane_eq]
  split
  · next h => rw [h]; rfl
  · rfl

theorem hungUp_setRx (l : Lane) (o : ExchangeOutcome) (r : RxState) (s : State) : (setRx l r s).hungUp l o = s.hungUp l o := by
  cases l <;> rfl

theorem referenced_eq (he : s.entry r.slot = some e) (hfp : e.fp = r.fp) (hl : e.lane = r.lane) : s.referenced r = some e := by
  simp only [State.referenced, he]
  exact if_pos ⟨hfp, hl⟩

theorem referenced_eq_none (h : ∀ e, s.entry r.slot = some e → e.fp ≠ r.fp ∨ e.lane ≠ r.lane) : s.referenced r = none := by
  unfold State.referenced
  split
  · next e he => exact if_neg fun hall => (h e he).elim (fun hne => hne hall.1) fun hne => hne hall.2
  · rfl

/-- The ways in which an attempt fails without a reply's content: silence, the guard limit, or a break. -/
def FailsWith (l : Lane) (x : Exchange) (c : Instr) (o : ExchangeOutcome) : Prop :=
  (x.phase = .wait ∧ c = .replyTimeout l ∧ o = .noReply) ∨ (x.phase = .guard ∧ c = .guardLimitReached l ∧ o = .corrupt) ∨
    (x.phase = .receive ∧ (∃ n, c = .replyFrameEnd l (.brk n)) ∧ o = .corrupt)

/-- The last attempt's failure ends the exchange. -/
theorem exec_lastFailure (hrun : s.resetAsserted = false) (hx : (s.lane l).exch = some x) (hlast : x.profile.retries < x.attempt)
    (h : FailsWith l x c o) : exec c s = .next (toSupervision x o [] (toSource l x o [] [] (s.hungUp l o))) := by
  obtain ⟨hph, rfl, rfl⟩ | ⟨hph, rfl, rfl⟩ | ⟨hph, ⟨n, rfl⟩, rfl⟩ := h
  · refine congrArg Host.Outcome.next ((inPhase_eq hrun hx hph _).trans ?_)
    rw [failAttempt_of_last hlast, endExchange_eq]
  · refine congrArg Host.Outcome.next ((inPhase_eq hrun hx hph _).trans ?_)
    rw [failAttempt_of_last hlast, endExchange_eq]
  · refine congrArg Host.Outcome.next ((inPhase_eq hrun hx hph _).trans ?_)
    have hnone : acceptReply x (.brk n) = none := acceptReply_eq_none fun body hvalid => by
      obtain ⟨bits, hbits, -⟩ := tail_of_valid hvalid
      cases hbits
    rw [replyEnded, hnone, failAttempt_of_last hlast, endExchange_eq, hungUp_setRx]

/-! ## What an outcome can change -/

/-- What an outcome for an entry can change: the entry, and what naming, completeness and a recall census can. -/
def Scope.heeding (slot : Nat) : Scope where
  part
    | .slot j => j = slot
    | .notices | .complete _ | .cursor | .cycle | .outbound | .drops | .census _ | .unaddress _ | .forward _ => True
    | _ => False
  home := fun _ => True
  apart := False

theorem heeding_runs (slot : Nat) (l : Lane) : (Scope.heeding slot).Runs l where
  notices := trivial
  complete := fun _ => trivial
  cursor := trivial
  cycle := trivial
  outbound := trivial
  drops := trivial
  census := trivial
  unaddress := trivial
  forward := trivial

theorem applyOutcome_heeding (r : EntryRef) (o : ExchangeOutcome) (st : Option Octet) (s : State) :
    Moves (Scope.heeding r.slot) s (applyOutcome r o st s) :=
  applyOutcome_moves (heeding_runs ..) rfl (fun _ _ => trivial) o st

/-- What an outcome for an entry leaves alone. -/
theorem Moves.heeded (h : Moves (Scope.heeding slot) s t) : (∀ k, (t.lane k).exch = (s.lane k).exch ∧ (t.lane k).rx = (s.lane k).rx ∧
      (t.lane k).counters = (s.lane k).counters ∧ (t.lane k).power = (s.lane k).power) ∧ t.nameMap = s.nameMap ∧ ∀ j, j ≠ slot → t.entry j = s.entry j := by
  have hf := Moves.framed h
  refine ⟨fun k => ?_, hf.nameMap.resolve_left id, fun j hj => (hf.slot j).resolve_left hj⟩
  obtain ⟨hexch, hrx⟩ := (hf.exchange k).resolve_left id
  exact ⟨hexch, hrx, (hf.counters k).resolve_left id, (hf.power k).resolve_left id⟩

/-! ## An entry that proves again, is suspected or lost -/

/-- An entry that proves from a clean count of 0, or goes on into LIVE where its threshold is 0 (R99). -/
theorem proved_eq {cause : DeviceCause} (hcause : cause ≠ .recalled) (s : State) (e : Entry) :
    let again : Entry := { e with
      state := .proving, clean := 0, fail := 0, held := none, echo := true, silenceFrom := none, checked := false, recallFrom := none }
    s.proved cause e = if s.thresholdInUse e = 0 then
      { again with state := .live, echo := false, silenceFrom := some s.now, checked := false } else again := by
  intro again
  have hclean : (e.toProving cause).clean = 0 := if_neg hcause
  have hthreshold : s.thresholdInUse (e.toProving cause) = s.thresholdInUse e := rfl
  simp only [State.proved, State.compared, hclean, hthreshold, Nat.le_zero]
  split
  · simp [Entry.toLive, Entry.toProving, hcause, again]
  · simp [Entry.toProving, hcause, again]

theorem recallCensus_entry (l : Lane) (s : State) (j : Nat) : (recallCensus l s).entry j = s.entry j := by
  unfold recallCensus
  split
  · rw [State.entry, startAdditive_roster]
    rfl
  · rfl

theorem recallCensus_of_off (h : (s.lane l).options.recallCensus = false) : recallCensus l s = s := if_neg (by simp [h])

theorem enterLost_entry (he : s.entry slot = some e) (l : Lane) (cause : DeviceCause) : (enterLost slot l cause s).entry slot = some (e.toLost s.now) := by
  rw [enterLost, recallCensus_entry, evalComplete_entry, moveEntry_entry he]

theorem enterLost_before (slot : Nat) (l : Lane) (cause : DeviceCause) (s : State) :
    (evalComplete l (moveEntry slot (Entry.toLost s.now) .lost cause s)).lane l =
      { s.lane l with complete := (moveEntry slot (Entry.toLost s.now) .lost cause s).completeNow l } := by
  rw [evalComplete_lane, moveEntry_lane]

/-- An entry that becomes LOST starts an ADDITIVE run on its LIVE lane with recall census on and no run going (R92). -/
theorem enterLost_recalled (hon : (s.lane l).options.recallCensus = true) (hlive : (s.lane l).power.state = .live) (hidle : (s.lane l).census.run = .idle)
    (slot : Nat) (cause : DeviceCause) : ((enterLost slot l cause s).lane l).census.run = .running ∧ ((enterLost slot l cause s).lane l).census.mode = some .additive := by
  have hlane := enterLost_before slot l cause s
  rw [enterLost]
  generalize evalComplete l (moveEntry slot (Entry.toLost s.now) .lost cause s) = u at hlane
  rw [recallCensus, if_pos (by simp [State.censusRunning, State.laneLive, hlane, hon, hlive, hidle])]
  exact startCensus_run ..

theorem enterLost_naming (hoff : (s.lane l).options.recallCensus = false) (slot : Nat) (cause : DeviceCause) :
    Moves Scope.naming s (enterLost slot l cause s) := by
  rw [enterLost, recallCensus_of_off (by rw [enterLost_before]; exact hoff)]
  exact (moveEntry_moves (f := Entry.toLost s.now) trivial trivial (fun _ => rfl) (fun _ => rfl) ..).trans (evalComplete_naming ..)

/-! ## A failed outcome by the state of its entry -/

theorem lostOrEcho_of_limit (h : (s.lane e.lane).options.failureLimit ≤ e.fail) (slot : Nat) (cause : DeviceCause) :
    lostOrEcho slot e cause s = enterLost slot e.lane cause (setEntry slot (some e) s) := if_pos h

theorem lostOrEcho_of_below (h : e.fail < (s.lane e.lane).options.failureLimit) (slot : Nat) (cause : DeviceCause) :
    lostOrEcho slot e cause s = setEntry slot (some { e with echo := true }) s := if_neg (Nat.not_le.mpr h)

theorem applyFailure_of_strict (hst : e.state = .live ∨ e.state = .suspect) (h : reproves s e o = true) (slot : Nat) :
    applyFailure slot e o s = evalComplete e.lane (enterProving slot .reprove s) := by
  obtain hst | hst := hst <;> simp [applyFailure, hst, h]

theorem applyFailure_of_live (hst : e.state = .live) (h : reproves s e o = false) (slot : Nat) : applyFailure slot e o s =
    if (s.lane e.lane).options.failureLimit ≤ 1 then enterLost slot e.lane o.cause (setEntry slot (some { e with fail := 1 }) s)
    else enterSuspect slot e.lane o.cause s := by
  simp [applyFailure, hst, h]

theorem applyFailure_of_suspect (hst : e.state = .suspect) (h : reproves s e o = false) (slot : Nat) :
    applyFailure slot e o s = lostOrEcho slot { e with fail := min 7 (e.fail + 1) } o.cause s := by
  simp [applyFailure, hst, h]

theorem applyFailure_of_proving (hst : e.state = .proving) (slot : Nat) :
    applyFailure slot e o s = lostOrEcho slot { e with clean := 0, fail := min 7 (e.fail + 1) } o.cause s := by
  simp [applyFailure, hst]

theorem applyFailure_of_settled (hst : e.state = .lost ∨ e.state = .held ∨ e.state = .assigning) (slot : Nat) : applyFailure slot e o s = s := by
  obtain hst | hst | hst := hst <;> simp [applyFailure, hst]

theorem applyOutcome_of_failure (he : s.referenced r = some e) (ho : o = .noReply ∨ o = .corrupt) (st : Option Octet) :
    applyOutcome r o st s = applyFailure r.slot e o s := by
  by_cases hst : e.state = .assigning
  · rw [applyFailure_of_settled (.inr (.inr hst))]
    simp only [applyOutcome, he, hst, if_true]
  · obtain rfl | rfl := ho <;> simp only [applyOutcome, he, hst, if_false]

theorem lostOrEcho_naming {f : Entry} (hoff : (s.lane f.lane).options.recallCensus = false) (he : s.entry slot = some e) (hd : f.device = e.device)
    (hn : f.name = e.name) (cause : DeviceCause) : Moves Scope.naming s (lostOrEcho slot f cause s) := by
  unfold lostOrEcho
  split
  · exact (setEntry_moves (A := Scope.naming) trivial he hd hn).trans (enterLost_naming (by rwa [setEntry_lane]) slot cause)
  · exact setEntry_moves (A := Scope.naming) trivial he hd hn

/-- Without a recall census, a failure changes entries, notices and completeness alone. -/
theorem applyFailure_naming (hoff : (s.lane e.lane).options.recallCensus = false) (he : s.entry slot = some e) (o : ExchangeOutcome) :
    Moves Scope.naming s (applyFailure slot e o s) := by
  have hreprove : Moves Scope.naming s (evalComplete e.lane (enterProving slot .reprove s)) :=
    (enterProving_moves trivial trivial ..).trans (evalComplete_naming ..)
  unfold applyFailure
  split
  · exact lostOrEcho_naming (f := { e with clean := 0, fail := min 7 (e.fail + 1) }) hoff he rfl rfl _
  · split
    · exact hreprove
    · split
      · exact (setEntry_moves (A := Scope.naming) (f := { e with fail := 1 }) trivial he).trans (enterLost_naming (by rwa [setEntry_lane]) slot _)
      · exact enterSuspect_moves naming_names trivial ..
  · split
    · exact hreprove
    · exact lostOrEcho_naming (f := { e with fail := min 7 (e.fail + 1) }) hoff he rfl rfl _
  all_goals exact .refl s

/-- Settles O45: the exchange ends, and its entry moves by its state. -/
theorem failureMovesTheEntry : Obligations.FailureMovesTheEntry := by
  intro s l x r e c corrupt hrun hx hkind hsource hlast href he hfp hl hhow opt f lost again proved strict recalled
  obtain ⟨o, ho⟩ : ∃ o : ExchangeOutcome, o = if corrupt then .corrupt else .noReply := ⟨_, rfl⟩
  have hfails : FailsWith l x c o := by
    obtain ⟨hph, hc, hcor⟩ | ⟨hph, hc, hcor⟩ := hhow
    · exact .inl ⟨hph, hc, by rw [ho, hcor]; rfl⟩
    · exact .inr (.inl ⟨hph, hc, by rw [ho, hcor]; rfl⟩)
  have hfailure : o = .noReply ∨ o = .corrupt := by
    rw [ho]
    cases corrupt
    · exact .inl rfl
    · exact .inr rfl
  have hexec : exec c s = .next (applyFailure r.slot e o (s.hungUp l o)) := by
    have href' : (s.hungUp l o).referenced r = some e := referenced_eq ((hungUp_entry ..).trans he) hfp hl
    rw [exec_lastFailure hrun hx hlast hfails, ← applyOutcome_of_failure href' hfailure (statusOctet x [])]
    simp only [toSource, hsource, toSupervision, href]
  have hmoves : Moves (Scope.heeding r.slot) (s.hungUp l o) (applyFailure r.slot e o (s.hungUp l o)) :=
    applyFailure_moves (heeding_runs ..) rfl (fun _ _ => trivial) ((hungUp_entry ..).trans he) o
  obtain ⟨hlanes, hmap, hothers⟩ := Moves.heeded hmoves
  obtain ⟨hexch, hrx, hcounters, -⟩ := hlanes l
  have hkeeps := hungUp_keepsPower l o s
  have hue : (s.hungUp l o).entry r.slot = some e := (hungUp_entry ..).trans he
  have hopt : ((s.hungUp l o).lane e.lane).options = opt := hkeeps.options _
  have hstrict : reproves (s.hungUp l o) e o = true ↔ strict := by
    rw [reproves, hopt, Bool.and_eq_true, beq_iff_eq, ho]
    cases corrupt <;> simp [strict]
  have hlax (h : ¬ strict) : reproves (s.hungUp l o) e o = false := Bool.eq_false_iff.mpr (mt hstrict.mp h)
  have hproved (hst : e.state = .live ∨ e.state = .suspect) (h : strict) : (applyFailure r.slot e o (s.hungUp l o)).entry r.slot = some proved := by
    rw [applyFailure_of_strict hst (hstrict.mpr h), evalComplete_entry, enterProving_entry hue, proved_eq (by simp), hkeeps.thresholdInUse, hungUp_now]
  have hlost (g : Entry) (hg : g.device = e.device) : (enterLost r.slot g.lane o.cause (setEntry r.slot (some g) (s.hungUp l o))).entry r.slot =
      some (g.toLost s.now) ∧ recalled (enterLost r.slot g.lane o.cause (setEntry r.slot (some g) (s.hungUp l o))) := by
    have hgl : g.lane = e.lane := (device_eq_iff.mp hg).2.1
    refine ⟨?_, fun hon hlive hidle => ?_⟩
    · rw [enterLost_entry (entry_modified hue g)]
      exact congrArg (fun n => some (g.toLost n)) (hungUp_now ..)
    · rw [hgl]
      refine enterLost_recalled ?_ ?_ ?_ r.slot o.cause
      · rw [setEntry_lane, hopt]
        exact hon
      · rw [setEntry_lane, hkeeps.power]
        exact hlive
      · rw [setEntry_lane, hungUp_census]
        exact hidle
  have hlimit (g : Entry) (hg : g.device = e.device) (h : opt.failureLimit ≤ g.fail) :
      (lostOrEcho r.slot g o.cause (s.hungUp l o)).entry r.slot = some (g.toLost s.now) ∧ recalled (lostOrEcho r.slot g o.cause (s.hungUp l o)) := by
    rw [lostOrEcho_of_limit (by rwa [(device_eq_iff.mp hg).2.1, hopt])]
    exact hlost g hg
  have hbelow (g : Entry) (hg : g.device = e.device) (h : g.fail < opt.failureLimit) :
      (lostOrEcho r.slot g o.cause (s.hungUp l o)).entry r.slot = some { g with echo := true } := by
    rw [lostOrEcho_of_below (by rwa [(device_eq_iff.mp hg).2.1, hopt])]
    exact entry_modified hue _
  refine ⟨_, hexec, ?_, ?_, fun j hj => (hothers j hj).trans (hungUp_entry ..), ?_, fun k => ?_, hmap.trans hkeeps.nameMap, fun hoff => ?_, fun hst => hproved (.inl hst),
    fun hst hno hlim => ?_, fun hst hno hlim => ?_, fun hst => hproved (.inr hst), fun hst hno hlim => ?_, fun hst hno hlim => ?_, fun hst hlim => ?_,
    fun hst hlim => ?_, fun hst => ?_⟩
  · rw [hexch, hungUp_lane]
    rfl
  · rw [hrx, hungUp_lane]
    rfl
  · rw [hcounters, hungUp_lane, ho]
    cases corrupt <;> rfl
  · rw [(hlanes k).2.2.2, hkeeps.power]
  · exact (naming_arm (applyFailure_naming (by rw [hopt]; exact hoff) hue o)).trans (hungUp_arm ..)
  · rw [applyFailure_of_live hst (hlax hno), if_neg (by rw [hopt]; exact Nat.not_le.mpr hlim), enterSuspect, evalComplete_entry, moveEntry_entry hue]
  · rw [applyFailure_of_live hst (hlax hno), if_pos (by rwa [hopt])]
    exact hlost { e with fail := 1 } rfl
  · rw [applyFailure_of_suspect hst (hlax hno)]
    exact hlimit { e with fail := f } rfl hlim
  · rw [applyFailure_of_suspect hst (hlax hno)]
    exact hbelow { e with fail := f } rfl hlim
  · rw [applyFailure_of_proving hst]
    exact hlimit { e with clean := 0, fail := f } rfl hlim
  · rw [applyFailure_of_proving hst]
    exact hbelow { e with clean := 0, fail := f } rfl hlim
  · rw [applyFailure_of_settled hst, hue]

end Sys2Proof.Machine
end

section
/-! PROOFS. Replies taken: ECHO (O46), and forwarded DATA with its answers (O47). -/

namespace Sys2Proof.Machine

variable {s t : State} {l : Lane} {x : Exchange} {r : EntryRef} {e : Entry} {slot : Nat} {o : ExchangeOutcome} {c : Instr}

/-! ## Replies -/

theorem acceptReply_echo (hk : x.kind = .echo) (hlen : x.payload.length = 2) (status : Octet) :
    acceptReply x (.tail (stuffedContent (octet x.target :: 0x92 :: x.payload ++ [status]))) = some (x.payload ++ [status]) := by
  have hvalid : checkContent busMin busMax (stuffedContent (octet x.target :: 0x92 :: x.payload ++ [status])) =
      .valid (octet x.target :: 0x92 :: x.payload ++ [status]) :=
    checkContent_stuffedContent (by simp [hlen, busMin]) (by simp [hlen, busMax])
  rw [acceptReply, classifyEnd, hvalid]
  simp only [List.cons_append, checkReply, hk]
  refine if_pos ⟨rfl, trivial, by simp [hlen], ?_⟩
  rw [← hlen, List.take_left']
  rfl

theorem acceptReply_data (hk : x.kind = .data) {payload : List Octet} (hlen : payload.length ≤ 64) :
    acceptReply x (.tail (stuffedContent (octet x.target :: 0x93 :: payload))) = some payload := by
  have hvalid : checkContent busMin busMax (stuffedContent (octet x.target :: 0x93 :: payload)) = .valid (octet x.target :: 0x93 :: payload) :=
    checkContent_stuffedContent (by simp [busMin]) (by simp [busMax]; omega)
  rw [acceptReply, classifyEnd, hvalid]
  simp only [checkReply, hk]
  exact if_pos ⟨rfl, trivial⟩

/-- An accepted reply ends its exchange OK (R50). -/
theorem exec_replyAccepted (hrun : s.resetAsserted = false) (hx : (s.lane l).exch = some x) (hph : x.phase = .receive) {how : FrameEnd} {payload : List Octet}
    (h : acceptReply x how = some payload) :
    exec (.replyFrameEnd l how) s = .next (toSupervision x .ok payload (toSource l x .ok payload [] (s.hungUp l .ok))) := by
  refine congrArg Host.Outcome.next ((inPhase_eq hrun hx hph _).trans ?_)
  rw [replyEnded, h, ← endExchange_eq]

/-! ## An OK outcome by the state of its entry -/

theorem applyOutcome_of_ok (he : s.referenced r = some e) (hst : e.state ≠ .assigning) (status : Option Octet) : applyOutcome r .ok status s =
    applyOk r.slot (e.refreshed s.now status) (setEntry r.slot (some (e.refreshed s.now status)) s) := by
  simp only [applyOutcome, he, if_neg hst]

theorem applyOutcome_of_assigning (he : s.referenced r = some e) (hst : e.state = .assigning) (o : ExchangeOutcome) (status : Option Octet) :
    applyOutcome r o status s = s := by
  simp only [applyOutcome, he, if_pos hst]

theorem applyOutcome_of_gone (he : s.referenced r = none) (o : ExchangeOutcome) (status : Option Octet) : applyOutcome r o status s = s := by
  simp only [applyOutcome, he]

/-- What an OK outcome makes of an entry (R106 to R109). -/
def State.approved (s : State) (e : Entry) : Entry :=
  match e.state with
  | .proving => s.compared { e with clean := min 15 (e.clean + 1), fail := 0 }
  | .live => { e with silenceFrom := some s.now, echo := false, checked := false }
  | .suspect => e.toLive s.now
  | .lost => s.proved .recalled e
  | .assigning | .held => e

theorem applyOk_entry (he : s.entry slot = some e) : (applyOk slot e s).entry slot = some (s.approved e) := by
  cases hst : e.state with
  | proving =>
    simp only [applyOk, State.approved, hst]
    rw [evalComplete_entry, proveOrEcho_entry (entry_modified he _), (setEntry_keepsPower ..).compared]
  | live =>
    simp only [applyOk, State.approved, hst]
    exact entry_modified he _
  | suspect =>
    simp only [applyOk, State.approved, hst]
    rw [evalComplete_entry, enterLive_entry he]
  | lost =>
    simp only [applyOk, State.approved, hst]
    rw [evalComplete_entry, enterProving_entry he]
  | assigning | held =>
    simp only [applyOk, State.approved, hst]
    exact he

theorem KeepsPower.approved (h : KeepsPower s t) (e : Entry) : t.approved e = s.approved e := by
  have hproved : t.proved .recalled e = s.proved .recalled e := h.compared _
  rw [State.approved, State.approved, h.compared, h.now, hproved]

/-- An OK outcome reaches the entry of its reference, unless that is in ASSIGNING (R105). -/
theorem applyOutcome_ok_entry (he : s.referenced r = some e) (hst : e.state ≠ .assigning) (status : Option Octet) :
    (applyOutcome r .ok status s).entry r.slot = some (s.approved (e.refreshed s.now status)) := by
  obtain ⟨hslot, -, -⟩ := referenced_eq_some he
  rw [applyOutcome_of_ok he hst, applyOk_entry (entry_modified hslot _), (setEntry_keepsPower ..).approved]

theorem applyOutcome_ok_naming (r : EntryRef) (status : Option Octet) (s : State) : Moves Scope.naming s (applyOutcome r .ok status s) := by
  cases he : s.referenced r with
  | none => rw [applyOutcome_of_gone he]
  | some e =>
    obtain ⟨hslot, -, -⟩ := referenced_eq_some he
    by_cases hst : e.state = .assigning
    · rw [applyOutcome_of_assigning he hst]
    · rw [applyOutcome_of_ok he hst]
      exact (setEntry_moves (A := Scope.naming) (f := e.refreshed s.now status) trivial hslot).trans
        (applyOk_moves naming_names trivial (entry_modified hslot _))

theorem compared_of_below (h : e.clean < s.thresholdInUse e) : s.compared e = { e with echo := true } := if_neg (Nat.not_le.mpr h)

theorem compared_of_reached (h : s.thresholdInUse e ≤ e.clean) : s.compared e = e.toLive s.now := if_pos h

/-- A LIVE entry's silence time starts again (R107). -/
theorem applyOutcome_ok_live (he : s.referenced r = some e) (hst : e.state = .live) : applyOutcome r .ok none s =
    setEntry r.slot (some { e with lastGood := some s.now, silenceFrom := some s.now, checked := false, echo := false }) s := by
  rw [applyOutcome_of_ok he (by simp [hst])]
  simp only [applyOk, Entry.refreshed, hst]
  rw [setEntry, setEntry, List.set_set]
  rfl

/-- Settles O46: the exchange ends OK, and its entry moves by its state. -/
theorem echoReplyIsTaken : Obligations.EchoReplyIsTaken := by
  intro s l x r e status hrun hx hph hkind hsource href hlen he hfp hl how good count
  have hexec : exec (.replyFrameEnd l how) s = .next (applyOutcome r .ok (some status) (s.hungUp l .ok)) := by
    have hstatus : statusOctet x (x.payload ++ [status]) = some status := by
      rw [statusOctet, if_pos hkind, ← hlen, List.getElem?_append_right (Nat.le_refl _), Nat.sub_self]
      rfl
    rw [exec_replyAccepted hrun hx hph (acceptReply_echo hkind hlen status)]
    simp only [toSource, hsource, toSupervision, href, hstatus]
  have hue : (s.hungUp l .ok).referenced r = some e := referenced_eq ((hungUp_entry ..).trans he) hfp hl
  have hmoves := applyOutcome_ok_naming r (some status) (s.hungUp l .ok)
  obtain ⟨hlanes, -, hothers⟩ := Moves.heeded (applyOutcome_heeding r .ok (some status) (s.hungUp l .ok))
  obtain ⟨hexch, hrx, hcounters, -⟩ := hlanes l
  have hkeeps := hungUp_keepsPower l .ok s
  have hgood : e.refreshed (s.hungUp l .ok).now (some status) = good := by rw [hungUp_now]; rfl
  have hok (hst : e.state ≠ .assigning) : (applyOutcome r .ok (some status) (s.hungUp l .ok)).entry r.slot = some (s.approved good) := by
    rw [applyOutcome_ok_entry hue hst, hkeeps.approved, hgood]
  have happroved (hst : e.state = .proving) : s.approved good = s.compared { good with clean := count, fail := 0 } := by
    simp [State.approved, good, hst, count]
  refine ⟨_, hexec, ?_, ?_, ?_, (naming_arm hmoves).trans (hungUp_arm ..), (hmoves.framed.cycle.resolve_left id).trans (hungUp_seq ..), fun k => ?_,
    fun j hj => (hothers j hj).trans (hungUp_entry ..), fun hst => ?_, fun hst => ?_, fun hst hlow => ?_, fun hst hhigh => ?_, fun hst hlow => ?_, fun hst => ?_⟩
  · rw [hexch, hungUp_lane]
    rfl
  · rw [hrx, hungUp_lane]
    rfl
  · rw [hcounters, hungUp_lane]
    rfl
  · rw [(hlanes k).2.2.2, hkeeps.power]
  · rw [hok (by simp [hst])]
    simp [State.approved, good, hst]
  · rw [hok (by simp [hst])]
    simp [State.approved, good, hst, Entry.toLive]
  · rw [hok (by simp [hst]), happroved hst]
    exact congrArg some (compared_of_below (e := { good with clean := count, fail := 0 }) hlow)
  · rw [hok (by simp [hst]), happroved hst]
    exact congrArg some (compared_of_reached (e := { good with clean := count, fail := 0 }) hhigh)
  · have hlost : s.approved good = s.compared (good.toProving .recalled) := by simp [State.approved, good, hst, State.proved]
    rw [hok (by simp [hst]), hlost]
    exact congrArg some (compared_of_below (e := good.toProving .recalled) hlow)
  · rw [applyOutcome_of_assigning hue hst, hungUp_entry, he]

/-! ## Forwarded DATA -/

/-- A forwarded exchange gives its answer first, then its outcome goes to supervision (R54, R146). -/
theorem toSource_forward {name : Nat} {tag : Octet} (hsource : x.source = .forward name tag) (href : x.ref = some r) (o : ExchangeOutcome)
    (payload : List Octet) (s : State) : toSupervision x o payload (toSource l x o payload [] s) =
      applyOutcome r o (statusOctet x payload) (forwardAnswer name tag r o payload s) := by
  simp only [toSource, hsource, href, toSupervision]

theorem forwardAnswer_of_gone (h : s.referenced r = none) (name : Nat) (tag : Octet) (o : ExchangeOutcome) (payload : List Octet) :
    forwardAnswer name tag r o payload s = offer (refusal name tag .departed) s := by
  simp only [forwardAnswer, h]

theorem forwardAnswer_of_ok (h : s.referenced r = some e) {n : Nat} (hn : e.name = some n) (name : Nat) (tag : Octet) (payload : List Octet) :
    forwardAnswer name tag r .ok payload s = offer (reply n tag payload) s := by
  simp only [forwardAnswer, h, hn, Option.getD_some]

theorem forwardAnswer_of_failure (h : s.referenced r = some e) (name : Nat) (tag : Octet) (payload : List Octet) :
    forwardAnswer name tag r .noReply payload s = offer (refusal name tag .noReply) s ∧
      forwardAnswer name tag r .corrupt payload s = offer (refusal name tag .corrupt) s := by
  simp only [forwardAnswer, h, and_self]

/-- A frame placed at the back of the outbound queue. -/
def State.placing (s : State) (f : ArmFrame) : State := { s with arm := { s.arm with outbound := s.arm.outbound ++ [f] } }

@[simp] theorem placing_lane (s : State) (f : ArmFrame) (k : Lane) : (s.placing f).lane k = s.lane k := by cases k <;> rfl

@[simp] theorem placing_entry (s : State) (f : ArmFrame) (j : Nat) : (s.placing f).entry j = s.entry j := rfl

theorem offer_placing {f : ArmFrame} (hup : s.arm.linkUp = true) (hroom : s.arm.outbound.length < 24) : offer f s = s.placing f := offer_of_room hup hroom

theorem placing_referenced (s : State) (f : ArmFrame) (r : EntryRef) : (s.placing f).referenced r = s.referenced r := rfl

/-- With an entry that is gone, the answer is a REFUSAL DEPARTED and no entry hears of the outcome (R146). -/
theorem forwarded_of_gone (hup : s.arm.linkUp = true) (hroom : s.arm.outbound.length < 24) (h : s.referenced r = none) (name : Nat) (tag : Octet)
    (o : ExchangeOutcome) (status : Option Octet) (payload : List Octet) (l : Lane) (p : ExchangeOutcome) :
    applyOutcome r o status (forwardAnswer name tag r o payload (s.hungUp l p)) = (s.hungUp l p).placing (refusal name tag .departed) := by
  have hgone : (s.hungUp l p).referenced r = none := by
    rw [State.referenced, hungUp_entry]
    exact h
  rw [forwardAnswer_of_gone hgone, offer_placing (by rwa [hungUp_arm]) (by rwa [hungUp_arm])]
  exact applyOutcome_of_gone (s := (s.hungUp l p).placing (refusal name tag .departed)) hgone o status

/-- Settles O47: the answer to the controller, and what of the part it leaves. -/
theorem forwardedReply : Obligations.ForwardedReply := by
  intro s l x r name tag payload hrun hx hkind hsource href htarget hlen hup hroom how
  have hreply (hph : x.phase = .receive) := exec_replyAccepted hrun hx hph (acceptReply_data hkind hlen)
  have hstatus (os : List Octet) : statusOctet x os = none := if_neg (by simp [hkind])
  have hexch (o : ExchangeOutcome) (f : ArmFrame) : (((s.hungUp l o).placing f).lane l).exch = none := by
    rw [placing_lane, hungUp_lane]
    rfl
  refine ⟨fun e n hph he hfp hl hn hst => ?_, fun hph hgone => ?_, fun c n why hlast hhow => ?_⟩
  · have hexec := hreply hph
    have hue : (s.hungUp l .ok).referenced r = some e := referenced_eq ((hungUp_entry ..).trans he) hfp hl
    rw [toSource_forward hsource href, hstatus, forwardAnswer_of_ok hue hn, offer_placing (by rwa [hungUp_arm]) (by rwa [hungUp_arm])] at hexec
    have hlive := applyOutcome_ok_live (s := (s.hungUp l .ok).placing (reply n tag payload)) hue hst
    rw [hlive] at hexec
    refine ⟨_, hexec, ?_, ?_, ?_, fun j hj => ?_, hungUp_notices .., hungUp_seq ..⟩
    · exact congrArg (fun a : ArmLink => { a with outbound := a.outbound ++ [reply n tag payload] }) (hungUp_arm l .ok s)
    · rw [setEntry_lane]
      exact hexch ..
    · rw [entry_modified (e := e) (by rw [placing_entry, hungUp_entry, he])]
      exact congrArg (fun m => some { e with lastGood := some m, silenceFrom := some m, checked := false, echo := false }) (hungUp_now ..)
    · rw [entry_setEntry_ne (Ne.symm hj), placing_entry, hungUp_entry]
  · have hexec := hreply hph
    rw [toSource_forward hsource href, forwarded_of_gone hup hroom (referenced_eq_none hgone)] at hexec
    exact ⟨_, hexec, hungUp_roster .., hexch .., hungUp_notices ..,
      congrArg (fun a : ArmLink => { a with outbound := a.outbound ++ [refusal name tag .departed] }) (hungUp_arm l .ok s)⟩
  · obtain ⟨o, reason, hfails, hcode, hwhich⟩ : ∃ o reason, FailsWith l x c o ∧ octet (Reason.code reason) = why ∧
        ((o = .noReply ∧ reason = .noReply) ∨ (o = .corrupt ∧ reason = .corrupt)) := by
      obtain ⟨hph, hc, rfl⟩ | ⟨hph, hc, rfl⟩ | ⟨hph, hc, rfl⟩ := hhow
      · exact ⟨.noReply, .noReply, .inl ⟨hph, hc, rfl⟩, rfl, .inl ⟨rfl, rfl⟩⟩
      · exact ⟨.corrupt, .corrupt, .inr (.inl ⟨hph, hc, rfl⟩), rfl, .inr ⟨rfl, rfl⟩⟩
      · exact ⟨.corrupt, .corrupt, .inr (.inr ⟨hph, ⟨n, hc⟩, rfl⟩), rfl, .inr ⟨rfl, rfl⟩⟩
    have hexec := exec_lastFailure hrun hx hlast hfails
    rw [toSource_forward hsource href] at hexec
    refine ⟨fun hgone => ?_, fun e he hfp hl => ?_⟩
    · rw [forwarded_of_gone hup hroom (referenced_eq_none hgone)] at hexec
      exact ⟨_, hexec, hexch .., hungUp_roster ..,
        congrArg (fun a : ArmLink => { a with outbound := a.outbound ++ [refusal name tag .departed] }) (hungUp_arm l o s)⟩
    · have hue : (s.hungUp l o).referenced r = some e := referenced_eq ((hungUp_entry ..).trans he) hfp hl
      have hanswer : forwardAnswer name tag r o [] (s.hungUp l o) = (s.hungUp l o).placing (refusal name tag reason) := by
        obtain ⟨hno, hcorrupt⟩ := forwardAnswer_of_failure hue name tag []
        obtain ⟨rfl, rfl⟩ | ⟨rfl, rfl⟩ := hwhich
        · rw [hno, offer_placing (by rwa [hungUp_arm]) (by rwa [hungUp_arm])]
        · rw [hcorrupt, offer_placing (by rwa [hungUp_arm]) (by rwa [hungUp_arm])]
      rw [hanswer] at hexec
      have hmoves := applyOutcome_heeding r o (statusOctet x []) ((s.hungUp l o).placing (refusal name tag reason))
      obtain ⟨hlanes, -, hothers⟩ := Moves.heeded hmoves
      obtain ⟨⟨behind, hbehind⟩, -⟩ := Moves.places hmoves id id id
      refine ⟨_, behind, hexec, ?_, ?_, fun j hj => ?_⟩
      · rw [(hlanes l).1]
        exact hexch ..
      · rw [← hbehind, ← hcode]
        have harm : ((s.hungUp l o).placing (refusal name tag reason)).arm.outbound = s.arm.outbound ++ [refusal name tag reason] :=
          congrArg (fun a : ArmLink => a.outbound ++ [refusal name tag reason]) (hungUp_arm l o s)
        rw [harm, List.append_assoc]
        rfl
      · rw [hothers j hj, placing_entry, hungUp_entry]

end Sys2Proof.Machine
end

section
/-! PROOFS. The grants of the lane arbiter (O48). -/

namespace Sys2Proof.Machine

variable {s t : State} {l : Lane} {x : Exchange} {e : Entry} {slot : Nat}

/-! ## The arbiter's choices -/

theorem exec_exchangeGrant (hrun : s.resetAsserted = false) : exec (.exchangeGrant l) s = .next (grantLane l s) :=
  congrArg Host.Outcome.next (whenRunning_of_running hrun)

theorem grantLoop_of_busy (h : (s.lane l).exch.isSome = true) (n : Nat) : grantLoop l n s = s := by
  cases n with
  | zero => rfl
  | succ n => exact if_pos h

/-- A choice that changes nothing is the last one. -/
theorem grantLoop_of_still (h : grantOnce l s = s) (n : Nat) : grantLoop l n s = s := by
  induction n with
  | zero => rfl
  | succ n ih =>
    rw [grantLoop]
    split
    · rfl
    · rw [h, ih]

/-- The arbiter of an idle LIVE lane makes its choice, and goes on choosing from there. -/
theorem grantLane_of_idle (hlive : (s.lane l).power.state = .live) (hx : (s.lane l).exch = none) :
    ∃ n, grantLane l s = grantLoop l n (grantOnce l s) :=
  ⟨(s.lane l).forward.length + cyclePositions + 1, by
    rw [grantLane, if_pos (laneLive_eq_true.mpr hlive)]
    exact if_neg (by simp [hx])⟩

/-- A choice that begins an exchange is the last one. -/
theorem grantLane_of_begun (hlive : (s.lane l).power.state = .live) (hx : (s.lane l).exch = none) (h : ((grantOnce l s).lane l).exch.isSome = true) :
    grantLane l s = grantOnce l s := by
  obtain ⟨n, hn⟩ := grantLane_of_idle hlive hx
  rw [hn, grantLoop_of_busy h]

theorem grantOnce_of_run (h : (s.lane l).census.run ≠ .idle) : grantOnce l s = grantCensus l s := if_pos (censusRunning_eq_true.mpr h)

theorem grantOnce_of_due (h : (s.lane l).census.run = .idle) {d : Due} (hd : s.due l = some d) : grantOnce l s = grantCycle l d s := by
  rw [grantOnce, if_neg (by simp [censusRunning_eq_false.mpr h]), hd]

theorem grantOnce_in_turn (h : (s.lane l).census.run = .idle) (hd : s.due l = none) : grantOnce l s = grantInTurn l s := by
  rw [grantOnce, if_neg (by simp [censusRunning_eq_false.mpr h]), hd]

/-! ## The beginning of an exchange -/

/-- A lane at the beginning of an exchange (R46). -/
def LaneState.beginning (y : LaneState) (x : Exchange) : LaneState :=
  { LaneState.guarding { y with counters := { y.counters with started := addSat y.counters.started } } x with rx := .hunt }

theorem beginExchange_eq (l : Lane) (x : Exchange) (s : State) : beginExchange l x s = s.setLane l ((s.lane l).beginning x) := by
  rw [beginExchange, enterGuard_eq, countStarted, modCounters, modLane, setLane_lane, setLane_setLane, setRx_eq, setLane_lane, setLane_setLane]
  rfl

theorem beginExchange_exch (l : Lane) (x : Exchange) (s : State) : ((beginExchange l x s).lane l).exch.isSome = true := by
  rw [beginExchange_eq, setLane_lane]
  unfold LaneState.beginning LaneState.guarding
  dsimp only
  split
  · rfl
  · rfl

/-- A request of another kind than ECHO goes into GUARD as it stands. -/
theorem beginning_request (y : LaneState) {k : BusKind} (hk : k ≠ .echo) (src : Source) (target : Nat) (ref : Option EntryRef) (p : Profile)
    (payload : List Octet) : y.beginning (.request src k target ref p payload) = { y with
      exch := some (.request src k target ref p payload), rx := .hunt, counters := { y.counters with started := addSat y.counters.started } } := by
  rw [LaneState.beginning, LaneState.guarding, if_neg (show (Exchange.request src k target ref p payload).kind ≠ .echo from hk)]
  rfl

/-- An ECHO takes a new token (R54). -/
theorem beginning_echo (y : LaneState) (src : Source) (target : Nat) (ref : Option EntryRef) (p : Profile) (payload : List Octet) :
    y.beginning (.request src .echo target ref p payload) = { y with
      exch := some ⟨src, .echo, target, ref, p, 1, some (y.echoToken + 1), .guard, tokenOctets (y.echoToken + 1), 0, none, []⟩
      rx := .hunt, echoToken := y.echoToken + 1, counters := { y.counters with started := addSat y.counters.started } } := rfl

/-! ## Census and cycle -/

theorem grantCensus_of_offer {f : CensusOffer} (h : (s.lane l).census.offer = some f) :
    grantCensus l s = beginExchange l (f.request (s.defaultProfile l)) (modCensus l Census.granted s) := by
  simp only [grantCensus, h]

/-- A taken-over item leaves its list at its grant (R69). -/
theorem granted_taken {c : Census} {a : Nat} (h : c.offer = some (.taken a)) : c.granted = { c with offer := none, taken := c.taken.tail } := by
  simp only [Census.granted, h]

theorem granted_other {c : Census} (h : ∀ a, c.offer ≠ some (.taken a)) : c.granted = { c with offer := none } := by
  unfold Census.granted
  split
  · next a ha => exact absurd ha (h a)
  · rfl

theorem grantCensus_of_none (h : (s.lane l).census.offer = none) : grantCensus l s = s := by
  simp only [grantCensus, h]

theorem ready_eq {r : EntryRef} (he : s.referenced r = some e) (hst : e.state = .live ∨ e.state = .suspect) : s.ready r = some e := by
  simp only [State.ready, he]
  exact if_pos (carriesData_eq_true.mpr hst)

theorem grantCycle_of_ready {d : Due} (h : s.ready d.ref = some e) : grantCycle l d s =
    beginExchange l (.request (.cycle d.position) .data d.address (some d.ref) (s.profile (s.profileInUse e)) d.payload) (setCursor l ⟨d.position, none⟩ s) := by
  simp only [grantCycle, h]

/-! ## Forward and supervision in turn -/

theorem echoPending_eq_true : s.echoPending l slot = true ↔ ∃ e, s.entry slot = some e ∧ e.lane = l ∧ e.echo = true := by
  unfold State.echoPending
  split <;> simp_all

theorem nextEcho_eq_none (h : ∀ slot e, s.entry slot = some e → e.lane = l → e.echo = false) : s.nextEcho l = none := by
  refine List.find?_eq_none.mpr fun slot _ hp => ?_
  obtain ⟨e, he, hl, hecho⟩ := echoPending_eq_true.mp hp
  simp [h slot e he hl] at hecho

/-- The first slot above the one last served, upward and around, with an echo item (R59). -/
theorem nextEcho_eq_some {i : Nat} (hi : i < 32) (he : s.entry (((s.lane l).lastServed + 1 + i) % 32) = some e) (hl : e.lane = l) (hecho : e.echo = true)
    (hfirst : ∀ j f, j < i → s.entry (((s.lane l).lastServed + 1 + j) % 32) = some f → f.lane = l → f.echo = false) :
    s.nextEcho l = some (((s.lane l).lastServed + 1 + i) % 32) := by
  have hfound : (List.range' 0 rosterSlots).find? (s.echoPending l ∘ fun i => ((s.lane l).lastServed + 1 + i) % rosterSlots) = some i := by
    refine List.find?_range'_eq_some.mpr ⟨echoPending_eq_true.mpr ⟨e, he, hl, hecho⟩, ?_, fun j _ hj => ?_⟩
    · rw [List.mem_range'_1]
      exact ⟨Nat.zero_le i, by rw [rosterSlots]; omega⟩
    · by_contra hp
      simp only [Bool.not_eq_true', Bool.not_eq_false, Function.comp] at hp
      obtain ⟨f, hf, hfl, hfe⟩ := echoPending_eq_true.mp hp
      simp [hfirst j f hj hf hfl] at hfe
  rw [State.nextEcho, echoOrder, List.find?_map, List.range_eq_range', hfound]
  rfl

theorem supervisionOffers_eq_false (hu : (s.lane l).unaddress = []) (h : ∀ slot e, s.entry slot = some e → e.lane = l → e.echo = false) :
    s.supervisionOffers l = false := by
  simp [State.supervisionOffers, hu, nextEcho_eq_none h]

theorem grantInTurn_forward {r : ForwardRecord} {rest : List ForwardRecord} (hf : (s.lane l).forward = r :: rest)
    (h : (s.lane l).lastTurn = .supervision ∨ s.supervisionOffers l = false) : grantInTurn l s = grantForward l r rest s := by
  simp only [grantInTurn, hf]
  refine if_neg fun hn => ?_
  obtain h | h := h
  · simp [h] at hn
  · simp [h] at hn

theorem grantInTurn_supervision (h : (s.lane l).lastTurn = .forward ∨ (s.lane l).forward = []) (hoffers : s.supervisionOffers l = true) :
    grantInTurn l s = grantSupervision l s := by
  unfold grantInTurn
  split
  · next r rest hf => exact if_pos ⟨h.resolve_right (by simp [hf]), hoffers⟩
  · exact if_pos hoffers

theorem grantInTurn_of_none (hf : (s.lane l).forward = []) (hoffers : s.supervisionOffers l = false) : grantInTurn l s = s := by
  simp only [grantInTurn, hf, hoffers]
  rfl

/-- An arbiter with no due entry, no record and no item to serve chooses nothing. -/
theorem grant_of_nothing (hc : (s.lane l).census.run = .idle) (hd : s.due l = none) (hf : (s.lane l).forward = []) (hu : (s.lane l).unaddress = [])
    (hecho : ∀ slot e, s.entry slot = some e → e.lane = l → e.echo = false) : grantOnce l s = s :=
  (grantOnce_in_turn hc hd).trans (grantInTurn_of_none hf (supervisionOffers_eq_false hu hecho))

theorem takeForward_eq (l : Lane) (rest : List ForwardRecord) (s : State) :
    takeForward l rest s = s.setLane l { s.lane l with forward := rest, lastTurn := .forward } := rfl

/-- A REFUSAL placed behind the outbound queue, with the record gone from its forward queue. -/
theorem offer_takeForward {f : ArmFrame} (hup : s.arm.linkUp = true) (hroom : s.arm.outbound.length < 24) (l : Lane) (rest : List ForwardRecord) :
    offer f (takeForward l rest s) = (s.placing f).setLane l { s.lane l with forward := rest, lastTurn := .forward } := by
  cases l
  · exact offer_placing hup hroom
  · exact offer_placing hup hroom

theorem grantForward_entry {fp : Fingerprint} {name : Nat} {tag : Octet} {payload : List Octet} (he : s.referenced ⟨l, slot, fp⟩ = some e)
    (rest : List ForwardRecord) : grantForward l (.entry slot fp name tag payload) rest s = if e.state.carriesData then
      beginExchange l (.request (.forward name tag) .data e.address (some ⟨l, slot, fp⟩) (s.profile (s.profileInUse e)) payload) (takeForward l rest s)
    else offer (refusal name tag .notReady) (takeForward l rest s) := by
  simp only [grantForward, he]

theorem grantForward_gone {fp : Fingerprint} {name : Nat} {tag : Octet} {payload : List Octet} (he : s.referenced ⟨l, slot, fp⟩ = none)
    (rest : List ForwardRecord) :
    grantForward l (.entry slot fp name tag payload) rest s = offer (refusal name tag .departed) (takeForward l rest s) := by
  simp only [grantForward, he]

theorem grantSupervision_unaddress {a : Nat} {more : List Nat} (h : (s.lane l).unaddress = a :: more) : grantSupervision l s =
    beginExchange l (.request .supervision .unaddress a none (s.defaultProfile l) [])
      (modLane l (fun y => { y with unaddress := more }) (turnSupervision l s)) := by
  simp only [grantSupervision, h]

/-- An ECHO item served: its slot is the one last served (R59). -/
theorem supervisionTurn_eq (l : Lane) (slot : Nat) (e : Option Entry) (s : State) :
    modLane l (fun y => { y with lastServed := slot }) (setEntry slot e (turnSupervision l s)) =
      (setEntry slot e s).setLane l { s.lane l with lastTurn := .supervision, lastServed := slot } := by
  cases l <;> rfl

theorem grantSupervision_echo (hu : (s.lane l).unaddress = []) (hn : s.nextEcho l = some slot) (he : s.entry slot = some e) :
    grantSupervision l s = beginExchange l (.request .supervision .echo e.address (some ⟨l, slot, e.fp⟩) (s.profile (s.profileInUse e)) [])
      (modLane l (fun y => { y with lastServed := slot }) (setEntry slot (some { e with echo := false }) (turnSupervision l s))) := by
  simp only [grantSupervision, hu, hn, he]
  rfl

/-! ## The grants -/

/-- A grant that begins a request of another kind than ECHO, on a state whose lane is known. -/
theorem beginExchange_request {k : BusKind} (hk : k ≠ .echo) (l : Lane) (src : Source) (target : Nat) (ref : Option EntryRef) (p : Profile)
    (payload : List Octet) (y : LaneState) (s : State) :
    beginExchange l (.request src k target ref p payload) (s.setLane l y) = s.setLane l { y with
      exch := some (.request src k target ref p payload), rx := .hunt, counters := { y.counters with started := addSat y.counters.started } } := by
  rw [beginExchange_eq, setLane_lane, beginning_request y hk, setLane_setLane]

/-- A choice that begins an exchange is the grant's whole effect. -/
theorem exec_grant_begun (hrun : s.resetAsserted = false) (hlive : (s.lane l).power.state = .live) (hx : (s.lane l).exch = none)
    (h : grantOnce l s = beginExchange l x t) : exec (.exchangeGrant l) s = .next (beginExchange l x t) := by
  rw [exec_exchangeGrant hrun, grantLane_of_begun hlive hx (h ▸ beginExchange_exch l x t), h]

/-- A choice after which nothing is left to choose is the grant's whole effect. -/
theorem exec_grant_still (hrun : s.resetAsserted = false) (hlive : (s.lane l).power.state = .live) (hx : (s.lane l).exch = none)
    (h : grantOnce l s = t) (hstill : grantOnce l t = t) : exec (.exchangeGrant l) s = .next t := by
  obtain ⟨n, hn⟩ := grantLane_of_idle hlive hx
  rw [exec_exchangeGrant hrun, hn, h, grantLoop_of_still hstill]

/-- What a census offer hands over, once it is granted (R45, R69, R70, R86, R87). -/
theorem grantCensus_begun (hrun : s.resetAsserted = false) (hlive : (s.lane l).power.state = .live) (hx : (s.lane l).exch = none)
    (hc : (s.lane l).census.run ≠ .idle) {f : CensusOffer} (hf : (s.lane l).census.offer = some f) {k : BusKind} (hk : k ≠ .echo) {target : Nat}
    {payload : List Octet} (hreq : f.request (s.defaultProfile l) = .request .census k target none (s.defaultProfile l) payload) :
    exec (.exchangeGrant l) s = .next (s.setLane l { s.lane l with
      exch := some (.request .census k target none (s.defaultProfile l) payload), rx := .hunt, census := (s.lane l).census.granted
      counters := { (s.lane l).counters with started := addSat (s.lane l).counters.started } }) := by
  rw [exec_grant_begun hrun hlive hx ((grantOnce_of_run hc).trans (grantCensus_of_offer hf)), hreq]
  exact congrArg Host.Outcome.next (beginExchange_request hk ..)

/-- Settles O48: the arbiter's choice by its sources, in the order of R61. -/
theorem grants : Obligations.Grants := by
  intro s l hrun request default started noEcho
  refine ⟨fun h => ?_, fun hlive hx => ⟨fun hc => ⟨fun o ho => ?_, fun ho => ?_⟩, fun hc => ⟨fun d e hd he hfp hl hst => ?_, fun hd => ⟨?_, ?_, ?_⟩⟩⟩⟩
  · rw [exec_exchangeGrant hrun, grantLane]
    split
    · next hlive => rw [grantLoop_of_busy (h.resolve_left (fun hn => hn (laneLive_eq_true.mp hlive)))]
    · rfl
  · have hother (h : ∀ a, o ≠ .taken a) : (s.lane l).census.granted = { (s.lane l).census with offer := none } :=
      granted_other fun a ha => h a (Option.some.inj (ho.symm.trans ha))
    cases o with
    | broadcast => rw [grantCensus_begun hrun hlive hx hc ho (by decide) rfl, hother (by simp)]; rfl
    | taken a => rw [grantCensus_begun hrun hlive hx hc ho (by decide) rfl, granted_taken ho]; rfl
    | drop a => rw [grantCensus_begun hrun hlive hx hc ho (by decide) rfl, hother (by simp)]; rfl
    | probe q => rw [grantCensus_begun hrun hlive hx hc ho (by decide) rfl, hother (by simp)]; rfl
    | assign f a => rw [grantCensus_begun hrun hlive hx hc ho (by decide) rfl, hother (by simp)]; rfl
  · have hone : grantOnce l s = s := (grantOnce_of_run hc).trans (grantCensus_of_none ho)
    exact exec_grant_still hrun hlive hx hone hone
  · have href : s.referenced d.ref = some e := referenced_eq he hfp hl
    rw [exec_grant_begun hrun hlive hx ((grantOnce_of_due hc hd).trans (grantCycle_of_ready (ready_eq href hst)))]
    rw [beginExchange_eq, beginning_request _ (by decide)]
    rfl
  · intro slot fp name tag payload more hf hturn
    have honce : grantOnce l s = grantForward l (.entry slot fp name tag payload) more s := by
      rw [grantOnce_in_turn hc hd, grantInTurn_forward hf (hturn.imp_right fun h => supervisionOffers_eq_false h.1 h.2)]
    refine ⟨fun e he hfp hl hst => ?_, fun hmore hu hecho hup hroom => ?_⟩
    · have href : s.referenced ⟨l, slot, fp⟩ = some e := referenced_eq he hfp hl
      rw [exec_grant_begun hrun hlive hx (honce.trans ((grantForward_entry href more).trans (if_pos (carriesData_eq_true.mpr hst)))), takeForward_eq]
      exact congrArg Host.Outcome.next (beginExchange_request (by decide) ..)
    · have hgiven (r : Reason) (h : grantForward l (.entry slot fp name tag payload) more s = offer (refusal name tag r) (takeForward l more s)) :
          exec (.exchangeGrant l) s = .next ((s.placing (refusal name tag r)).setLane l { s.lane l with forward := [], lastTurn := .forward }) := by
        subst hmore
        refine exec_grant_still hrun hlive hx (honce.trans (h.trans (offer_takeForward hup hroom l []))) (grant_of_nothing ?_ ?_ ?_ ?_ ?_)
        · simpa using hc
        · rw [← hd]
          cases l <;> rfl
        · simp
        · simpa using hu
        · cases l
          · exact hecho
          · exact hecho
      refine ⟨fun h => ?_, fun e he hfp hl hnl hns => ?_⟩
      · rw [hgiven _ (grantForward_gone (referenced_eq_none h) more)]
        rfl
      · rw [hgiven _ ((grantForward_entry (referenced_eq he hfp hl) more).trans (if_neg fun h => ?_))]
        · rfl
        · exact (carriesData_eq_true.mp h).elim hnl hns
  · intro tag payload more hf hturn
    have honce : grantOnce l s = grantForward l (.broadcast tag payload) more s := by
      rw [grantOnce_in_turn hc hd, grantInTurn_forward hf (hturn.imp_right fun h => supervisionOffers_eq_false h.1 h.2)]
    rw [exec_grant_begun hrun hlive hx honce, takeForward_eq]
    exact congrArg Host.Outcome.next (beginExchange_request (by decide) ..)
  · intro hturn
    refine ⟨fun a more hu => ?_, fun i slot e hu hi hslot he hl hecho hfirst => ?_⟩
    · have honce : grantOnce l s = grantSupervision l s := by
        rw [grantOnce_in_turn hc hd, grantInTurn_supervision hturn (by simp [State.supervisionOffers, hu])]
      rw [exec_grant_begun hrun hlive hx (honce.trans (grantSupervision_unaddress hu)), turnSupervision, modLane, modLane, setLane_lane, setLane_setLane]
      exact congrArg Host.Outcome.next (beginExchange_request (by decide) ..)
    · subst hslot
      have hnext := nextEcho_eq_some hi he hl hecho hfirst
      have honce : grantOnce l s = grantSupervision l s := by
        rw [grantOnce_in_turn hc hd, grantInTurn_supervision hturn (by simp [State.supervisionOffers, hnext])]
      rw [exec_grant_begun hrun hlive hx (honce.trans (grantSupervision_echo hu hnext he)), supervisionTurn_eq, beginExchange_eq, setLane_lane,
        setLane_setLane, beginning_echo]
      rfl

end Sys2Proof.Machine
end

section
/-! PROOFS. The end of a probe's slots (O49). -/

namespace Sys2Proof.Machine

variable {s : State} {l : Lane} {x : Exchange} {p : ProbeRecord} {h : ProbeInHand}

/-! ## The end of an exchange of the census -/

/-- The outcome of a census exchange goes to its run alone (R56). -/
theorem endExchange_of_census (hsource : x.source = .census) (href : x.ref = none) {o : ExchangeOutcome}
    (payload : List Octet) (slots : List SlotObs) :
    endExchange l x o payload slots s = censusOutcome l x.kind x.profile.guard slots o (s.hungUp l o) := by
  rw [endExchange_eq]
  simp only [toSupervision, toSource, href, hsource]

theorem exec_slotsEnd (hrun : s.resetAsserted = false) (hx : (s.lane l).exch = some x) (hph : x.phase = .slots) (hp : x.probe = some p)
    (hplace : p.place = .slot 3) : exec (.slotsEnd l) s = .next (endExchange l x .ok [] p.slots s) := by
  refine congrArg Host.Outcome.next ((inPhase_eq hrun hx hph _).trans ?_)
  simp only [onProbe, hp]
  exact if_pos hplace

/-- The probe's end is its result for the run (R72, R74). -/
theorem censusOutcome_probe (hrun : (s.lane l).census.run ≠ .idle) (guard : Nat) (slots : List SlotObs) :
    censusOutcome l .probe guard slots .ok (s.hungUp l .ok) = probeResult l guard slots (s.hungUp l .ok) := by
  simp only [censusOutcome, hungUp_census, if_neg hrun, if_true]

/-! ## What a probe's slots give -/

/-- The class of a slot of the probe in hand (R72). -/
def ProbeInHand.classOf (h : ProbeInHand) (guard : Nat) (slots : List SlotObs) (k : Nat) : SlotClass :=
  classifySlot h.prefx guard k (slots.getD k ⟨none, []⟩)

/-- The slots looked at that are COLLIDED (R78). -/
def ProbeInHand.collided (h : ProbeInHand) (guard : Nat) (slots : List SlotObs) : List Nat :=
  h.looksAt.filter fun k => h.classOf guard slots k == .collided

/-- The finds of the slots looked at, in slot order (R75). -/
def ProbeInHand.singles (h : ProbeInHand) (guard : Nat) (slots : List SlotObs) : List Fingerprint :=
  h.looksAt.filterMap fun k => (h.classOf guard slots k).find

theorem countCollisions_eq (l : Lane) (n : Nat) (s : State) : countCollisions l n s = s.setLane l { s.lane l with
    counters := { (s.lane l).counters with collided := n.repeat addSat (s.lane l).counters.collided } } := by
  induction n with
  | zero => cases l <;> rfl
  | succ n ih =>
    refine (congrArg (countCollided l) ih).trans ?_
    cases l <;> rfl

/-- What a classified probe does to its run (R75, R78, R80, R90). -/
theorem probeResult_eq (hh : (s.lane l).census.hand = some h) (guard : Nat) (slots : List SlotObs) :
    let collided := h.collided guard slots
    let finds := h.singles guard slots
    let counted := countCollisions l collided.length s
    probeResult l guard slots s =
      if (s.lane l).census.run = .stopping then endCensus l .stopped (lastDuplicates l { h with openSlots := collided } counted)
      else if h.prefx.depth = 0 ∧ 0 < (s.lane l).census.confirming ∧ collided = [] ∧ finds = [] then endCensus l .done counted
      else takeFinds l finds (setHand l (some { h with openSlots := collided, finds := finds }) counted) := by
  have hcollided : ((h.looksAt.map fun k => (k, h.classOf guard slots k)).filter fun y => y.2 == .collided).map Prod.fst = h.collided guard slots := by
    rw [List.filter_map, List.map_map]
    exact List.map_id _
  have hfinds : (h.looksAt.map fun k => (k, h.classOf guard slots k)).filterMap (fun y => y.2.find) = h.singles guard slots := by
    rw [List.filterMap_map]
    rfl
  intro collided finds counted
  simp only [collided, finds, counted, ← hcollided, ← hfinds, probeResult, hh]
  rfl

theorem isThird_eq_true : h.isThird = true ↔ 23 ≤ h.prefx.depth ∧ 3 ≤ h.number := by
  rw [ProbeInHand.isThird, Bool.and_eq_true, decide_eq_true_iff, decide_eq_true_iff]
  rfl

/-- The open slots of a third probe at depth 23 are duplicates, in STOPPING too (R79, R90). -/
theorem lastDuplicates_of_third (h : ProbeInHand) (hthird : 23 ≤ h.prefx.depth ∧ 3 ≤ h.number) (l : Lane) (s : State) :
    lastDuplicates l h s = s.withDuplicates l false (h.openSlots.map fun k => (h.prefx.forSlot k).bits) :=
  (if_pos (isThird_eq_true.mpr hthird)).trans (declareOpen_eq ..)

theorem lastDuplicates_of_not_third (h : ProbeInHand) (hthird : ¬ (23 ≤ h.prefx.depth ∧ 3 ≤ h.number)) (l : Lane) (s : State) :
    lastDuplicates l h s = s := if_neg (mt isThird_eq_true.mp hthird)

/-- Settles O49: the finds and the open slots of the probe, and how its run goes on with them. -/
theorem censusWalk : Obligations.CensusWalk := by
  intro s l x p h hreset hx hph hk hsource href hp hplace hh hcomplete c look slotClass finds collided third counted quiet
  have hexec (hrun : c.run ≠ .idle) : exec (.slotsEnd l) s = .next (probeResult l x.profile.guard p.slots (s.hungUp l .ok)) := by
    rw [exec_slotsEnd hreset hx hph hp hplace, endExchange_of_census hsource href, hk, censusOutcome_probe hrun]
  have hcollided : h.collided x.profile.guard p.slots = collided := rfl
  have hfinds : h.singles x.profile.guard p.slots = finds := by
    refine congrFun (congrArg List.filterMap (funext fun k => ?_)) look
    show (slotClass k).find = _
    cases slotClass k <;> rfl
  have hcounted : countCollisions l collided.length (s.hungUp l .ok) = counted := by
    rw [countCollisions_eq, hungUp_lane]
    cases l <;> rfl
  have hresult := probeResult_eq (s := s.hungUp l .ok) (l := l) (h := h) (by rw [hungUp_census, hh]) x.profile.guard p.slots
  dsimp only at hresult
  rw [hcollided, hfinds, hcounted, hungUp_census] at hresult
  refine ⟨fun hrun => ?_, fun hrun => ?_⟩
  · rw [hexec (by rw [hrun]; decide), hresult, if_pos hrun, endCensus_eq]
    refine ⟨fun hthird => ?_, fun hthird => ?_⟩
    · rw [lastDuplicates_of_third { h with openSlots := collided } hthird]
    · rw [lastDuplicates_of_not_third { h with openSlots := collided } hthird]
  · rw [hexec (by rw [hrun]; decide), hresult, if_neg (by rw [show (s.lane l).census.run = .running from hrun]; decide)]
    refine ⟨fun hquiet => by rw [if_pos hquiet, endCensus_eq], fun hquiet => ⟨_, congrArg _ (if_neg hquiet), ?_⟩⟩
    have hcensus : (counted.lane l).census = c := by rw [setLane_lane]
    refine takeFinds_goesOn l { h with openSlots := collided } finds finds counted ?_ ?_
    · rw [hcensus, hrun]
      decide
    · rw [setLane_lane]
      exact hcomplete

end Sys2Proof.Machine
end

section
/-! PROOFS. What a census ASSIGN does to its entry, and how the run goes on (the lemmas of O50). -/

namespace Sys2Proof.Machine

variable {s t u w : State} {l : Lane} {x : Exchange} {e : Entry} {slot : Nat} {o : ExchangeOutcome} {c : Instr}

/-! ## The end of a census exchange -/

theorem acceptReply_assign (hk : x.kind = .assign) : acceptReply x (.tail (stuffedContent (x.payload.getD 6 0 :: 0x91 :: x.payload.take 6))) =
    some (x.payload.take 6) := by
  have hvalid : checkContent busMin busMax (stuffedContent (x.payload.getD 6 0 :: 0x91 :: x.payload.take 6)) =
      .valid (x.payload.getD 6 0 :: 0x91 :: x.payload.take 6) :=
    checkContent_stuffedContent (by simp [busMin]) (by simp [busMax])
  rw [acceptReply, classifyEnd, hvalid]
  simp only [checkReply, hk]
  exact if_pos ⟨rfl, trivial, trivial⟩

/-- The ways in which the last attempt of an exchange can fail: silence, the guard limit, or a reply that is not accepted. -/
def FailsBy (l : Lane) (x : Exchange) (c : Instr) (o : ExchangeOutcome) : Prop :=
  (x.phase = .wait ∧ c = .replyTimeout l ∧ o = .noReply) ∨ (x.phase = .guard ∧ c = .guardLimitReached l ∧ o = .corrupt) ∨
    (x.phase = .receive ∧ (∃ how, c = .replyFrameEnd l how ∧ acceptReply x how = none) ∧ o = .corrupt)

/-- The last attempt of a census exchange fails, and its run takes the outcome (R51, R56). -/
theorem exec_censusFailure (hrun : s.resetAsserted = false) (hx : (s.lane l).exch = some x) (hlast : x.profile.retries < x.attempt)
    (hsource : x.source = .census) (href : x.ref = none) (h : FailsBy l x c o) :
    exec c s = .next (censusOutcome l x.kind x.profile.guard [] o (s.hungUp l o)) := by
  obtain ⟨hph, rfl, rfl⟩ | ⟨hph, rfl, rfl⟩ | ⟨hph, ⟨how, rfl, hnone⟩, rfl⟩ := h
  · refine congrArg Host.Outcome.next ((inPhase_eq hrun hx hph _).trans ?_)
    rw [failAttempt_of_last hlast, endExchange_of_census hsource href]
  · refine congrArg Host.Outcome.next ((inPhase_eq hrun hx hph _).trans ?_)
    rw [failAttempt_of_last hlast, endExchange_of_census hsource href]
  · refine congrArg Host.Outcome.next ((inPhase_eq hrun hx hph _).trans ?_)
    rw [replyEnded, hnone, failAttempt_of_last hlast, endExchange_of_census hsource href, hungUp_setRx]

theorem exec_assignAccepted (hrun : s.resetAsserted = false) (hx : (s.lane l).exch = some x) (hph : x.phase = .receive) (hk : x.kind = .assign)
    (hsource : x.source = .census) (href : x.ref = none) :
    exec (.replyFrameEnd l (.tail (stuffedContent (x.payload.getD 6 0 :: 0x91 :: x.payload.take 6)))) s =
      .next (censusOutcome l x.kind x.profile.guard [] .ok (s.hungUp l .ok)) := by
  rw [exec_replyAccepted hrun hx hph (acceptReply_assign hk)]
  simp only [toSupervision, toSource, href, hsource]

theorem censusOutcome_assign (hrun : (s.lane l).census.run ≠ .idle) (ho : o ≠ .abandoned) (guard : Nat) (slots : List SlotObs) :
    censusOutcome l .assign guard slots o s = assignOutcome l o s := by
  cases o with
  | abandoned => exact absurd rfl ho
  | ok | noReply | corrupt => simp only [censusOutcome, if_neg hrun]

theorem censusOutcome_unaddress (hrun : (s.lane l).census.run ≠ .idle) (guard : Nat) (slots : List SlotObs) :
    censusOutcome l .unaddress guard slots .ok s = continueRun l s := by
  simp only [censusOutcome, if_neg hrun, if_true]

theorem censusOutcome_corrupt {k : BusKind} (hrun : (s.lane l).census.run ≠ .idle) (hk : k ≠ .assign) (guard : Nat) (slots : List SlotObs) :
    censusOutcome l k guard slots .corrupt s = guardFailed l s := by
  cases k with
  | assign => exact absurd rfl hk
  | probe | unaddress | echo | data => simp [censusOutcome, if_neg hrun]

/-! ## The entry of the find -/

/-- What an OK ASSIGN makes of the entry of a find (R82, R83, R86). -/
def admitted (l : Lane) (slot : Nat) (g : Find) (e : Entry) (s : State) : State :=
  if g.kind = .rejoin then rejoinOk l slot e s else assignOk l slot g s

/-- The find's entry is recorded as assigned and counted as found (R88, R97). -/
def State.found (s : State) (l : Lane) (slot : Nat) : State := countFound l (markAssigned slot s)

theorem assignOutcome_ok {g : Find} (hg : (s.lane l).census.find = some g) (he : s.entryWithFp g.fp = some (slot, e)) :
    assignOutcome l .ok s = continueRun l (clearFind l (admitted l slot g e (s.found l slot))) := by
  unfold assignOutcome admitted
  rw [hg]
  dsimp only
  rw [he]
  dsimp only
  split
  · rfl
  · rfl

theorem assignOutcome_failed {g : Find} (hg : (s.lane l).census.find = some g) (he : s.entryWithFp g.fp = some (slot, e)) (ho : o ≠ .ok) :
    assignOutcome l o s = if g.kind = .rejoin then continueRun l (clearFind l (rejoinFailed l slot e s)) else assignFailed l slot e o s := by
  simp only [assignOutcome, hg, he, if_neg ho]

theorem found_entry (he : s.entry slot = some e) (l : Lane) : (s.found l slot).entry slot = some { e with lastGood := some s.now } :=
  countFound_markAssigned_entry he

theorem markAssigned_keepsDevices (slot : Nat) (s : State) : KeepsDevices (· = slot) s (markAssigned slot s) :=
  modEntry_keepsDevices (P := (· = slot)) (f := fun e => { e with lastGood := some s.now }) (fun _ => rfl) rfl s

theorem found_keepsPower (s : State) (l : Lane) (slot : Nat) : KeepsPower s (s.found l slot) :=
  KeepsPower.trans (t := markAssigned slot s) (modEntry_keepsPower ..)
    (modCensus_keepsPower l (fun c => { c with found := min 32 (c.found + 1) }) _)

theorem markAssigned_lane (slot : Nat) (s : State) (k : Lane) : (markAssigned slot s).lane k = s.lane k := by
  unfold markAssigned modEntry
  split
  · rw [setEntry_lane]
  · rfl

theorem found_lane (s : State) (l : Lane) (slot : Nat) : (s.found l slot).lane l = { s.lane l with
    census := { (s.lane l).census with found := min 32 ((s.lane l).census.found + 1) } } := by
  rw [State.found, countFound, modCensus_lane, markAssigned_lane]

theorem found_other {j : Nat} (hj : j ≠ slot) (s : State) (l : Lane) : (s.found l slot).entry j = s.entry j :=
  (modCensus_entry ..).trans ((markAssigned_keepsDevices slot s).others j hj)

/-! ## A resolution looks at names, map and range alone -/

theorem modelName_congr (hmap : t.nameMap = s.nameMap) (hheld : t.nameHeld = s.nameHeld) (xs : List (Nat × MapEntry)) : t.modelName xs = s.modelName xs := by
  have hfree (m : MapEntry) : t.freeInBlock m = s.freeInBlock m := by
    simp only [State.freeInBlock, State.exactBase, State.mapEntries, hmap, hheld]
  induction xs with
  | nil => rfl
  | cons x rest ih => simp only [State.modelName, ih, hfree]

theorem resolve_congr (hmap : t.nameMap = s.nameMap) (hrange : t.range = s.range) (hheld : t.nameHeld = s.nameHeld) (l : Lane) (f : Fingerprint) :
    t.resolve l f = s.resolve l f := by
  have hconsidered (k : MapMatch) : t.considered k l f = s.considered k l f := by simp only [State.considered, State.mapEntries, hmap]
  have hprovisional : t.provisionalName = s.provisionalName := by
    simp only [State.provisionalName, State.nameCovered, State.mapEntries, hmap, hrange, hheld]
  simp only [State.resolve, State.resolveUnpinned, hconsidered, hprovisional, modelName_congr hmap hheld, hrange, hheld]

theorem nameHeld_congr (hnames : ∀ j, (t.entry j).bind Entry.name = (s.entry j).bind Entry.name) (hcarried : ∀ k, t.carriedName k = s.carriedName k) :
    t.nameHeld = s.nameHeld := by
  have hiff (u : State) (n : Nat) : u.nameHeld n = true ↔
      (∃ j, (u.entry j).bind Entry.name = some n) ∨ u.carriedName .a = some n ∨ u.carriedName .b = some n := by
    simp only [nameHeld_eq_true, Option.bind_eq_some_iff]
  refine funext fun n => Bool.eq_iff_iff.mpr ?_
  rw [hiff, hiff]
  simp only [hnames, hcarried]

theorem modEntry_range (slot : Nat) (f : Entry → Entry) (s : State) : (modEntry slot f s).range = s.range := by
  unfold modEntry
  split
  · rfl
  · rfl

theorem found_range (s : State) (l : Lane) (slot : Nat) : (s.found l slot).range = s.range := by
  have hmarked : (markAssigned slot s).range = s.range := modEntry_range ..
  rw [State.found, countFound, ← hmarked]
  cases l <;> rfl

theorem found_resolve (s : State) (l : Lane) (slot : Nat) (k : Lane) (f : Fingerprint) : (s.found l slot).resolve k f = s.resolve k f := by
  refine resolve_congr (found_keepsPower ..).nameMap (found_range ..) (nameHeld_congr (fun j => ?_) fun k => ?_) k f
  · by_cases hj : j = slot
    · subst hj
      cases he : s.entry j with
      | some e => rw [found_entry he]; rfl
      | none =>
        have hkept : (s.found l j).entry j = s.entry j := by
          rw [State.found, countFound, modCensus_entry]
          simp only [markAssigned, modEntry, he]
        rw [hkept, he]
    · rw [found_other hj]
  · have hfind : ((s.found l slot).lane k).census.find = (s.lane k).census.find := by
      rw [State.found, countFound, modCensus_lane_eq, markAssigned_lane]
      split <;> rfl
    rw [State.carriedName, hfind, State.carriedName]

/-! ## Names given and states entered leave the range's cursor -/

theorem moveEntry_range (slot : Nat) (f : Entry → Entry) (d : DeviceDetail) (c : DeviceCause) (s : State) : (moveEntry slot f d c s).range = s.range := by
  unfold moveEntry
  split
  · rw [notify_frame]
    rfl
  · rfl

theorem enterProving_range (slot : Nat) (c : DeviceCause) (s : State) : (enterProving slot c s).range = s.range := by
  rw [enterProving, ← moveEntry_range slot (Entry.toProving c) .proving c s, proveOrEcho]
  split
  · split
    · exact moveEntry_range ..
    · rfl
  · rfl

theorem notifyNamed_range (slot : Nat) (c : Carried) (s : State) : (notifyNamed slot c s).range = s.range := by
  unfold notifyNamed
  split
  · rw [notify_frame]
  · rfl

theorem evalComplete_range (l : Lane) (s : State) : (evalComplete l s).range = s.range := by
  unfold evalComplete
  split
  · rfl
  · rw [notify_frame]
    cases l <;> rfl

theorem nameAndProve_range (slot : Nat) (l : Lane) (c : Carried) (cause : DeviceCause) (s : State) : (nameAndProve slot l c cause s).range = s.range := by
  rw [nameAndProve, evalComplete_range, notifyNamed_range, enterProving_range, giveName, modEntry_range]

/-- A resolution that names moves the range's cursor where it says (R129). -/
theorem resolveEntry_cursor (he : s.entry slot = some e) {n : Nat} {src : Provenance} {ref : Option Nat} {cursor : Nat}
    (hr : s.resolve e.lane e.fp = .named n src ref cursor) (cause : DeviceCause) : (resolveEntry slot cause s).range.cursor = cursor := by
  simp only [resolveEntry, he, hr, nameAndProve_range]

/-! ## The run goes on -/

theorem KeepsDevices.lane_running {P : Nat → Prop} (h : KeepsDevices P s t) (hrun : (s.lane l).census.run ≠ .idle) (hc : (s.lane l).complete = false) :
    t.lane l = s.lane l := by
  rw [h.lane l, h.off l hrun hc, ← hc]

theorem admitted_keepsDevices (l : Lane) (slot : Nat) (g : Find) (e : Entry) (s : State) : KeepsDevices (· = slot) s (admitted l slot g e s) := by
  unfold admitted rejoinOk assignOk
  split
  · split
    · exact resolveEntry_keepsDevices (P := (· = slot)) rfl ..
    · exact (enterProving_keepsDevices (P := (· = slot)) rfl ..).trans (evalComplete_keepsDevices ..)
  · split
    · exact nameAndProve_keepsDevices (P := (· = slot)) rfl ..
    · exact resolveEntry_keepsDevices (P := (· = slot)) rfl ..

/-- Once the outcome of an ASSIGN is applied, the find ends and the run goes on (R86, R90). -/
theorem findEnded_goesOn (h : KeepsDevices (· = slot) s w) (hrun : (s.lane l).census.run ≠ .idle) (hc : (s.lane l).complete = false) :
    let u := clearFind l w
    u.RunGoesOn l (continueRun l u) ∧ u.lane l = { s.lane l with census := { (s.lane l).census with find := none } } ∧
      u.roster.length = s.roster.length ∧ (∀ j, j ≠ slot → u.entry j = s.entry j) ∧ u.entry slot = w.entry slot := by
  have hlane : w.lane l = s.lane l := h.lane_running hrun hc
  have hcleared : (clearFind l w).lane l = { s.lane l with census := { (s.lane l).census with find := none } } := by
    rw [clearFind, modCensus_lane, hlane]
  refine ⟨continueRun_goesOn l _ (by rw [hcleared]; exact hc), hcleared, ?_, fun j hj => (clearFind_entry ..).trans (h.others j hj), clearFind_entry ..⟩
  rw [← h.size]
  cases l <;> rfl

/-! ## A failed rejoin and a failed new entry -/

/-- A failed rejoin leaves a known entry LOST, with no recall census while the run is going (R82, R92). -/
theorem rejoinFailed_of_known (hst : e.state = .proving ∨ e.state = .live ∨ e.state = .suspect) (hrun : (s.lane l).census.run ≠ .idle) (slot : Nat) :
    rejoinFailed l slot e s = evalComplete l (moveEntry slot (Entry.toLost s.now) .lost .rejoinFailed s) := by
  rw [← enterLost_running hrun]
  obtain hst | hst | hst := hst <;> simp only [rejoinFailed, hst]

theorem rejoinFailed_of_other (hst : e.state = .lost ∨ e.state = .held ∨ e.state = .assigning) (l : Lane) (slot : Nat) : rejoinFailed l slot e s = s := by
  obtain hst | hst | hst := hst <;> simp only [rejoinFailed, hst]

theorem rejoinFailed_keepsDevices (hrun : (s.lane l).census.run ≠ .idle) (slot : Nat) (e : Entry) :
    KeepsDevices (· = slot) s (rejoinFailed l slot e s) := by
  have hlost : KeepsDevices (· = slot) s (evalComplete l (moveEntry slot (Entry.toLost s.now) .lost .rejoinFailed s)) :=
    (moveEntry_keepsDevices (P := (· = slot)) (f := Entry.toLost s.now) (fun _ => rfl) rfl ..).trans (evalComplete_keepsDevices ..)
  rw [← enterLost_running hrun] at hlost
  unfold rejoinFailed
  split
  · exact hlost
  · exact hlost
  · exact hlost
  all_goals exact .refl s

/-- A notice that passes the masks is the newest of the queue (R188, R189). -/
theorem notify_newest {n : Notice} (h : s.notices.masks.passes n = true) : (notify n s).notices.queue.getLast?.map NoticeRecord.notice = some n := by
  rw [notify, if_pos h, pushNotice]
  split
  · simp
  · simp

/-- A new entry whose ASSIGN failed: gone, with its notice, and an UNADDRESS offered to its address (R87). -/
theorem assignFailed_spec (he : s.entry slot = some e) (hrun : (s.lane l).census.run ≠ .idle) (hc : (s.lane l).complete = false) (o : ExchangeOutcome) :
    let t := assignFailed l slot e o s
    t.lane l = { s.lane l with census := { (s.lane l).census with find := none, offer := some (.drop e.address) } } ∧ t.entry slot = none ∧
      (s.notices.masks.kinds.getLsbD 2 = true → t.notices.queue.getLast?.map NoticeRecord.notice = some (.assignFail l e.fp (o == .corrupt) e.address)) ∧
      ∀ j y, j ≠ slot → s.entry j = some y → y.state ≠ .held → t.entry j = some y := by
  have hcleared : (clearFind l s).lane l = { s.lane l with census := { (s.lane l).census with find := none } } := modCensus_lane ..
  have hnotices : (removeEntry slot .assignFailed (clearFind l s)).notices.masks = s.notices.masks := by
    rw [(removeEntry_naming slot .assignFailed (clearFind l s)).framed.masks.resolve_left id]
    cases l <;> rfl
  obtain ⟨hgone, hlane, -, hothers, -⟩ := removeEntry_spec ((clearFind_entry l s slot).trans he) .assignFailed
  have hkept : (removeEntry slot .assignFailed (clearFind l s)).lane l = (clearFind l s).lane l := by
    refine hlane l ?_ ?_
    · rw [hcleared]
      exact hrun
    · rw [hcleared]
      exact hc
  refine ⟨?_, ?_, fun hmask => ?_, fun j y hj hy hheld => ?_⟩
  · rw [assignFailed, setOffer, modCensus_lane, notify_lane, hkept, hcleared]
  · rw [assignFailed, setOffer, modCensus_entry, notify_entry, hgone]
  · have hoffered (f : CensusOffer) (v : State) : (setOffer l (some f) v).notices = v.notices := by cases l <;> rfl
    rw [assignFailed, hoffered, notify_newest]
    rw [hnotices]
    simpa [Masks.passes, Notice.kindBit, Notice.kindCode] using hmask
  · rw [assignFailed, setOffer, modCensus_entry, notify_entry, hothers j y hj ((clearFind_entry ..).trans hy) hheld]

end Sys2Proof.Machine
end

section
/-! PROOFS. The outcomes of census ASSIGNs and UNADDRESSes (O50). -/

namespace Sys2Proof.Machine

variable {s : State} {l : Lane} {x : Exchange} {e : Entry} {slot : Nat} {o : ExchangeOutcome} {c : Instr}

theorem KeepsPower.proved {t : State} (h : KeepsPower s t) (cause : DeviceCause) (y : Entry) : t.proved cause y = s.proved cause y := h.compared _

/-- The entry in a slot after an OK ASSIGN, once its outcome is applied (R82, R83, R86). -/
theorem admitted_entry (he : s.entry slot = some e) {g : Find} {y : Entry} :
    (∀ cr, g.kind ≠ .rejoin → g.carried = some cr → (admitted l slot g y s).entry slot = some (s.proved .moved (e.named cr))) ∧
    ((g.kind ≠ .rejoin ∧ g.carried = none) ∨ (g.kind = .rejoin ∧ y.state = .held) →
      ∃ cause, cause ≠ .recalled ∧ admitted l slot g y s = resolveEntry slot cause s) ∧
    (g.kind = .rejoin → y.state ≠ .held → (admitted l slot g y s).entry slot = some (s.proved .rejoined e)) := by
  refine ⟨fun cr hk hcr => ?_, fun h => ?_, fun hk hst => ?_⟩
  · rw [admitted, if_neg hk]
    simp only [assignOk, hcr]
    exact nameAndProve_entry he ..
  · obtain ⟨hk, hcr⟩ | ⟨hk, hst⟩ := h
    · refine ⟨if g.kind = .move then .moved else .new, by split <;> decide, ?_⟩
      rw [admitted, if_neg hk]
      simp only [assignOk, hcr]
    · exact ⟨.rejoined, by decide, by rw [admitted, if_pos hk, rejoinOk, if_pos hst]⟩
  · rw [admitted, if_pos hk, rejoinOk, if_neg hst, evalComplete_entry, enterProving_entry he]

theorem hungUp_resolve (s : State) (l : Lane) (o : ExchangeOutcome) (k : Lane) (f : Fingerprint) : (s.hungUp l o).resolve k f = s.resolve k f := by
  have hrange : (s.hungUp l o).range = s.range := by cases l <;> rfl
  refine resolve_congr (hungUp_keepsPower ..).nameMap hrange (nameHeld_congr (fun j => by rw [hungUp_entry]) fun k => ?_) k f
  rw [State.carriedName, hungUp_census, State.carriedName]

theorem found_size (s : State) (l : Lane) (slot : Nat) : (s.found l slot).roster.length = s.roster.length := by
  rw [← (markAssigned_keepsDevices slot s).size]
  cases l <;> rfl

/-- An OK ASSIGN is recorded with its entry, which is then admitted (R82, R83, R86). -/
theorem exec_assignOk (hreset : s.resetAsserted = false) (hx : (s.lane l).exch = some x) (hph : x.phase = .receive) (hk : x.kind = .assign)
    (hsource : x.source = .census) (href : x.ref = none) (hrun : (s.lane l).census.run ≠ .idle) {g : Find} (hg : (s.lane l).census.find = some g)
    (he : s.entry slot = some e) (hfp : e.fp = g.fp) (hone : ∀ j y, s.entry j = some y → y.fp = g.fp → j = slot) :
    ∃ v, exec (.replyFrameEnd l (.tail (stuffedContent (x.payload.getD 6 0 :: 0x91 :: x.payload.take 6)))) s =
        .next (continueRun l (clearFind l (admitted l slot g e v))) ∧
      KeepsPower s v ∧ v.entry slot = some { e with lastGood := some s.now } ∧ v.resolve l g.fp = s.resolve l g.fp ∧
      v.lane l = { (s.lane l).ended .ok with census := { (s.lane l).census with found := min 32 ((s.lane l).census.found + 1) } } ∧
      (∀ j, j ≠ slot → v.entry j = s.entry j) ∧ v.roster.length = s.roster.length := by
  have hexec := exec_assignAccepted hreset hx hph hk hsource href
  have hmine : (s.hungUp l .ok).entryWithFp g.fp = some (slot, e) := entryWithFp_eq ((hungUp_entry ..).trans he) hfp (by simpa using hone)
  rw [hk, censusOutcome_assign (by rwa [hungUp_census]) (by decide), assignOutcome_ok (by rwa [hungUp_census]) hmine] at hexec
  refine ⟨_, hexec, (hungUp_keepsPower l .ok s).trans (found_keepsPower ..), ?_, (found_resolve ..).trans (hungUp_resolve ..), ?_,
    fun j hj => (found_other hj ..).trans (hungUp_entry ..), ?_⟩
  · rw [found_entry ((hungUp_entry l .ok s slot).trans he) l, hungUp_now]
  · rw [found_lane, hungUp_lane]
    rfl
  · rw [found_size, hungUp_roster]

/-- A failure of the last attempt, as the obligation lists its ways. -/
theorem failsBy_of_assign (hk : x.kind = .assign) {corrupt : Bool}
    (h : (x.phase = .wait ∧ c = .replyTimeout l ∧ corrupt = false) ∨ (x.phase = .guard ∧ c = .guardLimitReached l ∧ corrupt = true) ∨
      (∃ how, x.phase = .receive ∧ c = .replyFrameEnd l how ∧ corrupt = true ∧ ∀ bits body, how = .tail bits →
        checkContent busMin busMax bits = .valid body → body ≠ x.payload.getD 6 0 :: 0x91 :: x.payload.take 6)) :
    FailsBy l x c (if corrupt then .corrupt else .noReply) := by
  obtain ⟨hph, hc, rfl⟩ | ⟨hph, hc, rfl⟩ | ⟨how, hph, hc, rfl, hbad⟩ := h
  · exact .inl ⟨hph, hc, rfl⟩
  · exact .inr (.inl ⟨hph, hc, rfl⟩)
  · refine .inr (.inr ⟨hph, ⟨how, hc, acceptReply_eq_none fun body hvalid hacc => ?_⟩, rfl⟩)
    obtain ⟨bits, hbits, hcheck⟩ := tail_of_valid hvalid
    obtain ⟨-, hbody⟩ | ⟨hecho, -⟩ | ⟨hdata, -⟩ := hacc
    · exact hbad bits body hbits hcheck hbody
    · rw [hk] at hecho
      cases hecho
    · rw [hk] at hdata
      cases hdata

/-- Settles O50: the outcome for the entry of the find, and how the run goes on. -/
theorem assignOutcomes : Obligations.AssignOutcomes := by
  intro s l x hreset hx hsource href hrun hcomplete hsize c n idle
  have hidle (o : ExchangeOutcome) : (s.hungUp l o).lane l = idle (n.counted o) c := hungUp_lane ..
  have hrunning (o : ExchangeOutcome) : ((s.hungUp l o).lane l).census.run ≠ .idle := by rwa [hungUp_census]
  have hoff (o : ExchangeOutcome) : ((s.hungUp l o).lane l).complete = false := by rw [hidle]; exact hcomplete
  have hresumed (o : ExchangeOutcome) : (s.hungUp l o).RunGoesOn l (continueRun l (s.hungUp l o)) := continueRun_goesOn l _ (hoff o)
  refine ⟨?_, fun hk hph => ⟨_, ?_, hresumed .ok⟩, fun hk hph => ?_⟩
  · intro g slot e hk hg he hfp hl hone proving
    have hmine (o : ExchangeOutcome) : (s.hungUp l o).entryWithFp g.fp = some (slot, e) :=
      entryWithFp_eq ((hungUp_entry ..).trans he) hfp (by simpa using hone)
    have hfind (o : ExchangeOutcome) : ((s.hungUp l o).lane l).census.find = some g := by rwa [hungUp_census]
    refine ⟨fun hph => ?_, ?_⟩
    · obtain ⟨v, hexec, hkeeps, hve, hresolve, hvlane, hothers, hvsize⟩ :=
        exec_assignOk hreset hx hph hk hsource href hrun hg he hfp hone
      rw [hsize] at hvsize
      have hproving (cause : DeviceCause) (hcause : cause ≠ .recalled) (y : Entry) (hy : y.lane = l) : v.proved cause y = proving y := by
        subst hy
        exact (hkeeps.proved cause y).trans (proved_eq hcause s y)
      obtain ⟨hgoes, hulane, husize, huothers, huentry⟩ :=
        findEnded_goesOn (admitted_keepsDevices l slot g e v) (l := l) (by rw [hvlane]; exact hrun) (by rw [hvlane]; exact hcomplete)
      obtain ⟨hmoved, hresolved, hrejoined⟩ := admitted_entry (l := l) (g := g) (y := e) hve
      have hdecided : ({ e with lastGood := some s.now } : Entry).lane = l ∧ ({ e with lastGood := some s.now } : Entry).fp = g.fp := ⟨hl, hfp⟩
      refine ⟨_, _, hexec, hgoes, ?_, husize.trans hvsize, fun j hj => (huothers j hj).trans (hothers j hj), fun cr hmove hcr => ?_,
        fun hres => ?_, fun hre hheld _ => ?_⟩
      · rw [hulane, hvlane]
        rfl
      · rw [huentry, hmoved cr (by rw [hmove]; decide) hcr]
        exact congrArg some (hproving .moved (by decide) _ hl)
      · obtain ⟨cause, hcause, hadmitted⟩ := hresolved (hres.imp (fun h => ⟨h.1, h.2.1⟩) fun h => ⟨h.1, h.2.2⟩)
        refine ⟨fun name src ref cursor hr => ?_, fun why hr => ?_⟩
        · have hnamed : v.resolve ({ e with lastGood := some s.now } : Entry).lane ({ e with lastGood := some s.now } : Entry).fp =
              .named name src ref cursor := by rw [hdecided.1, hdecided.2, hresolve, hr]
          refine ⟨?_, ?_⟩
          · rw [← resolveEntry_cursor hve hnamed cause, ← hadmitted]
            cases l <;> rfl
          · rw [huentry, hadmitted, resolveEntry_entry_named hve hnamed]
            exact congrArg some (hproving cause hcause _ hl)
        · have hheld : v.resolve ({ e with lastGood := some s.now } : Entry).lane ({ e with lastGood := some s.now } : Entry).fp = .held why := by
            rw [hdecided.1, hdecided.2, hresolve, hr]
          rw [huentry, hadmitted, resolveEntry_entry_held hve hheld]
      · rw [huentry, hrejoined hre hheld]
        exact congrArg some (hproving .rejoined (by decide) _ hl)
    · intro i corrupt hlast hhow failed
      obtain ⟨o, ho⟩ : ∃ o : ExchangeOutcome, o = if corrupt then .corrupt else .noReply := ⟨_, rfl⟩
      have hnot : o ≠ .abandoned ∧ o ≠ .ok := by
        rw [ho]
        cases corrupt <;> decide
      have hcount : n.counted o = failed := by
        rw [ho]
        cases corrupt <;> rfl
      have hexec := exec_censusFailure hreset hx hlast hsource href (ho ▸ failsBy_of_assign hk hhow)
      rw [hk, censusOutcome_assign (hrunning o) hnot.1, assignOutcome_failed (hfind o) (hmine o) hnot.2] at hexec
      refine ⟨fun hre => ?_, fun hre => ?_⟩
      · rw [if_pos hre] at hexec
        obtain ⟨hgoes, hulane, husize, huothers, huentry⟩ := findEnded_goesOn (rejoinFailed_keepsDevices (hrunning o) slot e) (hrunning o) (hoff o)
        refine ⟨_, _, hexec, hgoes, ?_, ?_, fun j hj => (huothers j hj).trans (hungUp_entry ..), fun hst => ?_, fun hst => ?_⟩
        · rw [hulane, hidle, hcount]
        · rw [husize, hungUp_roster, hsize]
        · rw [huentry, rejoinFailed_of_known hst (hrunning o), evalComplete_entry, moveEntry_entry ((hungUp_entry ..).trans he), hungUp_now]
          rfl
        · rw [huentry, rejoinFailed_of_other (hst.imp_right .inl), hungUp_entry, he]
      · rw [if_neg hre] at hexec
        obtain ⟨htlane, hgone, hnotice, hothers⟩ := assignFailed_spec ((hungUp_entry l o s slot).trans he) (hrunning o) (hoff o) o
        refine ⟨_, hexec, ?_, hgone, fun hmask => ?_, fun j y hj hy hheld => hothers j y hj ((hungUp_entry ..).trans hy) hheld⟩
        · rw [htlane, hidle, hcount]
        · rw [hnotice (by rwa [hungUp_notices]), ho]
          cases corrupt <;> rfl
  · refine congrArg Host.Outcome.next ((inPhase_eq hreset hx hph _).trans ?_)
    rw [afterTail, if_neg (by rw [hk]; decide), if_neg (by simp [Exchange.expectsReply, hk]), endExchange_of_census hsource href, hk,
      censusOutcome_unaddress (hrunning .ok)]
  · refine congrArg Host.Outcome.next ((inPhase_eq hreset hx hph _).trans ?_)
    have hsilent : x.expectsReply = false := by obtain hk | hk := hk <;> rw [Exchange.expectsReply, hk]
    have hkind : x.kind ≠ .assign := by obtain hk | hk := hk <;> rw [hk] <;> decide
    rw [failAttempt, if_neg (by simp [hsilent]), endExchange_of_census hsource href, censusOutcome_corrupt (hrunning .corrupt) hkind, guardFailed, endCensus_eq,
      hungUp_census]
    rfl

end Sys2Proof.Machine
end

section
/-! PROOFS. The walk of a lane's cursor, position by position, and the end of a cycle (the lemmas of O53). -/

namespace Sys2Proof.Machine

variable {s t u : State} {l : Lane} {r r' r₁ : CycleRun} {e : Entry} {i j k n : Nat} {fp : Fingerprint} {p : Position}

/-! ## The cycle list -/

theorem modCycleEntry_entry (i : Nat) (f : CycleEntry → CycleEntry) (s : State) (j : Nat) :
    (modCycleEntry i f s).seq.entry j = if j = i then (s.seq.entry i).map f else s.seq.entry j := by
  show (s.seq.list.set i ((s.seq.entry i).map f)).getD j none = _
  simp only [Sequencer.entry, List.getD, List.getElem?_set]
  by_cases hj : j = i
  · subst hj
    by_cases hlt : j < s.seq.list.length
    · simp [hlt]
    · simp [hlt]
  · simp [hj, Ne.symm hj]

theorem setCursor_positions (r : CycleRun) (l : Lane) (c : Cursor) : (r.setCursor l c).positions = r.positions := by cases l <;> rfl

theorem setCursor_cursor (r : CycleRun) (l : Lane) (c : Cursor) : (r.setCursor l c).cursor l = c := by cases l <;> rfl

theorem setCursor_cursor_other (r : CycleRun) (l : Lane) (c : Cursor) : (r.setCursor l c).cursor (otherLane l) = r.cursor (otherLane l) := by
  cases l <;> rfl

/-! ## Two states that ask the same devices -/

/-- Two states in which the same entries hold the same names, and a device can be asked in one as in the other. -/
structure AsksAlike (s t : State) : Prop where
  named : t.entryNamed = s.entryNamed
  ask : t.canAsk = s.canAsk

theorem AsksAlike.of_lanes (hroster : t.roster = s.roster) (hlive : t.laneLive = s.laneLive) (hrun : t.censusRunning = s.censusRunning) :
    AsksAlike s t := by
  refine ⟨funext fun n => ?_, funext fun l => funext fun e => ?_⟩
  · simp only [State.entryNamed, State.findEntry, hroster]
  · simp only [State.canAsk, hlive, hrun]

theorem OnlyCycleMoves.alike (h : OnlyCycleMoves s t) : AsksAlike s t := by
  obtain ⟨list, run, rfl⟩ := h
  refine .of_lanes rfl (funext fun l => ?_) (funext fun l => ?_)
  · cases l <;> rfl
  · cases l <;> rfl

/-! ## A position's turn -/

/-- What the store test gives (R156). -/
def State.storeOutcome (s : State) (j : Nat) (fp : Fingerprint) : Position :=
  match (s.seq.entry j).bind CycleEntry.store with
  | some st => if st.fp = fp then .done .stale st.data else .done .empty []
  | none => .done .empty []

/-- What a position's turn on a lane gives it; nothing where its device can be asked (R161). -/
def State.turnAt (s : State) (l : Lane) (j : Nat) : Option Position :=
  match s.seq.entry j with
  | none => some (.done .unused [])
  | some c =>
    match s.entryNamed c.name with
    | none => some (.done .unknown [])
    | some (_, e) => if s.canAsk l e then none else some (s.storeOutcome j e.fp)

theorem AsksAlike.turnAt (h : AsksAlike s t) (hentry : t.seq.entry j = s.seq.entry j) : t.turnAt l j = s.turnAt l j := by
  simp only [State.turnAt, State.storeOutcome, hentry, h.named, h.ask]

/-! ## Positions get their outcomes -/

/-- A cycle with an outcome for a position. -/
def CycleRun.settled (r : CycleRun) (j : Nat) (p : Position) : CycleRun := { r with positions := r.positions.set j p }

/-- A list entry without its store. -/
def CycleEntry.forgetful (c : CycleEntry) : CycleEntry := { c with store := none }

/-- Open positions of a cycle have got outcomes, or none has: an entry loses its store exactly where its open position became EMPTY (R156, R161). -/
structure Settles (s t : State) (r r' : CycleRun) : Prop where
  run : t.seq.run = some r'
  moves : OnlyCycleMoves s t
  kept : ∀ j : Nat, (∀ l : Lane, r.positions[j]? ≠ some (.pending l)) → r'.positions[j]? = r.positions[j]?
  emptied : ∀ (j : Nat) (l : Lane), r.positions[j]? = some (.pending l) → r'.positions[j]? = some (.done .empty []) →
    t.seq.entry j = (s.seq.entry j).map CycleEntry.forgetful
  stored : ∀ j : Nat, (∀ l : Lane, r.positions[j]? ≠ some (.pending l)) ∨ r'.positions[j]? ≠ some (.done .empty []) → t.seq.entry j = s.seq.entry j

theorem Settles.trans (h : Settles s t r r₁) (g : Settles t u r₁ r') : Settles s u r r' where
  run := g.run
  moves := h.moves.trans g.moves
  kept j hj := by
    have hj' := h.kept j hj
    exact (g.kept j fun l => hj' ▸ hj l).trans hj'
  emptied j l hp he := by
    by_cases hopen : ∃ l', r₁.positions[j]? = some (.pending l')
    · obtain ⟨l', hl'⟩ := hopen
      rw [g.emptied j l' hl' he, h.stored j (.inr (by simp [hl']))]
    · have hclosed (l' : Lane) : r₁.positions[j]? ≠ some (.pending l') := fun h' => hopen ⟨l', h'⟩
      rw [g.stored j (.inl hclosed), h.emptied j l hp ((g.kept j hclosed).symm.trans he)]
  stored j hj := by
    obtain hj | hj := hj
    · rw [g.stored j (.inl fun l => by rw [h.kept j hj]; exact hj l), h.stored j (.inl hj)]
    · have hmiddle : r₁.positions[j]? ≠ some (.done .empty []) := fun h' => hj ((g.kept j fun l => by simp [h']).trans h')
      rw [g.stored j (.inr hj), h.stored j (.inr hmiddle)]

theorem setCursor_settles (hr : s.seq.run = some r) (l : Lane) (c : Cursor) : Settles s (setCursor l c s) r (r.setCursor l c) where
  run := setCursor_run hr l c
  moves := setCursor_onlyCycleMoves ..
  kept j _ := by rw [setCursor_positions]
  emptied j k hp he := by
    rw [setCursor_positions, hp] at he
    cases he
  stored _ _ := rfl

/-- An open position gets its outcome. -/
theorem settles_of_outcome (hp : r.positions[j]? = some (.pending l)) {o : CycleOutcome} {data : List Octet}
    (hrun : t.seq.run = some (r.settled j (.done o data))) (hmoves : OnlyCycleMoves s t) (hothers : ∀ i, i ≠ j → t.seq.entry i = s.seq.entry i)
    (hself : t.seq.entry j = if o = .empty ∧ data = [] then (s.seq.entry j).map CycleEntry.forgetful else s.seq.entry j) :
    Settles s t r (r.settled j (.done o data)) := by
  have hat : (r.settled j (.done o data)).positions[j]? = some (.done o data) := by
    obtain ⟨hlt, -⟩ := List.getElem?_eq_some_iff.mp hp
    exact List.getElem?_set_self hlt
  have helse (i : Nat) (hi : i ≠ j) : (r.settled j (.done o data)).positions[i]? = r.positions[i]? := List.getElem?_set_ne hi.symm
  refine ⟨hrun, hmoves, fun i hi => helse i fun h => hi l (h ▸ hp), fun i k hi he => ?_, fun i hi => ?_⟩
  · by_cases hij : i = j
    · subst hij
      rw [hself, if_pos (by simpa [hat] using he)]
    · rw [helse i hij, hi] at he
      cases he
  · by_cases hij : i = j
    · subst hij
      have hne : ¬ (o = .empty ∧ data = []) := by simpa [hp, hat] using hi
      rw [hself, if_neg hne]
    · exact hothers i hij

theorem settle_run (hr : s.seq.run = some r) (j : Nat) (o : CycleOutcome) (data : List Octet) :
    (settle j o data s).seq.run = some (r.settled j (.done o data)) := by
  simp [settle, modRun, modSeq, hr, CycleRun.settled]

theorem settle_settles (hr : s.seq.run = some r) (hp : r.positions[j]? = some (.pending l)) {o : CycleOutcome} (ho : o ≠ .empty) (data : List Octet) :
    Settles s (settle j o data s) r (r.settled j (.done o data)) :=
  settles_of_outcome hp (settle_run hr ..) (settle_onlyCycleMoves ..) (fun _ _ => rfl) (if_neg fun h => ho h.1).symm

/-- The store test settles an open position with its outcome, and removes a store that is not the device's (R156). -/
theorem storeTest_settles (hr : s.seq.run = some r) (hp : r.positions[j]? = some (.pending l)) (fp : Fingerprint) :
    Settles s (storeTest j fp s) r (r.settled j (s.storeOutcome j fp)) := by
  have hmoves := storeTest_onlyCycleMoves j fp s
  unfold State.storeOutcome
  unfold storeTest at hmoves ⊢
  cases hst : (s.seq.entry j).bind CycleEntry.store with
  | none =>
    rw [hst] at hmoves
    refine settles_of_outcome hp (settle_run hr ..) hmoves (fun _ _ => rfl) ?_
    rw [if_pos ⟨rfl, rfl⟩]
    show s.seq.entry j = _
    cases hc : s.seq.entry j with
    | none => rfl
    | some c =>
      rw [hc] at hst
      exact congrArg some (by cases c; cases hst; rfl)
  | some st =>
    rw [hst] at hmoves
    dsimp only at hmoves ⊢
    split
    · exact settle_settles hr hp (by decide) st.data
    · next hfp =>
      rw [if_neg hfp] at hmoves
      refine settles_of_outcome hp (settle_run (r := r) hr ..) hmoves (fun i hi => (modCycleEntry_entry ..).trans (if_neg hi)) ?_
      rw [if_pos ⟨rfl, rfl⟩]
      exact (modCycleEntry_entry ..).trans (if_pos rfl)

/-! ## The walk of a cursor -/

/-- The first position given to the lane whose device can be asked (R161). -/
def CycleRun.stopAmong (r : CycleRun) (l : Lane) (turn : Nat → Option Position) (js : List Nat) : Option Nat :=
  js.find? fun j => r.positions[j]? == some (.pending l) && (turn j).isNone

/-- A lane's cursor has walked on from position `k`: each open position up to the one where it stopped has got what its turn gave, and the cursor stands
there with the due entry, or at the end (R161, R162). -/
structure State.Walked (s : State) (l : Lane) (k : Nat) (r r' : CycleRun) : Prop where
  positions : ∀ j : Nat, r'.positions[j]? = if k ≤ j ∧ j < (r.stopAmong l (s.turnAt l) (List.range' k (12 - k))).getD 12 ∧
    r.positions[j]? = some (.pending l) then s.turnAt l j else r.positions[j]?
  other : r'.cursor (otherLane l) = r.cursor (otherLane l)
  ended : r.stopAmong l (s.turnAt l) (List.range' k (12 - k)) = none → r'.cursor l = ⟨12, none⟩
  asked : ∀ i, r.stopAmong l (s.turnAt l) (List.range' k (12 - k)) = some i → ∃ c slot e, s.seq.entry i = some c ∧
    s.entryNamed c.name = some (slot, e) ∧ r'.cursor l = ⟨i, some ⟨i, ⟨l, slot, e.fp⟩, e.address, c.payload⟩⟩

theorem stopAmong_congr {turn turn' : Nat → Option Position} {js : List Nat} (hp : ∀ j ∈ js, r₁.positions[j]? = r.positions[j]?)
    (hturn : ∀ j ∈ js, r.positions[j]? = some (.pending l) → turn' j = turn j) : r₁.stopAmong l turn' js = r.stopAmong l turn js := by
  refine List.find?_congr fun j hj => ?_
  rw [hp j hj]
  by_cases h : r.positions[j]? = some (.pending l)
  · rw [hturn j hj h]
  · rw [beq_eq_false_iff_ne.mpr h, Bool.false_and, Bool.false_and]

theorem stopAmong_mem {turn : Nat → Option Position} {js : List Nat} (h : r.stopAmong l turn js = some i) :
    i ∈ js ∧ r.positions[i]? = some (.pending l) := by
  have hi := List.find?_some h
  simp only [Bool.and_eq_true, beq_iff_eq] at hi
  exact ⟨List.mem_of_find?_eq_some h, hi.1⟩

/-- The walk as seen from a state that asks alike and has the same list entries at the open positions. -/
theorem State.Walked.congr (h : t.Walked l k r r') (ha : AsksAlike s t) (hentry : ∀ j, r.positions[j]? = some (.pending l) → t.seq.entry j = s.seq.entry j) :
    s.Walked l k r r' := by
  have hturn (j : Nat) (hj : r.positions[j]? = some (.pending l)) : t.turnAt l j = s.turnAt l j := ha.turnAt (hentry j hj)
  have hstop : r.stopAmong l (t.turnAt l) (List.range' k (12 - k)) = r.stopAmong l (s.turnAt l) (List.range' k (12 - k)) :=
    stopAmong_congr (fun _ _ => rfl) fun j _ => hturn j
  refine ⟨fun j => ?_, h.other, fun hs => h.ended (hstop.trans hs), fun i hi => ?_⟩
  · rw [h.positions j, hstop]
    split
    · next hj => exact hturn j hj.2.2
    · rfl
  · obtain ⟨c, slot, e, hc, hnamed, hcursor⟩ := h.asked i (hstop.trans hi)
    exact ⟨c, slot, e, (hentry i (stopAmong_mem hi).2).symm.trans hc, (congrFun ha.named c.name).symm.trans hnamed, hcursor⟩

/-- A walk from the next position is a walk from this one, where this one is not open, or its turn has given it its outcome. -/
theorem State.Walked.before (h : t.Walked l (k + 1) r₁ r') (hk : k < 12) (ha : AsksAlike s t) (hentry : ∀ j, j ≠ k → t.seq.entry j = s.seq.entry j)
    (hcursor : ∀ m, r₁.cursor m = r.cursor m) (hothers : ∀ j, j ≠ k → r₁.positions[j]? = r.positions[j]?)
    (hturned : r.positions[k]? = some (.pending l) → s.turnAt l k ≠ none ∧ r₁.positions[k]? = s.turnAt l k)
    (hclosed : r.positions[k]? ≠ some (.pending l) → r₁.positions[k]? = r.positions[k]?) : s.Walked l k r r' := by
  have hrange : List.range' k (12 - k) = k :: List.range' (k + 1) (12 - (k + 1)) := by
    rw [show 12 - k = (12 - (k + 1)) + 1 by omega, List.range'_succ]
  have hturn (j : Nat) (hj : j ≠ k) : t.turnAt l j = s.turnAt l j := ha.turnAt (hentry j hj)
  have hmem (j : Nat) (hj : j ∈ List.range' (k + 1) (12 - (k + 1))) : j ≠ k ∧ k < j := by
    rw [List.mem_range'_1] at hj
    omega
  have hskip : (r.positions[k]? == some (.pending l) && (s.turnAt l k).isNone) = false := by
    by_cases hp : r.positions[k]? = some (.pending l)
    · simp [Option.isSome_iff_ne_none, (hturned hp).1]
    · simp [hp]
  have hstop : r₁.stopAmong l (t.turnAt l) (List.range' (k + 1) (12 - (k + 1))) = r.stopAmong l (s.turnAt l) (List.range' k (12 - k)) := by
    rw [hrange, stopAmong_congr (fun j hj => hothers j (hmem j hj).1) fun j hj _ => hturn j (hmem j hj).1, CycleRun.stopAmong, CycleRun.stopAmong,
      List.find?_cons, hskip]
  have hbound : k < (r.stopAmong l (s.turnAt l) (List.range' k (12 - k))).getD 12 := by
    rw [← hstop]
    cases hs : r₁.stopAmong l (t.turnAt l) (List.range' (k + 1) (12 - (k + 1))) with
    | none => exact hk
    | some i => exact (hmem i (stopAmong_mem hs).1).2
  refine ⟨fun j => ?_, h.other.trans (hcursor _), fun hs => h.ended (hstop.trans hs), fun i hi => ?_⟩
  · rw [h.positions j, hstop]
    by_cases hj : j = k
    · subst hj
      rw [if_neg (by omega)]
      by_cases hp : r.positions[j]? = some (.pending l)
      · rw [if_pos ⟨Nat.le_refl j, hbound, hp⟩, (hturned hp).2]
      · rw [if_neg fun h' => hp h'.2.2, hclosed hp]
    · rw [hothers j hj, hturn j hj]
      refine if_congr ?_ rfl rfl
      exact and_congr_left fun _ => by omega
  · have hne : i ≠ k := (hmem i (stopAmong_mem (hstop.trans hi)).1).1
    obtain ⟨c, slot, e, hc, hnamed, hdue⟩ := h.asked i (hstop.trans hi)
    exact ⟨c, slot, e, (hentry i hne).symm.trans hc, (congrFun ha.named c.name).symm.trans hnamed, hdue⟩

theorem openOn_iff (hr : s.seq.run = some r) : s.openOn l i = true ↔ r.positions[i]? = some (.pending l) := by
  simp [State.openOn, hr]

/-- At an open position whose device cannot be asked, the turn gives its outcome and the walk goes on (R161). -/
theorem walkFrom_of_turn (hr : s.seq.run = some r) (hp : r.positions[k]? = some (.pending l)) (hturn : s.turnAt l k = some p) (js : List Nat) :
    ∃ t, walkFrom l (k :: js) s = walkFrom l js t ∧ Settles s t r (r.settled k p) := by
  rw [walkFrom, if_pos ((openOn_iff hr).mpr hp)]
  cases hc : s.seq.entry k with
  | none =>
    obtain rfl : .done .unused [] = p := by simpa [State.turnAt, hc] using hturn
    exact ⟨_, rfl, settle_settles hr hp (by decide) []⟩
  | some c =>
    cases hn : s.entryNamed c.name with
    | none =>
      obtain rfl : .done .unknown [] = p := by simpa [State.turnAt, hc, hn] using hturn
      exact ⟨_, by simp only [hn], settle_settles hr hp (by decide) []⟩
    | some x =>
      obtain ⟨slot, e⟩ := x
      by_cases hask : s.canAsk l e = true
      · simp [State.turnAt, hc, hn, hask] at hturn
      · obtain rfl : s.storeOutcome k e.fp = p := by simpa [State.turnAt, hc, hn, hask] using hturn
        exact ⟨_, by simp only [hn]; exact if_neg hask, storeTest_settles hr hp e.fp⟩

/-- At an open position whose device can be asked the walk stops, with the due entry formed (R162). -/
theorem walkFrom_of_ask (hr : s.seq.run = some r) (hp : r.positions[k]? = some (.pending l)) (hturn : s.turnAt l k = none) (js : List Nat) :
    ∃ c slot e, s.seq.entry k = some c ∧ s.entryNamed c.name = some (slot, e) ∧
      walkFrom l (k :: js) s = setCursor l ⟨k, some ⟨k, ⟨l, slot, e.fp⟩, e.address, c.payload⟩⟩ s := by
  rw [walkFrom, if_pos ((openOn_iff hr).mpr hp)]
  cases hc : s.seq.entry k with
  | none => simp [State.turnAt, hc] at hturn
  | some c =>
    cases hn : s.entryNamed c.name with
    | none => simp [State.turnAt, hc, hn] at hturn
    | some x =>
      obtain ⟨slot, e⟩ := x
      have hask : s.canAsk l e = true := by simpa [State.turnAt, hc, hn] using hturn
      have hl : e.lane = l := by
        simp only [State.canAsk, Bool.and_eq_true, beq_iff_eq] at hask
        exact hask.1.1.1
      refine ⟨c, slot, e, rfl, hn, ?_⟩
      simp only [hn, if_pos hask, dueFor, hl]

/-- The walk of a cursor, position by position (R161, R162). -/
theorem walkFrom_walked (hr : s.seq.run = some r) (hk : k + n = 12) :
    ∃ r', Settles s (walkFrom l (List.range' k n) s) r r' ∧ s.Walked l k r r' := by
  induction n generalizing k s r with
  | zero =>
    have hnone : List.range' k (12 - k) = [] := by rw [show 12 - k = 0 by omega]; rfl
    refine ⟨_, setCursor_settles hr l ⟨cyclePositions, none⟩, fun j => ?_, setCursor_cursor_other .., fun _ => setCursor_cursor .., fun i hi => ?_⟩
    · rw [setCursor_positions, hnone, if_neg]
      simp only [CycleRun.stopAmong, List.find?_nil, Option.getD_none]
      omega
    · rw [hnone] at hi
      cases hi
  | succ n ih =>
    rw [List.range'_succ]
    by_cases hp : r.positions[k]? = some (.pending l)
    · cases hturn : s.turnAt l k with
      | some p =>
        obtain ⟨t, hwalk, hsettles⟩ := walkFrom_of_turn hr hp hturn (List.range' (k + 1) n)
        obtain ⟨r', hrest, hwalked⟩ := ih (k := k + 1) hsettles.run (by omega)
        have hat : (r.settled k p).positions[k]? = some p := by
          obtain ⟨hlt, -⟩ := List.getElem?_eq_some_iff.mp hp
          exact List.getElem?_set_self hlt
        have helse (j : Nat) (hj : j ≠ k) : (r.settled k p).positions[j]? = r.positions[j]? := List.getElem?_set_ne hj.symm
        refine ⟨r', hwalk ▸ hsettles.trans hrest, hwalked.before (by omega) hsettles.moves.alike (fun j hj => ?_) (fun m => by cases m <;> rfl)
          helse (fun _ => ⟨by simp [hturn], by rw [hat, hturn]⟩) fun hne => absurd hp hne⟩
        refine hsettles.stored j ?_
        by_cases hopen : ∃ m, r.positions[j]? = some (.pending m)
        · obtain ⟨m, hm⟩ := hopen
          exact .inr (by rw [helse j hj, hm]; simp)
        · exact .inl fun m hm => hopen ⟨m, hm⟩
      | none =>
        obtain ⟨c, slot, e, hc, hn, hwalk⟩ := walkFrom_of_ask hr hp hturn (List.range' (k + 1) n)
        have hstop : r.stopAmong l (s.turnAt l) (List.range' k (12 - k)) = some k := by
          rw [show 12 - k = n + 1 by omega, List.range'_succ, CycleRun.stopAmong, List.find?_cons, hp, hturn]
          simp
        refine ⟨_, hwalk ▸ setCursor_settles hr l _, fun j => ?_, setCursor_cursor_other .., fun hs => ?_, fun i hi => ?_⟩
        · rw [setCursor_positions, hstop, if_neg]
          simp only [Option.getD_some]
          omega
        · rw [hstop] at hs
          cases hs
        · obtain rfl : k = i := Option.some.inj (hstop.symm.trans hi)
          exact ⟨c, slot, e, hc, hn, setCursor_cursor ..⟩
    · obtain ⟨r', hrest, hwalked⟩ := ih hr (k := k + 1) (by omega)
      have hskip : walkFrom l (k :: List.range' (k + 1) n) s = walkFrom l (List.range' (k + 1) n) s := by
        rw [walkFrom, if_neg (mt (openOn_iff hr).mp hp)]
      exact ⟨r', hskip ▸ hrest, hwalked.before (by omega) ⟨rfl, rfl⟩ (fun _ _ => rfl) (fun _ => rfl) (fun _ _ => rfl) (fun h => absurd h hp) fun _ => rfl⟩

/-- With no position of the lane open before it, the cursor walks to its end (R161). -/
theorem walkFrom_of_closed (hr : s.seq.run = some r) {js : List Nat} (h : ∀ j ∈ js, r.positions[j]? ≠ some (.pending l)) :
    walkFrom l js s = setCursor l ⟨cyclePositions, none⟩ s := by
  induction js with
  | nil => rfl
  | cons j js ih =>
    rw [walkFrom, if_neg (mt (openOn_iff hr).mp (h j List.mem_cons_self)), ih fun i hi => h i (List.mem_cons_of_mem _ hi)]

/-! ## The end of a cycle -/

/-- The end test of a cycle in which every position has its outcome (R165). -/
theorem finishCycle_of_finished (hr : s.seq.run = some r) (hup : s.arm.linkUp = true) (hroom : s.arm.outbound.length < 24)
    (hdone : ∀ p ∈ r.positions, p.isDone = true) :
    finishCycle s = State.placing { s with seq := s.seq.ended } (reportOf s.seq r) := by
  rw [finishCycle_of_done hr hdone]
  exact offer_placing (s := { s with seq := s.seq.ended }) hup hroom

theorem finishCycle_of_unfinished (hr : s.seq.run = some r) (hopen : ¬ ∀ p ∈ r.positions, p.isDone = true) : finishCycle s = s := by
  simp only [finishCycle, hr]
  exact if_neg fun h => hopen (List.all_eq_true.mp h)

theorem finishCycle_entry (s : State) (j : Nat) : (finishCycle s).seq.entry j = s.seq.entry j := by
  obtain h | ⟨r, -, h⟩ := finishCycle_cases s
  · rw [h]
  · rw [h, offer_frame]
    rfl

end Sys2Proof.Machine
end

section
/-! PROOFS. The course of a cycle (O53). -/

namespace Sys2Proof.Machine

variable {s t u v w : State} {l : Lane} {r r' : CycleRun} {e : Entry} {d : Due} {x : Exchange} {i j : Nat} {o : ExchangeOutcome}

/-! ## How a cycle stands once its end is tested -/

/-- How a cycle stands after its end test (R165), as seen from the state before the command: ended with its REPORT, or in progress. -/
structure State.CycleStands (s : State) (st : SeqState) (r : CycleRun) (t : State) : Prop where
  ended : (∀ p ∈ r.positions, p.isDone = true) → t.seq.run = none ∧ t.seq.missed = 0 ∧ t.seq.stopPending = false ∧
    t.seq.state = (if s.seq.stopPending then .stopped else .armed) ∧
    t.arm.outbound = s.arm.outbound ++ [⟨0, .report, 0, octet (t.seq.cycleNumber.toNat / 256) :: octet t.seq.cycleNumber.toNat ::
      octet s.seq.missed :: r.positions.flatMap Position.octets⟩]
  running : (¬ ∀ p ∈ r.positions, p.isDone = true) → t.seq.run = some r ∧ t.seq.missed = s.seq.missed ∧ t.seq.stopPending = s.seq.stopPending ∧
    t.seq.state = st ∧ t.arm.outbound = s.arm.outbound

theorem State.CycleStands.congr {st : SeqState} (h : s.CycleStands st r u) (hseq : t.seq = u.seq) (harm : t.arm = u.arm) : s.CycleStands st r t := by
  refine ⟨fun hdone => ?_, fun hopen => ?_⟩
  · rw [hseq, harm]
    exact h.ended hdone
  · rw [hseq, harm]
    exact h.running hopen

/-- What the end test looks at besides the positions. -/
structure SameCycle (s t : State) : Prop where
  outbound : t.arm.outbound = s.arm.outbound
  missed : t.seq.missed = s.seq.missed
  stopPending : t.seq.stopPending = s.seq.stopPending

theorem SameCycle.trans (h : SameCycle s t) (g : SameCycle t u) : SameCycle s u :=
  ⟨g.outbound.trans h.outbound, g.missed.trans h.missed, g.stopPending.trans h.stopPending⟩

theorem finishCycle_stands (hr : u.seq.run = some r) (hup : u.arm.linkUp = true) (hroom : s.arm.outbound.length < 24) (hsame : SameCycle s u) :
    s.CycleStands u.seq.state r (finishCycle u) := by
  refine ⟨fun hdone => ?_, fun hopen => ?_⟩
  · rw [finishCycle_of_finished hr hup (hsame.outbound ▸ hroom) hdone]
    refine ⟨rfl, rfl, rfl, ?_, ?_⟩
    · rw [← hsame.stopPending]
      rfl
    · rw [← hsame.outbound, ← hsame.missed]
      rfl
  · rw [finishCycle_of_unfinished hr hopen]
    exact ⟨hr, hsame.missed, hsame.stopPending, rfl, hsame.outbound⟩

/-! ## A cycle's start -/

/-- A cycle at its start (R160). -/
def State.firstRun (s : State) : CycleRun := ⟨(List.range 12).map s.startPosition, ⟨0, none⟩, ⟨0, none⟩⟩

/-- A sequencer that has started a cycle (R160). -/
def State.cycling (s : State) : State :=
  { s with seq := { s.seq with state := .running, cycleNumber := s.seq.cycleNumber + 1, run := some s.firstRun } }

theorem AsksAlike.firstRun (h : AsksAlike s t) (hentry : ∀ j, t.seq.entry j = s.seq.entry j) : t.firstRun = s.firstRun := by
  have hstart : t.startPosition = s.startPosition := funext fun j => by simp only [State.startPosition, hentry, h.named]
  rw [State.firstRun, hstart, State.firstRun]

theorem AsksAlike.trans (h : AsksAlike s t) (g : AsksAlike t u) : AsksAlike s u := ⟨g.named.trans h.named, g.ask.trans h.ask⟩

theorem cycling_alike (s : State) : AsksAlike s s.cycling := by
  refine .of_lanes rfl (funext fun l => ?_) (funext fun l => ?_)
  · cases l <;> rfl
  · cases l <;> rfl

/-- At the start the cursors of both lanes walk, lane A's first (R160, R161). -/
theorem startCycle_walked (s : State) : ∃ r r' u, startCycle s = finishCycle u ∧ Settles s.cycling u s.firstRun r' ∧
    s.Walked .a 0 s.firstRun r ∧ s.Walked .b 0 r r' := by
  obtain ⟨r, hfirst, hwalkedA⟩ := walkFrom_walked (s := s.cycling) (l := .a) (k := 0) (n := 12) rfl rfl
  obtain ⟨r', hsecond, hwalkedB⟩ := walkFrom_walked (l := .b) (k := 0) (n := 12) hfirst.run rfl
  refine ⟨r, r', _, ?_, hfirst.trans hsecond, hwalkedA.congr (cycling_alike s) fun _ _ => rfl,
    hwalkedB.congr ((cycling_alike s).trans hfirst.moves.alike) fun j hj => ?_⟩
  · rw [startCycle, cyclePositions, List.range_eq_range']
    rfl
  · exact hfirst.stored j (.inr (by simp [hj]))

/-! ## A grant given back -/

theorem ready_eq_none {ref : EntryRef} (h : ∀ e, s.entry ref.slot = some e → e.fp = ref.fp → e.lane = ref.lane → e.state ≠ .live ∧ e.state ≠ .suspect) :
    s.ready ref = none := by
  unfold State.ready
  split
  · next e he =>
    obtain ⟨hslot, hfp, hl⟩ := referenced_eq_some he
    obtain ⟨hlive, hsuspect⟩ := h e hslot hfp hl
    exact if_neg fun hc => (carriesData_eq_true.mp hc).elim hlive hsuspect
  · rfl

theorem giveBackDue_lane (l : Lane) (d : Due) (s : State) (k : Lane) : (giveBackDue l d s).lane k = s.lane k :=
  (giveBackDue_moves cycling_cycles l d s).lane_of_cycling k

theorem giveBackDue_roster (l : Lane) (d : Due) (s : State) : (giveBackDue l d s).roster = s.roster := by
  have hf := Moves.framed (giveBackDue_moves cycling_cycles l d s)
  exact roster_ext hf.rosterSize fun j => (hf.slot j).resolve_left id

/-- A due entry given back at its grant: the store test of its reference, and the cursor walks on, here to its end (R162). -/
theorem giveBackDue_closed (hr : s.seq.run = some r) (hp : r.positions[d.position]? = some (.pending l))
    (hlast : ∀ j, d.position < j → r.positions[j]? ≠ some (.pending l)) : ∃ u, giveBackDue l d s = finishCycle u ∧
      Settles s u r ((r.settled d.position (s.storeOutcome d.position d.ref.fp)).setCursor l ⟨12, none⟩) := by
  have htested := storeTest_settles hr hp d.ref.fp
  have hclosed : ∀ j ∈ List.range' (d.position + 1) (cyclePositions - (d.position + 1)),
      (r.settled d.position (s.storeOutcome d.position d.ref.fp)).positions[j]? ≠ some (.pending l) := by
    intro j hj
    rw [List.mem_range'_1] at hj
    rw [show (r.settled d.position (s.storeOutcome d.position d.ref.fp)).positions[j]? = r.positions[j]? from List.getElem?_set_ne (by omega)]
    exact hlast j (by omega)
  refine ⟨_, ?_, htested.trans (setCursor_settles htested.run l ⟨12, none⟩)⟩
  rw [giveBackDue, walkOn, walkFrom_of_closed htested.run hclosed]
  rfl

/-! ## Outcomes of cycle exchanges -/

theorem hungUp_alike (s : State) (l : Lane) (o : ExchangeOutcome) : AsksAlike s (s.hungUp l o) :=
  .of_lanes (hungUp_roster ..) (funext fun k => (hungUp_keepsPower l o s).laneLive k)
    (funext fun k => by rw [State.censusRunning, hungUp_census, State.censusRunning])

/-- A FRESH outcome settles its position and keeps the reply's data as the store (R163). -/
theorem settleFresh_spec (hr : s.seq.run = some r) (i : Nat) (data : List Octet) (fp : Fingerprint) :
    (settleFresh i data fp s).seq.run = some (r.settled i (.done .fresh (data.take 4))) ∧ OnlyCycleMoves s (settleFresh i data fp s) ∧
      (settleFresh i data fp s).seq.entry i = (s.seq.entry i).map (fun c => { c with store := some ⟨data.take 4, fp⟩ }) ∧
      ∀ j, j ≠ i → (settleFresh i data fp s).seq.entry j = s.seq.entry j :=
  ⟨settle_run (r := r) hr .., ⟨_, _, rfl⟩, (modCycleEntry_entry ..).trans (if_pos rfl), fun _ hj => (modCycleEntry_entry ..).trans (if_neg hj)⟩

/-- The walk after a position's outcome (R161, R163). -/
theorem walkOn_walked (hr : s.seq.run = some r) (hi : i < 12) (l : Lane) : ∃ r' u, walkOn l (i + 1) s = finishCycle u ∧ Settles s u r r' ∧
    s.Walked l (i + 1) r r' := by
  obtain ⟨r', hsettles, hwalked⟩ := walkFrom_walked (l := l) (k := i + 1) (n := cyclePositions - (i + 1)) hr (by rw [cyclePositions]; omega)
  exact ⟨r', _, rfl, hsettles, hwalked⟩

/-- A failed outcome for a reference on a lane without recall census changes entries, notices and completeness alone. -/
theorem applyOutcome_failure_naming {ref : EntryRef} (hoff : (s.lane ref.lane).options.recallCensus = false) (ho : o = .noReply ∨ o = .corrupt)
    (st : Option Octet) : Moves Scope.naming s (applyOutcome ref o st s) := by
  cases he : s.referenced ref with
  | none => rw [applyOutcome_of_gone he]
  | some e =>
    obtain ⟨hslot, -, hl⟩ := referenced_eq_some he
    rw [applyOutcome_of_failure he ho]
    exact applyFailure_naming (by rwa [hl]) hslot o

theorem naming_seq (h : Moves Scope.naming s t) : t.seq = s.seq := h.framed.cycle.resolve_left id

theorem toSource_cycle {ref : EntryRef} (hsource : x.source = .cycle i) (href : x.ref = some ref) (o : ExchangeOutcome) (payload : List Octet) (s : State) :
    toSupervision x o payload (toSource l x o payload [] s) = applyOutcome ref o (statusOctet x payload) (cycleOutcome l i ref.fp o payload s) := by
  simp only [toSource, hsource, href, toSupervision]

end Sys2Proof.Machine
end

section
/-! PROOFS. The course of a cycle: its triggers, a grant given back, and the outcomes of its exchanges (O53). -/

namespace Sys2Proof.Machine

variable {s t u v : State} {l : Lane} {r r' : CycleRun} {e : Entry} {d : Due} {x : Exchange} {i j : Nat} {c : Instr}

/-- What the positions that got their outcomes make of a list entry's store (R156, R161). -/
def State.Stored (s : State) (r r' : CycleRun) (t : State) (j : Nat) : Prop :=
  (∀ l : Lane, r.positions[j]? = some (.pending l) → r'.positions[j]? = some (.done .empty []) →
    t.seq.entry j = (s.seq.entry j).map CycleEntry.forgetful) ∧
  ((∀ l : Lane, r.positions[j]? ≠ some (.pending l)) ∨ r'.positions[j]? ≠ some (.done .empty []) → t.seq.entry j = s.seq.entry j)

theorem Settles.storedAt (h : Settles v u r r') (hv : v.seq.entry j = s.seq.entry j) (ht : t.seq.entry j = u.seq.entry j) : s.Stored r r' t j :=
  ⟨fun l hp he => by rw [ht, h.emptied j l hp he, hv], fun hj => by rw [ht, h.stored j hj, hv]⟩

theorem OnlyCycleMoves.sameCycle (h : OnlyCycleMoves s t) : SameCycle s t ∧ t.arm.linkUp = s.arm.linkUp ∧ t.seq.state = s.seq.state := by
  obtain ⟨list, run, rfl⟩ := h
  exact ⟨⟨rfl, rfl, rfl⟩, rfl, rfl⟩

theorem Settles.stands {st : SeqState} (h : Settles v u r r') (hsame : SameCycle s v) (hup : v.arm.linkUp = true) (hroom : s.arm.outbound.length < 24)
    (hst : v.seq.state = st) : s.CycleStands st r' (finishCycle u) := by
  obtain ⟨hcycle, hlink, hstate⟩ := h.moves.sameCycle
  rw [← hst, ← hstate]
  exact finishCycle_stands h.run (hlink.trans hup) hroom (hsame.trans hcycle)

/-! ## Triggers -/

/-- The state from which a trigger in ARMED starts its cycle: the period timer's, or that of a CYCLE frame heard (R11, R158, R160). -/
theorem exec_cycleTrigger {m : Nat} {src tag : Octet} {payload : List Octet} (hrun : s.resetAsserted = false) (harmed : s.seq.state = .armed)
    (h : (c = .periodTimerExpiry ∧ s.seq.timer = some m ∧ m ≤ s.now ∧ s.arm.linkUp = true) ∨
      (c = .armFrameReceived (stuffedContent (0 :: src :: 0x03 :: tag :: payload)) ∧ payload.length ≤ 64 ∧ s.arm.rx = .frame ∧
        s.seq.source = .frame)) :
    ∃ v, exec c s = .next (startCycle v) ∧ AsksAlike s v ∧ (∀ j, v.seq.entry j = s.seq.entry j) ∧ SameCycle s v ∧ v.arm.linkUp = true ∧
      v.seq.cycleNumber = s.seq.cycleNumber := by
  have halike (a : ArmLink) (q : Sequencer) : AsksAlike s { s with arm := a, seq := q } := by
    refine .of_lanes rfl (funext fun l => ?_) (funext fun l => ?_)
    · cases l <;> rfl
    · cases l <;> rfl
  obtain ⟨rfl, htimer, hm, hup⟩ | ⟨rfl, hlen, hrx, hsource⟩ := h
  · refine ⟨{ s with seq := { s.seq with timer := some (s.now + s.seq.period) } }, ?_, halike s.arm _, fun _ => rfl, ⟨rfl, rfl, rfl⟩, hup, rfl⟩
    refine congrArg Host.Outcome.next ((whenRunning_of_running hrun).trans ((periodElapsed_of_ranOut htimer hm).trans ?_))
    simp only [trigger, harmed]
  · refine ⟨s.heard, ?_, halike _ s.seq, fun _ => rfl, ⟨rfl, rfl, rfl⟩, rfl, rfl⟩
    rw [exec_armFrameReceived_valid hrun hrx hlen, dispatchFrame_cycle_zero, cycleFrame_armed (s := s.heard) hsource harmed]

theorem cycleStarted (ha : AsksAlike s v) (hentry : ∀ j, v.seq.entry j = s.seq.entry j) (hsame : SameCycle s v) (hup : v.arm.linkUp = true)
    (hroom : s.arm.outbound.length < 24) : ∃ r r', s.Walked .a 0 s.firstRun r ∧ s.Walked .b 0 r r' ∧
      s.CycleStands .running r' (startCycle v) ∧ ∀ j, s.Stored s.firstRun r' (startCycle v) j := by
  obtain ⟨r, r', u, hstart, hsettles, hwalkedA, hwalkedB⟩ := startCycle_walked v
  rw [ha.firstRun hentry] at hsettles hwalkedA
  refine ⟨r, r', hwalkedA.congr ha fun j _ => hentry j, hwalkedB.congr ha fun j _ => hentry j, ?_, fun j => ?_⟩
  · rw [hstart]
    exact hsettles.stands (v := v.cycling) ⟨hsame.outbound, hsame.missed, hsame.stopPending⟩ hup hroom rfl
  · rw [hstart]
    exact hsettles.storedAt (hentry j) (finishCycle_entry u j)

/-! ## A grant given back -/

theorem cycleGivenBack (hreset : s.resetAsserted = false) (hup : s.arm.linkUp = true) (hroom : s.arm.outbound.length < 24) (hr : s.seq.run = some r)
    (hd : (r.cursor l).due = some d) (hp : r.positions[d.position]? = some (.pending l))
    (hlast : ∀ j, d.position < j → r.positions[j]? ≠ some (.pending l)) (hlive : (s.lane l).power.state = .live) (hx : (s.lane l).exch = none)
    (hidle : (s.lane l).census.run = .idle) (hforward : (s.lane l).forward = []) (hunaddress : (s.lane l).unaddress = [])
    (hecho : ∀ slot e, s.entry slot = some e → e.lane = l → e.echo = false)
    (hgone : ∀ e, s.entry d.ref.slot = some e → e.fp = d.ref.fp → e.lane = d.ref.lane → e.state ≠ .live ∧ e.state ≠ .suspect) :
    let r' := (r.settled d.position (s.storeOutcome d.position d.ref.fp)).setCursor l ⟨12, none⟩
    ∃ t, exec (.exchangeGrant l) s = .next t ∧ s.CycleStands s.seq.state r' t ∧ (∀ j, s.Stored r r' t j) ∧ t.lane l = s.lane l ∧ t.roster = s.roster := by
  intro r'
  have hdue : s.due l = some d := by rw [State.due, hr]; exact hd
  have honce : grantOnce l s = giveBackDue l d s := by
    rw [grantOnce_of_due hidle hdue]
    simp only [grantCycle, ready_eq_none hgone]
  obtain ⟨u, hback, hsettles⟩ := giveBackDue_closed hr hp hlast
  have hlane := giveBackDue_lane l d s l
  have hroster := giveBackDue_roster l d s
  have hnodue : (giveBackDue l d s).due l = none := by
    rw [hback]
    refine finishCycle_due ?_
    rw [State.due, hsettles.run, Option.bind_some, setCursor_cursor]
  refine ⟨giveBackDue l d s, exec_grant_still hreset hlive hx honce (grant_of_nothing ?_ hnodue ?_ ?_ fun slot e he => hecho slot e ?_), ?_, fun j => ?_,
    hlane, hroster⟩
  · rw [hlane, hidle]
  · rw [hlane, hforward]
  · rw [hlane, hunaddress]
  · rwa [State.entry, hroster] at he
  · rw [hback]
    exact hsettles.stands ⟨rfl, rfl, rfl⟩ hup hroom rfl
  · rw [hback]
    exact hsettles.storedAt rfl (finishCycle_entry u j)

/-! ## Outcomes -/

theorem hungUp_sameCycle (s : State) (l : Lane) (o : ExchangeOutcome) : SameCycle s (s.hungUp l o) :=
  ⟨by rw [hungUp_arm], by rw [hungUp_seq], by rw [hungUp_seq]⟩

/-- A DATA REPLY to a cycle's exchange gives FRESH, keeps its data as the store, and the cursor walks on (R163). -/
theorem cycleAnswered {ref : EntryRef} (hreset : s.resetAsserted = false) (hroom : s.arm.outbound.length < 24) (hup : s.arm.linkUp = true)
    (hx : (s.lane l).exch = some x) (hsource : x.source = .cycle i) (href : x.ref = some ref) (hk : x.kind = .data) (hr : s.seq.run = some r)
    (hi : i < 12) (hp : r.positions[i]? = some (.pending l)) {data : List Octet} (hph : x.phase = .receive) (hlen : data.length ≤ 64) :
    ∃ t r', exec (.replyFrameEnd l (.tail (stuffedContent (octet x.target :: 0x93 :: data)))) s = .next t ∧
      s.Walked l (i + 1) (r.settled i (.done .fresh (data.take 4))) r' ∧ s.CycleStands s.seq.state r' t ∧
      t.seq.entry i = (s.seq.entry i).map (fun c => { c with store := some ⟨data.take 4, ref.fp⟩ }) ∧ ∀ j, j ≠ i → s.Stored r r' t j := by
  have hexec := exec_replyAccepted hreset hx hph (acceptReply_data hk hlen)
  rw [toSource_cycle hsource href] at hexec
  obtain ⟨hrun, hmoves, hself, hothers⟩ := settleFresh_spec (s := s.hungUp l .ok) (by rwa [hungUp_seq]) i data ref.fp
  rw [hungUp_seq] at hself hothers
  obtain ⟨r', u, hwalk, hsettles, hwalked⟩ := walkOn_walked hrun hi l
  obtain ⟨hsame, hlink, hstate⟩ := hmoves.sameCycle
  have hfresh : cycleOutcome l i ref.fp .ok data (s.hungUp l .ok) = finishCycle u := hwalk
  rw [hfresh] at hexec
  have happlied := applyOutcome_ok_naming ref (statusOctet x data) (finishCycle u)
  have hat : (r.settled i (.done .fresh (data.take 4))).positions[i]? = some (.done .fresh (data.take 4)) := by
    obtain ⟨hlt, -⟩ := List.getElem?_eq_some_iff.mp hp
    exact List.getElem?_set_self hlt
  have hentry (j : Nat) : (applyOutcome ref .ok (statusOctet x data) (finishCycle u)).seq.entry j = u.seq.entry j := by
    rw [naming_seq happlied, finishCycle_entry]
  refine ⟨_, r', hexec, hwalked.congr ((hungUp_alike s l .ok).trans hmoves.alike) fun j hj => hothers j ?_, ?_, ?_, fun j hj => ?_⟩
  · rintro rfl
    rw [hat] at hj
    cases hj
  · refine State.CycleStands.congr (hsettles.stands ((hungUp_sameCycle s l .ok).trans hsame) ?_ hroom ?_) (naming_seq happlied) (naming_arm happlied)
    · rw [hlink, hungUp_arm, hup]
    · rw [hstate, hungUp_seq]
  · rw [hentry, hsettles.stored i (.inl fun m => by simp [hat]), hself]
  · have helse : (r.settled i (.done .fresh (data.take 4))).positions[j]? = r.positions[j]? := List.getElem?_set_ne hj.symm
    have hstored := hsettles.storedAt (s := s) (hothers j hj) (hentry j)
    rwa [State.Stored, helse] at hstored

/-- Silence at the last attempt gives the store test, and the cursor walks on (R163). -/
theorem cycleUnanswered {ref : EntryRef} (hreset : s.resetAsserted = false) (hroom : s.arm.outbound.length < 24) (hup : s.arm.linkUp = true)
    (hx : (s.lane l).exch = some x) (hsource : x.source = .cycle i) (href : x.ref = some ref) (hr : s.seq.run = some r)
    (hi : i < 12) (hp : r.positions[i]? = some (.pending l)) (hph : x.phase = .wait) (hlast : x.profile.retries < x.attempt)
    (hoff : (s.lane ref.lane).options.recallCensus = false) :
    ∃ t r', exec (.replyTimeout l) s = .next t ∧ s.Walked l (i + 1) (r.settled i (s.storeOutcome i ref.fp)) r' ∧
      s.CycleStands s.seq.state r' t ∧ ∀ j, s.Stored r r' t j := by
  have hexec := exec_lastFailure hreset hx hlast (.inl ⟨hph, rfl, rfl⟩)
  rw [toSource_cycle hsource href] at hexec
  have htested := storeTest_settles (s := s.hungUp l .noReply) (by rwa [hungUp_seq]) hp ref.fp
  have houtcome : (s.hungUp l .noReply).storeOutcome i ref.fp = s.storeOutcome i ref.fp := by
    simp only [State.storeOutcome, hungUp_seq]
  rw [houtcome] at htested
  obtain ⟨r', u, hwalk, hsettles, hwalked⟩ := walkOn_walked htested.run hi l
  have hboth := htested.trans hsettles
  have htest : cycleOutcome l i ref.fp .noReply [] (s.hungUp l .noReply) = finishCycle u := hwalk
  have hkeeps := (hungUp_keepsPower l .noReply s).trans (cycleOutcome_keepsPower l i ref.fp .noReply [] (s.hungUp l .noReply))
  rw [htest] at hexec hkeeps
  have happlied := applyOutcome_failure_naming (s := finishCycle u) (ref := ref) (by rw [hkeeps.options]; exact hoff) (.inl rfl) (statusOctet x [])
  refine ⟨_, r', hexec, hwalked.congr ((hungUp_alike s l .noReply).trans htested.moves.alike) fun j hj => ?_, ?_, fun j => ?_⟩
  · rw [htested.stored j (.inr (by simp [hj])), hungUp_seq]
  · refine State.CycleStands.congr (hboth.stands (hungUp_sameCycle s l .noReply) ?_ hroom ?_) (naming_seq happlied) (naming_arm happlied)
    · rw [hungUp_arm, hup]
    · rw [hungUp_seq]
  · refine hboth.storedAt ?_ ?_
    · rw [hungUp_seq]
    · rw [naming_seq happlied, finishCycle_entry]

end Sys2Proof.Machine
end

section
/-! PROOFS. The course of a cycle as its obligation states it (O53). -/

namespace Sys2Proof.Machine

variable {s : State} {l : Lane} {e : Entry}

theorem canAsk_eq_true : s.canAsk l e = true ↔
    e.lane = l ∧ (e.state = .live ∨ e.state = .suspect) ∧ (s.lane l).power.state = .live ∧ (s.lane l).census.run = .idle := by
  simp only [State.canAsk, Bool.and_eq_true, beq_iff_eq, Bool.not_eq_true', carriesData_eq_true, laneLive_eq_true, censusRunning_eq_false]
  constructor
  · rintro ⟨⟨⟨rfl, hst⟩, hlive⟩, hidle⟩
    exact ⟨rfl, hst, hlive, hidle⟩
  · rintro ⟨rfl, hst, hlive, hidle⟩
    exact ⟨⟨⟨rfl, hst⟩, hlive⟩, hidle⟩

theorem isDone_eq_true {p : Position} : p.isDone = true ↔ ∃ o data, p = .done o data := by
  cases p with
  | pending l => simp [Position.isDone]
  | done o data => simp [Position.isDone]

/-- Four octets of a payload field, padded with zeros (R165). -/
theorem padTo_four (data : List Octet) : padTo 4 data = (data ++ List.replicate 4 0).take 4 := by
  rw [padTo, List.take_append, List.take_replicate]
  congr 2
  omega

/-- Settles O53: triggers, a grant given back, and the outcomes of a cycle's exchanges. -/
theorem cycleCourse : Obligations.CycleCourse := by
  intro s hreset hroom test turn walked position after stores
  have htest (j : Nat) (fp : Fingerprint) : s.storeOutcome j fp = test j fp := by
    unfold State.storeOutcome
    rfl
  have hturn (l : Lane) : s.turnAt l = turn l := by
    funext j
    cases hc : s.seq.entry j with
    | none => simp only [State.turnAt, turn, hc]
    | some c =>
      cases hn : s.entryNamed c.name with
      | none => simp only [State.turnAt, turn, hc, hn]
      | some y => simp only [State.turnAt, turn, hc, hn, htest, canAsk_eq_true]
  have hwalked {l : Lane} {k : Nat} {r r' : CycleRun} (h : s.Walked l k r r') : walked l k r r' := by
    obtain ⟨hpositions, hother, hended, hasked⟩ := h
    rw [CycleRun.stopAmong, hturn] at hended hasked
    simp only [CycleRun.stopAmong, hturn] at hpositions
    refine ⟨hpositions, hother, ?_⟩
    split
    · next hs => exact hended hs
    · next i hs => exact hasked i hs
  have hposition : Position.octets = position := by
    funext p
    cases p with
    | pending l => rfl
    | done o data => simp only [Position.octets, position, padTo_four, List.length_take]
  have hafter {st : SeqState} {r : CycleRun} {t : State} (h : s.CycleStands st r t) : after st r t := by
    obtain ⟨hended, hrunning⟩ := h
    simp only [isDone_eq_true, hposition] at hended hrunning
    exact ⟨hended, hrunning⟩
  have hstores {r r' : CycleRun} {t : State} {j : Nat} (h : s.Stored r r' t j) : stores r r' t j :=
    ⟨fun ⟨l, hp⟩ he => h.1 l hp he, h.2⟩
  refine ⟨fun c m src tag payload harmed hc => ?_, fun l r d hup hr hd _ hp hlast hlive hx hidle hforward hunaddress hecho hgone => ?_,
    fun l x r i ref hup hx hsource href hk _ hr hi hp => ⟨fun data hph hlen => ?_, fun hph hlast hoff => ?_⟩⟩
  · intro first
    have hfirst : s.firstRun = first := by
      refine congrArg (fun ps => CycleRun.mk ps ⟨0, none⟩ ⟨0, none⟩) (List.map_congr_left fun j _ => ?_)
      unfold State.startPosition
      rfl
    obtain ⟨v, hexec, ha, hentry, hsame, hup, hnumber⟩ := exec_cycleTrigger hreset harmed hc
    obtain ⟨r, r', hwalkedA, hwalkedB, hstands, hstored⟩ := cycleStarted ha hentry hsame hup hroom
    rw [hfirst] at hwalkedA hstored
    exact ⟨_, r, r', hexec, hwalked hwalkedA, hwalked hwalkedB, hafter hstands, fun j => hstores (hstored j),
      (startCycle_frame v).1.trans (by rw [hnumber])⟩
  · intro r'
    obtain ⟨t, hexec, hstands, hstored, hlane, hroster⟩ :=
      cycleGivenBack hreset hup hroom hr hd hp hlast hlive hx hidle hforward hunaddress hecho hgone
    rw [htest] at hstands hstored
    exact ⟨t, hexec, hafter hstands, fun j => hstores (hstored j), hlane, hroster⟩
  · obtain ⟨t, r', hexec, hwalk, hstands, hfresh, hstored⟩ := cycleAnswered hreset hroom hup hx hsource href hk hr hi hp hph hlen
    exact ⟨t, r', hexec, hwalked hwalk, hafter hstands, hfresh, fun j hj => hstores (hstored j hj)⟩
  · obtain ⟨t, r', hexec, hwalk, hstands, hstored⟩ := cycleUnanswered hreset hroom hup hx hsource href hr hi hp hph hlast hoff
    rw [htest] at hwalk
    exact ⟨t, r', hexec, hwalked hwalk, hafter hstands, fun j => hstores (hstored j)⟩

end Sys2Proof.Machine
end
